-- ==== Sys2Proof/Word.lean ====
section
/-!
DEFINITION. The plain value types of the model: bytes and samples as the spec lays them out on the link, the numbers a
field of one, two or four bytes can carry (10 R170, R172), and a table of a fixed number of rows.
-/

namespace Sys2Proof

/-- One byte of a link frame, a field frame or a cue record. -/
abbrev Byte := BitVec 8

/-- One audio sample, signed 16-bit (04 R73). -/
abbrev Sample := BitVec 16

/-- The value of a one-byte field (10 R172). -/
abbrev U8 := Fin 256

/-- The value of a two-byte field (10 R172). -/
abbrev U16 := Fin 65536

/-- The value of a four-byte field (10 R172). -/
abbrev U32 := Fin 4294967296

/-- A table of exactly `n` rows: the channel entries, the jet records, the node records and the like. -/
structure Table (α : Type) (n : Nat) where
  rows : List α
  size : rows.length = n
  deriving DecidableEq, Repr

namespace Table

variable {α : Type} {n : Nat}

/-- The row at index `i`. -/
def get (t : Table α n) (i : Fin n) : α :=
  t.rows[i.val]'(by rw [t.size]; exact i.isLt)

/-- The table with row `i` replaced. -/
def set (t : Table α n) (i : Fin n) (v : α) : Table α n :=
  ⟨t.rows.set i.val v, by simp [t.size]⟩

/-- The rows `f 0` to `f (k - 1)` put before `acc`. -/
def collect (f : Fin n → α) : (k : Nat) → k ≤ n → List α → List α
  | 0, _, acc => acc
  | k + 1, h, acc => collect f k (Nat.le_of_succ_le h) (f ⟨k, h⟩ :: acc)

theorem collect_length (f : Fin n → α) :
    ∀ (k : Nat) (h : k ≤ n) (acc : List α), (collect f k h acc).length = k + acc.length
  | 0, _, acc => by simp [collect]
  | k + 1, h, acc => by simp [collect, collect_length f k]; omega

/-- The table whose row `i` is `f i`. -/
def build (f : Fin n → α) : Table α n :=
  ⟨collect f n (Nat.le_refl n) [], by simp [collect_length]⟩

/-- The table with every row `v`. -/
def fill (v : α) : Table α n :=
  ⟨List.replicate n v, by simp⟩

/-- The indices 0 to `n - 1` in ascending order. -/
def indices (n : Nat) : List (Fin n) :=
  collect id n (Nat.le_refl n) []

end Table

end Sys2Proof
end

