-- ==== Sys2Proof/Config.lean ====
section
/-!
DEFINITION. The capacities the spec fixes for the part, and the free values: results the spec leaves open, held as opaque
constants so that no proof can see them.
-/

namespace Sys2Proof.Config

/-- The wait queue holds at most 16 entries (01 R5). -/
def waitCapacity : Nat := 16

/-- The arrival number at which the Directory renumbers (01 R5). -/
def lastArrival : Nat := 65535

/-- A notice queue holds at most 32 notices (10 R176). -/
def noticeCapacity : Nat := 32

/-- NOTICE_READ returns at most 8 notices (10 R177). -/
def noticesPerRead : Nat := 8

/-- The cue store has 2048 records (03 R43). -/
def cueCount : Nat := 2048

/-- A track's stack holds at most 6 frames (03 R51). -/
def stackCapacity : Nat := 6

/-- A due event takes at most 32 records (03 R57). -/
def recordsPerDueEvent : Nat := 32

/-- The audio block queue holds at most 48 blocks (04 R73). -/
def blockCapacity : Nat := 48

/-- The marker log keeps the last 8 passages (04 R78). -/
def logCapacity : Nat := 8

/-- The greatest value of the show clock and the last play position (04 R67, R79). -/
def lastPosition : Nat := 4294967295

/-- Sample frames in one millisecond (00 Units). -/
def framesPerMs : Nat := 48

/-- A miss count of 3 makes a node LOST (07 R127). -/
def missLimit : Nat := 3

/-- FREE VALUE (log 6): the tag a BAD_FRAME response echoes when the selection ended before the tag byte. The spec says
the tag is echoed as it was received (10 R171) and none was received. Drawn at State.freeCount. -/
opaque missingTag : Nat → U8

/-- CONSTANT OF THE PART (log 18): the part's own format code, the first byte of a stored image. The spec gives it no number
(09 R166). -/
opaque formatCode : Byte

/-- FREE VALUE (log 10): the quotient of 05 R102 for an enabled jet with O[8] = 0, which the tables can hold in SETUP
alone. Drawn at State.freeCount and the jet number. -/
opaque followAtZero : Nat → Nat → Nat

/-- FREE VALUE (log 11): the reported speed of an ONLINE drive node that has never reported one (05 R98), which tables
not yet validated can name in SETUP alone. Drawn at State.freeCount and the header number. -/
opaque unreportedSpeed : Nat → Nat → Nat

end Sys2Proof.Config
end

