-- ==== Sys2Proof/Syntax.lean ====
section
/-!
DEFINITION. The commands of the FS-620: one constructor for each row of spec/opcode_table.json, with the row's operands.
A request carries its port, its tag and the fields of its body at the widths of 10 R172; an event carries what the event
brings from outside.
-/

namespace Sys2Proof

/-- The link ports A, B and C (10 R169). -/
inductive Port where
  | a | b | c
  deriving DecidableEq, Repr

/-- One value for each port. -/
structure PerPort (α : Type) where
  a : α
  b : α
  c : α
  deriving DecidableEq, Repr

/-- The value of one port. -/
def PerPort.get {α : Type} (t : PerPort α) : Port → α
  | .a => t.a
  | .b => t.b
  | .c => t.c

/-- The three values with one port's replaced. -/
def PerPort.set {α : Type} (t : PerPort α) (p : Port) (v : α) : PerPort α :=
  match p with
  | .a => { t with a := v }
  | .b => { t with b := v }
  | .c => { t with c := v }

/-- A set of ports, such as a channel's watchers (01 R1). -/
abbrev PortSet := PerPort Bool

/-- The six bytes of a set value as a SET or RANGE body carries them; the class of the channel says what they mean
(10 R172). -/
structure SetValue where
  b0 : U8
  b1 : U8
  b2 : U8
  b3 : U8
  b4 : U8
  b5 : U8
  deriving DecidableEq, Repr

/-- The sixteen bytes of a cue record (03 R44). -/
abbrev CueRecord := Table Byte 16

/-- The body of an ACK reply by the node type that sends it (07 R120). -/
inductive AckBody where
  | empty
  | drive (speed : U16) (fault : Bool)
  | sense (wind : U16) (low : Bool)
  deriving DecidableEq, Repr

/-- The commands. Each constructor's docstring names its row's rule. -/
inductive Instr where
  /-- CLAIM, R10 to R14. -/
  | claim (port : Port) (tag channel priority wait : U8)
  /-- RELEASE, R16 to R18. -/
  | release (port : Port) (tag channel : U8)
  /-- SET, R21 and R22. -/
  | set (port : Port) (tag channel : U8) (value : SetValue)
  /-- WATCH, R23. -/
  | watch (port : Port) (tag channel : U8)
  /-- UNWATCH, R23. -/
  | unwatch (port : Port) (tag channel : U8)
  /-- INQUIRE, R24. -/
  | inquire (port : Port) (tag channel : U8)
  /-- RANGE, R31. -/
  | range (port : Port) (tag op first count priority : U8) (value : SetValue)
  /-- RANGE_STOP, R38. -/
  | rangeStop (port : Port) (tag : U8)
  /-- RANGE_STATUS, R42. -/
  | rangeStatus (port : Port) (tag : U8)
  /-- RCLAIM_STEP, R33. -/
  | rclaimStep
  /-- RRELEASE_STEP, R34. -/
  | rreleaseStep
  /-- RSET_STEP, R35. -/
  | rsetStep
  /-- RWATCH_STEP, R36. -/
  | rwatchStep
  /-- RUNWATCH_STEP, R36. -/
  | runwatchStep
  /-- CUE_LOAD, R48. -/
  | cueLoad (port : Port) (tag : U8) (start : U16) (count : U8) (records : List CueRecord)
  /-- CUE_READ, R50. -/
  | cueRead (port : Port) (tag : U8) (start : U16) (count : U8)
  /-- TRACK_ARM, R54. -/
  | trackArm (port : Port) (tag track : U8) (cue : U16)
  /-- TRACK_START, R54. -/
  | trackStart (port : Port) (tag track : U8)
  /-- TRACK_PAUSE, R55. -/
  | trackPause (port : Port) (tag track : U8)
  /-- TRACK_RESUME, R55. -/
  | trackResume (port : Port) (tag track : U8)
  /-- TRACK_STOP, R56. -/
  | trackStop (port : Port) (tag track : U8)
  /-- TRACK_STATUS, R66. -/
  | trackStatus (port : Port) (tag track : U8)
  /-- DUE_EVENT of one track, R57. -/
  | dueEvent (track : Fin 4)
  /-- CLOCK_RUN, R69. -/
  | clockRun (port : Port) (tag source : U8) (start : U32)
  /-- CLOCK_STOP, R71. -/
  | clockStop (port : Port) (tag : U8)
  /-- CLOCK_STATUS, R85. -/
  | clockStatus (port : Port) (tag : U8)
  /-- AUDIO_BLOCK, R74; each frame is its left and its right sample. -/
  | audioBlock (port : Port) (tag : U8) (start : U32) (count marker offset : U8) (reserved : List Byte)
      (frames : List (Sample × Sample))
  /-- CLOCK_TICK, R72. -/
  | clockTick
  /-- AUDIO_FRAME, R76. -/
  | audioFrame
  /-- COAST_TICK, R80. -/
  | coastTick
  /-- FRAME_EVENT, R86. -/
  | frameEvent
  /-- ACK of the node addressed, R125. -/
  | ack (body : AckBody)
  /-- BUSY of the node addressed, R126. -/
  | busy
  /-- IDENT of the node addressed with its type byte, R128. -/
  | ident (nodeType : U8)
  /-- BAD_CHECK_REPLY, R127. -/
  | badCheckReply
  /-- REPLY_WINDOW_EXPIRY, R127. -/
  | replyWindowExpiry
  /-- STRAY_REPLY, R124. -/
  | strayReply
  /-- HOLD_TIMER_EXPIRY, R137. -/
  | holdTimerExpiry
  /-- RECALL_EXPIRY of one channel, R19. -/
  | recallExpiry (channel : Fin 177)
  /-- JET_STATUS, R104. -/
  | jetStatus (port : Port) (tag jet : U8)
  /-- HEADER_STATUS, R104. -/
  | headerStatus (port : Port) (tag header : U8)
  /-- FIXTURE_STATUS, R117. -/
  | fixtureStatus (port : Port) (tag fixture : U8)
  /-- NODE_STATUS, R134. -/
  | nodeStatus (port : Port) (tag node : U8)
  /-- SAFETY_STOP, R143. -/
  | safetyStop (port : Port) (tag : U8)
  /-- SAFETY_ACK, R147. -/
  | safetyAck (port : Port) (tag : U8)
  /-- ESTOP_ASSERTED, R141. -/
  | estopAsserted
  /-- ESTOP_RELEASED, R141. -/
  | estopReleased
  /-- INTRUSION_EDGE, R142. -/
  | intrusionEdge
  /-- FREEZE, R149. -/
  | freeze (port : Port) (tag : U8)
  /-- THAW, R150. -/
  | thaw (port : Port) (tag : U8)
  /-- SAFETY_STATUS, R154. -/
  | safetyStatus (port : Port) (tag : U8)
  /-- CONFIG_WRITE with the entry's bytes, R159. -/
  | configWrite (port : Port) (tag table index : U8) (entry : List Byte)
  /-- CONFIG_READ, R160. -/
  | configRead (port : Port) (tag table index : U8)
  /-- CONFIG_SAVE, R166. -/
  | configSave (port : Port) (tag : U8)
  /-- SAVE_END: the storage reports the write as written or as failed, R166. -/
  | saveEnd (written : Bool)
  /-- MODE, R162. -/
  | mode (port : Port) (tag target : U8)
  /-- IDLE_TIMER_EXPIRY, R165. -/
  | idleTimerExpiry
  /-- SHOW_RESET, R168. -/
  | showReset (port : Port) (tag : U8)
  /-- SHOW_RESET_LINE, R168. -/
  | showResetLine
  /-- POWER_ON_RESET with the ESTOP line and the link-reset inputs as found at the end of start-up, R167, R178. -/
  | powerOnReset (estopAsserted : Bool) (linkHeld : PerPort Bool)
  /-- LINK_RESET, R178. -/
  | linkReset (port : Port)
  /-- ERROR_DETAIL, R174. -/
  | errorDetail (port : Port) (tag : U8)
  /-- NOTICE_READ, R177. -/
  | noticeRead (port : Port) (tag : U8)
  /-- IDENTIFY, R179. -/
  | identify (port : Port) (tag : U8)
  /-- SHOW_STATUS, R180. -/
  | showStatus (port : Port) (tag : U8)
  /-- BAD_FRAME: the bytes of a selection that the checks of R171 refuse. -/
  | badFrame (port : Port) (bytes : List Byte)
  /-- RESPONSE_COLLECT: a selection in ANSWERING that clocks out this many bytes, R169. -/
  | responseCollect (port : Port) (clocked : Nat)
  /-- LINK_RESET_RELEASED, R178. -/
  | linkResetReleased (port : Port)
  deriving DecidableEq, Repr

end Sys2Proof
end

