-- ==== Sys2Proof/Machine/State.lean ====
section
/-!
DEFINITION. The state of the FS-620 as plain data: every record the spec gives each block, the command queue, and the state
after power-on reset and start-up from a blank stored image (09 R167).
-/

namespace Sys2Proof.Machine

/-! ## Status codes (10 R173) -/

/-- The status codes of 10 R173, in the order of their codes 0 to 18. -/
inductive Status where
  | ok | accepted | queued | clamped | late | badFrame | badRequest | outOfRange | noRight | wrongMode
  | wrongState | notHolder | heldHigher | waitFull | safed | busy | full | cueInvalid | configInvalid
  deriving DecidableEq, Repr

/-! ## Channel Directory (01) -/

/-- Red, green, blue and white levels (00 Terms). -/
structure Rgbw where
  red : Nat
  green : Nat
  blue : Nat
  white : Nat
  deriving DecidableEq, Repr

/-- A setpoint in a staged slot, in the form of its channel's class (01 R3). -/
inductive Setpoint where
  | height (cm : Nat)
  | colour (levels : Rgbw) (fade : Nat)
  | gain (g : Nat)
  deriving DecidableEq, Repr

/-- The state of a channel entry with the fields present in it: holder and held priority in HELD and RECALLING, the recall
deadline in RECALLING only (01 R1). -/
inductive Hold where
  | free
  | held (holder : Port) (priority : Nat)
  | recalling (holder : Port) (priority deadline : Nat)
  | safed
  deriving DecidableEq, Repr

/-- A channel entry (01 R1). -/
structure ChannelEntry where
  hold : Hold
  watchers : PortSet
  slot : Option Setpoint
  deriving DecidableEq, Repr

/-- An entry of the wait queue (01 R5). -/
structure WaitEntry where
  port : Port
  channel : Fin 177
  priority : Nat
  arrival : Nat
  deriving DecidableEq, Repr

/-- The Channel Directory: the 177 entries, the wait queue in arrival order and the arrival counter (01 R1, R5). -/
structure Directory where
  entries : Table ChannelEntry 177
  waiters : List WaitEntry
  arrivals : Nat
  deriving DecidableEq, Repr

/-! ## Range Engine (02) -/

/-- The operation of a range record with its operand: the claim priority with RCLAIM, the set value with RSET (02 R30). -/
inductive RangeOp where
  | claim (priority : Nat)
  | release
  | set (value : SetValue)
  | watch
  | unwatch
  deriving DecidableEq, Repr

/-- How a range operation ended (02 R37), in the order of the detail codes 0 to 3. -/
inductive EndReason where
  | complete | stopped | safety | setup
  deriving DecidableEq, Repr

/-- An active range record (02 R30). The next channel is always first + done + skipped and is computed. -/
structure RangeRecord where
  issuer : Port
  op : RangeOp
  first : Nat
  count : Nat
  done : Nat
  skipped : Nat
  firstSkipped : Option Nat
  deriving DecidableEq, Repr

/-- The last outcome of the Range Engine (02 R30). -/
structure RangeOutcome where
  issuer : Port
  op : RangeOp
  first : Nat
  count : Nat
  done : Nat
  skipped : Nat
  firstSkipped : Option Nat
  residual : Nat
  reason : EndReason
  deriving DecidableEq, Repr

/-- The Range Engine: its record, idle when absent, and the last outcome (02 R30). -/
structure RangeEngine where
  active : Option RangeRecord
  last : Option RangeOutcome
  deriving DecidableEq, Repr

/-! ## Cue Sequencer (03) -/

/-- The cue store's bytes: a list of (address, byte) pairs with addresses strictly rising and no byte 0; an unlisted
address reads 0 (03 R43). -/
abbrev Memory := List Host.Cell

/-- A stack frame of a track (03 R51). -/
inductive StackFrame where
  | loop (body remaining : Nat) (untilMarker : Option Nat) (seen : Bool)
  | call (returnIndex : Nat)
  deriving DecidableEq, Repr

/-- The fault reasons of a track (03 R51). -/
inductive TrackFault where
  | badRecord | stackFull | stackEmpty | nesting | callRange | windowEnd | runaway
  deriving DecidableEq, Repr

/-- The pause reasons of a track (03 R51). -/
structure PauseReasons where
  owner : Bool
  freeze : Bool
  safety : Bool
  deriving DecidableEq, Repr

/-- The state of a track that is not IDLE, with the field present in it (03 R51). `dueAt` is the model's own: the show
clock value at which the due event falls due (log 4). -/
inductive Phase where
  | armed
  | running (nextDue dueAt : Nat)
  | waiting (marker : Nat)
  | paused (remaining : Nat)
  | faulted (reason : TrackFault)
  deriving DecidableEq, Repr

/-- A track that is not IDLE (03 R51). -/
structure TrackBody where
  owner : Port
  cue : Nat
  stack : List StackFrame
  reasons : PauseReasons
  phase : Phase
  deriving DecidableEq, Repr

/-- A track; absent is IDLE, which has no owner and no list (03 R51). -/
abbrev Track := Option TrackBody

/-! ## Show Clock and Audio Unit (04) -/

/-- The run state of the show clock (04 R67). -/
inductive RunState where
  | stopped | running | stalled
  deriving DecidableEq, Repr

/-- The source of the show clock (04 R67). -/
inductive Source where
  | internal | audio
  deriving DecidableEq, Repr

/-- A marker of a queued block and the play position at which it passes (04 R73). -/
structure Marker where
  id : Nat
  position : Nat
  deriving DecidableEq, Repr

/-- A queued block of music; its frame count is the number of its frames (04 R73). -/
structure Block where
  start : Nat
  marker : Option Marker
  frames : List (Sample × Sample)
  deriving DecidableEq, Repr

/-- One entry of the marker log (04 R78). -/
structure Passage where
  id : Nat
  clock : Nat
  deriving DecidableEq, Repr

/-- One stereo frame of the audio output (04 R76). -/
structure Stereo where
  left : Int
  right : Int
  deriving DecidableEq, Repr

/-- The Show Clock and Audio Unit: the clock record with its stall reasons UNDERRUN and FREEZE (04 R67), the block queue
(R73), the marker log (R78), the active gain (R77) and the frame last put out (R76). -/
structure ClockUnit where
  value : Nat
  run : RunState
  source : Source
  underrun : Bool
  freeze : Bool
  coasting : Bool
  position : Nat
  queue : List Block
  log : List Passage
  gain : Nat
  output : Stereo
  deriving DecidableEq, Repr

/-! ## Jet Shaper (05) -/

/-- A jet's output record (05 R90). -/
structure JetRecord where
  commanded : Nat
  target : Nat
  opening : Nat
  flow : Nat
  scaled : Nat
  granted : Nat
  valve : Nat
  follow : Nat
  deriving DecidableEq, Repr

/-- The state of a header (05 R100), in the order of the detail codes 0 to 2. -/
inductive HeaderState where
  | normal | saturated | pumpLost
  deriving DecidableEq, Repr

/-- A header's record (05 R91). -/
structure HeaderRecord where
  demand : Nat
  available : Nat
  granted : Nat
  scale : Nat
  target : Nat
  commanded : Nat
  actual : Nat
  state : HeaderState
  deriving DecidableEq, Repr

/-- The frame timer as the timebase value of its next expiry (05 R86), the rest indications (R103), and whether every c
and v was 0 after the last frame event (09 R165). -/
structure Shaper where
  frameDue : Nat
  outputsAtRest : Bool
  pumpsAtRest : Bool
  jetsStill : Bool
  deriving DecidableEq, Repr

/-! ## Fixture Mixer (06) -/

/-- Which case of 06 R113 gave a fixture's output. -/
inductive Basis where
  | colour | follow | white | level | mode | disabled
  deriving DecidableEq, Repr

/-- A fixture's record (06 R107). -/
structure FixtureRecord where
  start : Rgbw
  target : Rgbw
  colour : Rgbw
  length : Nat
  step : Nat
  output : Rgbw
  followLevel : Option Nat
  basis : Basis
  deriving DecidableEq, Repr

/-! ## Field Link (07) -/

/-- The types of a Nodes table entry (07 R118). -/
inductive NodeType where
  | none | valve8 | drive | lamp4 | sense
  deriving DecidableEq, Repr

/-- The states of a node (07 R119). -/
inductive NodeState where
  | absent | offline | syncing | online | backoff | lost
  deriving DecidableEq, Repr

/-- The drive feedback of a node's last ACK (07 R119). -/
structure DriveFeedback where
  speed : Nat
  fault : Bool
  deriving DecidableEq, Repr

/-- The sense feedback of a node's last ACK (07 R119). -/
structure SenseFeedback where
  wind : Nat
  low : Bool
  deriving DecidableEq, Repr

/-- A node's record (07 R119). -/
structure NodeRecord where
  state : NodeState
  busyCount : Nat
  missCount : Nat
  skipCount : Nat
  drive : Option DriveFeedback
  sense : Option SenseFeedback
  deriving DecidableEq, Repr

/-- The kinds of frame the part sends on the field bus (07 R120). -/
inductive SentKind where
  | update | syncUpdate | probe
  deriving DecidableEq, Repr

/-- The transmission in flight: its node, frame kind, body as assembled (07 R123), reply window in microseconds, and
whether its end counts against the node (07 R124, R130). -/
structure Transmission where
  node : Fin 32
  kind : SentKind
  body : List Byte
  window : Nat
  counted : Bool
  deriving DecidableEq, Repr

/-- A running sweep: the transmission it is held at, whose node is the current node, and whether it is a probe sweep
(07 R121, R122). -/
structure RunningSweep where
  tx : Transmission
  probing : Bool
  deriving DecidableEq, Repr

/-- The sweep state; IDLE when no sweep runs (07 R121). -/
structure Sweep where
  running : Option RunningSweep
  pending : Bool
  overrun : Bool
  probeCounter : Nat
  deriving DecidableEq, Repr

/-! ## Safety Supervisor (08) -/

/-- The safety state (08 R135). -/
inductive SafetyState where
  | normal | stopping | stopped
  deriving DecidableEq, Repr

/-- The causes of a stop (08 R135), in the order of the cause codes 1 to 4. -/
inductive Cause where
  | estop | intrusion | level | manual
  deriving DecidableEq, Repr

/-- The sensor standing (08 R135, R139). -/
inductive Standing where
  | unseen | present | missing
  deriving DecidableEq, Repr

/-- The wind state (08 R135, R138). -/
inductive Wind where
  | calm | derate | windStop
  deriving DecidableEq, Repr

/-- The freeze record with its freezing port (08 R135, R149 to R151). -/
inductive Freeze where
  | none
  | requested (by_ : Port)
  | inEffect (by_ : Port)
  | thawRequested (by_ : Port)
  deriving DecidableEq, Repr

/-- The Safety Supervisor's record (08 R135). `holdDeadline` absent is an EXPIRED hold timer. -/
structure Supervisor where
  state : SafetyState
  causes : List Cause
  first : Option Cause
  further : Bool
  intrusionPending : Bool
  estopAsserted : Bool
  levelLow : Bool
  standing : Standing
  gust : Nat
  holdDeadline : Option Nat
  wind : Wind
  freeze : Freeze
  deriving DecidableEq, Repr

/-! ## Mode and Configuration Unit (09) -/

/-- The operating modes (09 R155). -/
inductive Mode where
  | setup | dark | live
  deriving DecidableEq, Repr

/-- What start-up found in the stored image (09 R155, R167). -/
inductive StartUp where
  | loaded | blank | bad | invalid
  deriving DecidableEq, Repr

/-- The unit's record (09 R155): `idleDeadline` absent is an idle timer OFF, `saving` absent a save state IDLE. -/
structure ModeUnit where
  mode : Mode
  idleDeadline : Option Nat
  saving : Option Port
  outcome : StartUp
  deriving DecidableEq, Repr

/-- A Port Rights entry (09 R157): the four rights are CONFIG, SHOW, FREEZE and SAFETY. -/
structure PortRights where
  ceiling : Nat
  config : Bool
  showRight : Bool
  freeze : Bool
  safety : Bool
  base : Nat
  length : Nat
  deriving DecidableEq, Repr

/-- A Jets entry (05 R88). -/
structure JetConfig where
  enabled : Bool
  header : Fin 16
  node : Fin 32
  slot : Fin 8
  hMax : Nat
  exposure : Nat
  up : Nat
  down : Nat
  openings : Table Nat 9
  flows : Table Nat 9
  deriving DecidableEq, Repr

/-- A Headers entry (05 R89). -/
structure HeaderConfig where
  enabled : Bool
  driveNode : Fin 32
  qMax : Nat
  sMin : Nat
  rampUp : Nat
  rampDown : Nat
  deriving DecidableEq, Repr

/-- A Fixtures entry (06 R106). -/
structure FixtureConfig where
  enabled : Bool
  node : Fin 32
  slot : Fin 4
  followJet : Option (Fin 128)
  deriving DecidableEq, Repr

/-- The underrun policies (09 R158). -/
inductive Policy where
  | coast | stall
  deriving DecidableEq, Repr

/-- The Global entry (09 R158). -/
structure Global where
  framePeriod : Nat
  recallTimeout : Nat
  wCalm : Nat
  wStop : Nat
  wHyst : Nat
  gustHold : Nat
  policy : Policy
  replyWindow : Nat
  probeInterval : Nat
  whiteLevel : Nat
  idleTime : Nat
  deriving DecidableEq, Repr

/-- The six configuration tables (09 R156). -/
structure Tables where
  rights : PerPort PortRights
  jets : Table JetConfig 128
  headers : Table HeaderConfig 16
  fixtures : Table FixtureConfig 48
  nodes : Table NodeType 32
  global : Global
  deriving DecidableEq, Repr

/-- One configuration entry of any table (09 R156). -/
inductive ConfigEntry where
  | rights (e : PortRights)
  | jet (e : JetConfig)
  | header (e : HeaderConfig)
  | fixture (e : FixtureConfig)
  | node (e : NodeType)
  | global (e : Global)
  deriving DecidableEq, Repr

/-- The stored image (09 R166): erased; spoiled by a write that failed or did not end; or written, with its format code, its
six tables and its CRC-16 (log 18). -/
inductive Image where
  | blank
  | spoiled
  | written (format : Byte) (tables : Tables) (crc : BitVec 16)
  deriving DecidableEq, Repr

/-! ## Link ports (10) -/

/-- The kinds of notice (10 R175), in the order of their codes 1 to 16. -/
inductive NoticeKind where
  | recall | lost | granted | holderChanged | claimDropped | rangeDone | trackState | cueSkipped | underrun
  | audioResumed | headerState | nodeState | safetyState | frozen | thawed | modeChanged
  deriving DecidableEq, Repr

/-- The extra bytes of a notice by its kind (10 R175). -/
inductive NoticeExtra where
  | none
  | range (done skipped : Nat) (firstSkipped : Option Nat) (residual : Nat)
  | cue (index : Nat)
  deriving DecidableEq, Repr

/-- A notice record (10 R175); subject 255 is none. -/
structure Notice where
  kind : NoticeKind
  subject : Nat
  detail : Nat
  clock : Nat
  extra : NoticeExtra
  deriving DecidableEq, Repr

/-- The error detail record of a port (10 R174). -/
structure ErrorDetail where
  status : Status
  kind : Nat
  field : Nat
  index : Nat
  residual : Nat
  deriving DecidableEq, Repr

/-- What CLOCK_STATUS reports (04 R85). -/
structure ClockReport where
  value : Nat
  run : RunState
  source : Source
  underrun : Bool
  freeze : Bool
  coasting : Bool
  position : Nat
  queued : Nat
  span : Option (Nat × Nat)
  gain : Nat
  policy : Policy
  log : List Passage
  deriving DecidableEq, Repr

/-- What NODE_STATUS reports (07 R134). -/
structure NodeReport where
  nodeType : NodeType
  record : NodeRecord
  current : Option (Fin 32)
  pending : Bool
  overrun : Bool
  probeCounter : Nat
  deriving DecidableEq, Repr

/-- What SHOW_STATUS reports (10 R180). -/
structure ShowReport where
  mode : Mode
  safety : SafetyState
  wind : Wind
  value : Nat
  run : RunState
  headers : List HeaderState
  overrun : Bool
  rangeActive : Bool
  frozen : Bool
  deriving DecidableEq, Repr

/-- The body of a response answered OK, as the items of the owning rule; `Body.bytes` in Machine/Encode.lean gives its
bytes (10 R170). -/
inductive Body where
  | empty
  | inquire (entry : ChannelEntry) (remaining : Option Nat) (waiters : List (Port × Nat))
  | rangeStatus (active : Option RangeRecord) (last : Option RangeOutcome)
  | cueRecords (records : List CueRecord)
  | trackStatus (track : Track)
  | audioTaken (trimmed : Nat) (markerDiscarded : Bool)
  | clockStatus (report : ClockReport)
  | jetStatus (enabled : Bool) (header : Fin 16) (record : JetRecord)
  | headerStatus (enabled : Bool) (record : HeaderRecord)
  | fixtureStatus (enabled : Bool) (followJet : Option (Fin 128)) (record : FixtureRecord) (staged : Bool)
  | nodeStatus (report : NodeReport)
  | safetyStatus (record : Supervisor) (takenLow : Bool) (holdRemaining : Nat)
  | configEntry (entry : ConfigEntry)
  | globalEntry (entry : Global) (saving : Option Port) (outcome : StartUp)
  | errorDetail (detail : Option ErrorDetail)
  | notices (lost : Bool) (records : List Notice)
  | identity (port : Port)
  | showStatus (report : ShowReport)
  deriving DecidableEq, Repr

/-- A response (10 R170): its status and its body; the kind and tag it echoes stand in the port's state. -/
structure Response where
  status : Status
  body : Body
  deriving DecidableEq, Repr

/-- The state of a port with the request in progress and the response present in it (10 R169). -/
inductive PortState where
  | ready
  | working (kind tag : Nat)
  | answering (kind tag : Nat) (response : Response)
  deriving DecidableEq, Repr

/-- A link port's record (10 R169), with its link-reset input held asserted or not (R178). -/
structure LinkPort where
  state : PortState
  error : Option ErrorDetail
  notices : List Notice
  lost : Bool
  resetHeld : Bool
  deriving DecidableEq, Repr

/-! ## The whole machine -/

/-- The state of the FS-620. `pending` is the queue of commands waiting, first in first out (log 1); `freeCount` is the
model's own, the point at which free values are drawn (log 25). -/
structure State where
  pending : List Instr
  freeCount : Nat
  now : Nat
  directory : Directory
  range : RangeEngine
  cues : Memory
  tracks : Table Track 4
  clock : ClockUnit
  jets : Table JetRecord 128
  headers : Table HeaderRecord 16
  shaper : Shaper
  fixtures : Table FixtureRecord 48
  fixtureReport : Table FixtureRecord 48
  nodes : Table NodeRecord 32
  sweep : Sweep
  safety : Supervisor
  unit : ModeUnit
  config : Tables
  image : Image
  ports : PerPort LinkPort
  deriving DecidableEq, Repr

/-- Why the machine could stop with a fault. The FS-620 has no machine fault (log 27), so no meaning raises this; the one
constructor stands so that the type is inhabited. Safe: nothing answers it. -/
inductive Fault where
  /-- Raised by nothing: no rule of the spec stops the part. Safe. -/
  | unreachable
  deriving DecidableEq, Repr

/-- Why a command could be refused by the model. No meaning raises either (log 27). -/
inductive Refusal where
  /-- Raised by an arm of `exec` whose command has no meaning yet: none in this model. Safe: the model stops. -/
  | notModelled (mnemonic : String)
  deriving DecidableEq, Repr

/-! ## Values after power-on reset -/

/-- No port. -/
def noPorts : PortSet := ⟨false, false, false⟩

/-- A channel entry after power-on reset (01 R28). -/
def ChannelEntry.reset : ChannelEntry := ⟨.free, noPorts, none⟩

/-- The Directory after power-on reset (01 R28). -/
def Directory.reset : Directory := ⟨Table.fill ChannelEntry.reset, [], 1⟩

/-- The Range Engine after both resets (02 R41). -/
def RangeEngine.reset : RangeEngine := ⟨none, none⟩

/-- Both samples 0 (04 R76). -/
def Stereo.silence : Stereo := ⟨0, 0⟩

/-- The Show Clock and Audio Unit after both resets (04 R84). -/
def ClockUnit.reset : ClockUnit :=
  { value := 0, run := .stopped, source := .internal, underrun := false, freeze := false, coasting := false
    position := 0, queue := [], log := [], gain := 256, output := Stereo.silence }

/-- A jet record after power-on reset (05 R90). -/
def JetRecord.reset : JetRecord := ⟨0, 0, 0, 0, 0, 0, 0, 0⟩

/-- A header record after power-on reset (05 R91). -/
def HeaderRecord.reset : HeaderRecord := ⟨0, 0, 0, 0, 0, 0, 0, .normal⟩

/-- Black. -/
def Rgbw.black : Rgbw := ⟨0, 0, 0, 0⟩

/-- A fixture record after power-on reset (06 R108). -/
def FixtureRecord.reset : FixtureRecord :=
  ⟨Rgbw.black, Rgbw.black, Rgbw.black, 0, 0, Rgbw.black, none, .mode⟩

/-- A node record as start-up or a change of type makes it: ABSENT for type NONE, OFFLINE for any other (07 R130, R133). -/
def NodeRecord.fresh (t : NodeType) : NodeRecord :=
  ⟨match t with | .none => .absent | _ => .offline, 0, 0, 0, none, none⟩

/-- The sweep state after power-on reset (07 R133). -/
def Sweep.reset : Sweep := ⟨none, false, false, 0⟩

/-- The Supervisor's record after power-on reset, before the ESTOP line is read (08 R153). -/
def Supervisor.reset : Supervisor :=
  { state := .normal, causes := [], first := none, further := false, intrusionPending := false
    estopAsserted := false, levelLow := false, standing := .unseen, gust := 0, holdDeadline := none
    wind := .calm, freeze := .none }

/-- The factory default of the Port Rights table (09 R158). -/
def PortRights.factory : PerPort PortRights :=
  { a := ⟨2, true, true, false, false, 0, 1024⟩
    b := ⟨2, true, true, false, false, 1024, 512⟩
    c := ⟨3, true, true, true, true, 1536, 512⟩ }

/-- The factory default of a Jets entry (09 R158). -/
def JetConfig.factory : JetConfig :=
  { enabled := false, header := 0, node := 0, slot := 0, hMax := 1000, exposure := 0, up := 16, down := 16
    openings := Table.fill 0, flows := Table.fill 0 }

/-- The factory default of a Headers entry (09 R158). -/
def HeaderConfig.factory : HeaderConfig := ⟨false, 0, 1000, 0, 10, 10⟩

/-- The factory default of a Fixtures entry (09 R158). -/
def FixtureConfig.factory : FixtureConfig := ⟨false, 0, 0, none⟩

/-- The factory default of the Global entry (09 R158). -/
def Global.factory : Global :=
  { framePeriod := 20, recallTimeout := 500, wCalm := 40, wStop := 180, wHyst := 20, gustHold := 3000
    policy := .coast, replyWindow := 500, probeInterval := 50, whiteLevel := 160, idleTime := 30 }

/-- The factory defaults of the six tables (09 R158). -/
def Tables.factory : Tables :=
  { rights := PortRights.factory, jets := Table.fill JetConfig.factory, headers := Table.fill HeaderConfig.factory
    fixtures := Table.fill FixtureConfig.factory, nodes := Table.fill .none, global := Global.factory }

/-- A link port after power-on reset, its link-reset input as found (10 R169, R178). -/
def LinkPort.reset (held : Bool) : LinkPort := ⟨.ready, none, [], false, held⟩

/-- The machine after power-on reset and start-up (09 R167) of a part whose stored image is blank, with the ESTOP line and
every link-reset input released (log 16): the factory defaults are loaded, the mode is SETUP and the outcome BLANK. -/
def State.reset : State :=
  { pending := []
    freeCount := 0
    now := 0
    directory := Directory.reset
    range := RangeEngine.reset
    cues := []
    tracks := Table.fill none
    clock := ClockUnit.reset
    jets := Table.fill JetRecord.reset
    headers := Table.fill HeaderRecord.reset
    shaper := ⟨20, true, true, true⟩
    fixtures := Table.fill FixtureRecord.reset
    fixtureReport := Table.fill FixtureRecord.reset
    nodes := Table.fill (NodeRecord.fresh .none)
    sweep := Sweep.reset
    safety := Supervisor.reset
    unit := ⟨.setup, none, none, .blank⟩
    config := Tables.factory
    image := .blank
    ports := ⟨LinkPort.reset false, LinkPort.reset false, LinkPort.reset false⟩ }

end Sys2Proof.Machine
end

