-- ==== Sys2Proof/Machine/Ops.lean ====
section
/-!
DEFINITION. The named operations the commands share: posting notices (10 R175, R176), taking a request at a port and
forming its response (R169, R174), the cue store's bytes (03 R43), and reading and replacing the records of State.
-/

namespace Sys2Proof.Machine

/-! ## Codes carried in notices and bodies -/

/-- The three ports in order. -/
def allPorts : List Port := [.a, .b, .c]

/-- The code of a port in a body: 0 for A, 1 for B, 2 for C (10 R170). -/
def portCode : Port → Nat
  | .a => 0
  | .b => 1
  | .c => 2

/-- The detail code of HOLDER_CHANGED naming a holder (01 R9). -/
def holderDetail : Port → Nat
  | .a => 1
  | .b => 2
  | .c => 3

/-- The cause codes 1 to 4 (08 R135). -/
def causeCode : Cause → Nat
  | .estop => 1
  | .intrusion => 2
  | .level => 3
  | .manual => 4

/-- The subject of a notice that has none (10 R175). -/
def noSubject : Nat := 255

/-! ## Notices (10 R175, R176) -/

/-- A notice joins a queue that holds fewer than 32; otherwise it is discarded and the lost-notice flag set (R176). -/
def LinkPort.receive (lp : LinkPort) (n : Notice) : LinkPort :=
  if lp.notices.length < Config.noticeCapacity then { lp with notices := lp.notices ++ [n] }
  else { lp with lost := true }

/-- The record of a port. -/
def State.port (s : State) (p : Port) : LinkPort := s.ports.get p

/-- The state with a port's record replaced. -/
def State.setPort (s : State) (p : Port) (lp : LinkPort) : State := { s with ports := s.ports.set p lp }

/-- Posts a finished notice to a port. -/
def State.deliver (s : State) (p : Port) (n : Notice) : State := s.setPort p ((s.port p).receive n)

/-- Posts a notice stamped with the show clock as it stands (11 R182). -/
def State.post (s : State) (p : Port) (kind : NoticeKind) (subject detail : Nat) (extra : NoticeExtra := .none) : State :=
  s.deliver p ⟨kind, subject, detail, s.clock.value, extra⟩

/-- Posts a notice to each port of a set. -/
def State.postTo (s : State) (ports : PortSet) (kind : NoticeKind) (subject detail : Nat) : State :=
  allPorts.foldl (fun t p => if ports.get p then t.post p kind subject detail else t) s

/-- Every port. -/
def everyPort : PortSet := ⟨true, true, true⟩

/-- Posts a notice to each of the three ports. -/
def State.postAll (s : State) (kind : NoticeKind) (subject detail : Nat) : State :=
  s.postTo everyPort kind subject detail

/-- The attention line of a port: asserted exactly when its queue is not empty (10 R176). -/
def State.attention (s : State) (p : Port) : Bool := !(s.port p).notices.isEmpty

/-! ## Requests and responses (10 R169, R174) -/

/-- What an owning block answers: the status, the items of the body, and what the error detail of a refusal carries. -/
structure Answer where
  status : Status
  body : Body := .empty
  field : Nat := 0
  index : Nat := 0
  residual : Nat := 0
  deriving DecidableEq, Repr

/-- The answer OK with no items. -/
def Answer.ok : Answer := { status := .ok }

/-- The answer OK with the items of the owning rule. -/
def Answer.report (b : Body) : Answer := { status := .ok, body := b }

/-- A refusal that names a field, 0 for none (10 R171). -/
def Answer.refuse (st : Status) (field : Nat := 0) : Answer := { status := st, field := field }

/-- OK, ACCEPTED, QUEUED and CLAMPED are answers of a request taken; every other code is a refusal (10 R173). -/
def Status.isRefusal : Status → Bool
  | .ok => false
  | .accepted => false
  | .queued => false
  | .clamped => false
  | _ => true

/-- The kind code of ERROR_DETAIL (10 R172). -/
def errorDetailKind : Nat := 0x70

/-- The error detail a response leaves at its port (10 R174). -/
def nextErrorDetail (old : Option ErrorDetail) (kind : Nat) (a : Answer) : Option ErrorDetail :=
  if a.status.isRefusal then some ⟨a.status, kind, a.field, a.index, a.residual⟩
  else if kind = errorDetailKind then old
  else none

/-- The body of the response: none with any status but OK (10 R170). -/
def Answer.responseBody (a : Answer) : Body :=
  match a.status with
  | .ok => a.body
  | _ => .empty

/-- The port forms the response to its request in progress: it becomes ANSWERING and its error detail is set
(10 R169, R174). -/
def State.respond (s : State) (p : Port) (kind tag : Nat) (a : Answer) : State :=
  let lp := s.port p
  s.setPort p { lp with
    state := .answering kind tag ⟨a.status, a.responseBody⟩
    error := nextErrorDetail lp.error kind a }

/-- A port takes a frame while it is READY and its link-reset input is not held asserted (10 R169, R178). -/
def State.takesFrame (s : State) (p : Port) : Bool :=
  (s.port p).state == .ready && !(s.port p).resetHeld

/-- The port becomes WORKING with the request in progress (10 R169). -/
def State.beginRequest (s : State) (p : Port) (kind tag : Nat) : State :=
  s.setPort p { s.port p with state := .working kind tag }

/-- One request: the port becomes WORKING, the owning block acts and answers, and the port forms the response. A frame sent
to a port that is WORKING, ANSWERING or held in link reset is lost without effect (10 R169, R178); one that is sent in ANSWERING and is
as long as the response leaves the port ANSWERING all the same (DEDUCED, log 5). -/
def State.request (s : State) (p : Port) (kind : Nat) (tag : U8) (act : State → State × Answer) : State :=
  if s.takesFrame p then
    let r := act (s.beginRequest p kind tag.val)
    r.1.respond p kind tag.val r.2
  else s

/-! ## The cue store's bytes (03 R43) -/

/-- The byte at an address; an unlisted address reads 0, the content of an EMPTY record. -/
def Memory.read : Memory → Nat → Byte
  | [], _ => 0
  | (b, w) :: rest, a => if a = b then w else if a < b then 0 else Memory.read rest a

/-- Writes a byte, keeping the addresses rising and no byte 0 listed. -/
def Memory.write : Memory → Nat → Byte → Memory
  | [], a, v => if v = 0 then [] else [(a, v)]
  | (b, w) :: rest, a, v =>
    if a < b then (if v = 0 then (b, w) :: rest else (a, v) :: (b, w) :: rest)
    else if a = b then (if v = 0 then rest else (a, v) :: rest)
    else (b, w) :: Memory.write rest a v

/-- The canonical form above a floor: addresses strictly rising from `low` on, and no byte 0 listed. -/
def Memory.wfFrom : Nat → Memory → Bool
  | _, [] => true
  | low, (b, w) :: rest => decide (low ≤ b) && decide (w ≠ 0) && Memory.wfFrom (b + 1) rest

/-- The canonical form of the cue store's bytes. -/
def Memory.wf (m : Memory) : Bool := Memory.wfFrom 0 m

/-- Writes consecutive bytes from an address on. -/
def Memory.writeBytes : Memory → Nat → List Byte → Memory
  | m, _, [] => m
  | m, a, v :: rest => Memory.writeBytes (Memory.write m a v) (a + 1) rest

/-- The record at a store index: its sixteen bytes (03 R44). -/
def Memory.record (m : Memory) (index : Nat) : CueRecord :=
  Table.build fun k => Memory.read m (16 * index + k.val)

/-- Replaces the record at a store index. -/
def Memory.setRecord (m : Memory) (index : Nat) (r : CueRecord) : Memory :=
  Memory.writeBytes m (16 * index) r.rows

/-! ## Records of State -/

/-- The channel entry of a channel (01 R1). -/
def State.entry (s : State) (ch : Fin 177) : ChannelEntry := s.directory.entries.get ch

/-- Replaces a channel entry. -/
def State.setEntry (s : State) (ch : Fin 177) (e : ChannelEntry) : State :=
  { s with directory := { s.directory with entries := s.directory.entries.set ch e } }

/-- Replaces the wait queue; the arrival counter restarts at 1 when the list becomes empty (01 R5). -/
def State.setWaiters (s : State) (l : List WaitEntry) : State :=
  { s with directory := { s.directory with
      waiters := l
      arrivals := if l.isEmpty then 1 else s.directory.arrivals } }

/-- The track of a track number (03 R51). -/
def State.track (s : State) (t : Fin 4) : Track := s.tracks.get t

/-- Replaces a track. -/
def State.setTrack (s : State) (t : Fin 4) (v : Track) : State := { s with tracks := s.tracks.set t v }

/-- Replaces the clock unit's record. -/
def State.setClock (s : State) (c : ClockUnit) : State := { s with clock := c }

/-- The node record of a node (07 R119). -/
def State.node (s : State) (n : Fin 32) : NodeRecord := s.nodes.get n

/-- Replaces a node record. -/
def State.setNode (s : State) (n : Fin 32) (r : NodeRecord) : State := { s with nodes := s.nodes.set n r }

/-- Replaces the Supervisor's record. -/
def State.setSafety (s : State) (r : Supervisor) : State := { s with safety := r }

/-- Replaces the unit's record. -/
def State.setUnit (s : State) (u : ModeUnit) : State := { s with unit := u }

/-- The Port Rights entry of a port (09 R157). -/
def State.rights (s : State) (p : Port) : PortRights := s.config.rights.get p

/-- The channel of AUD (00 Channels). -/
def audChannel : Fin 177 := 176

/-- The port that holds a channel, in HELD or RECALLING (01 R1). -/
def Hold.holder : Hold → Option Port
  | .free => none
  | .held p _ => some p
  | .recalling p _ _ => some p
  | .safed => none

/-- The clock authority: the port that holds AUD, in HELD or RECALLING (04 R68). -/
def State.audHolder (s : State) : Option Port := (s.entry audChannel).hold.holder

/-- Posts a notice to the holder of AUD, if there is one (04 R68). -/
def State.postAud (s : State) (kind : NoticeKind) (detail : Nat) : State :=
  match s.audHolder with
  | some p => s.post p kind 176 detail
  | none => s

end Sys2Proof.Machine
end

