-- ==== Sys2Proof/Machine/Flags.lean ====
section
/-!
DEFINITION. The indications computed from the state that several blocks read: whether a freeze is in effect, whether the
level is taken as LOW, whether a track is RUNNING or WAITING, and the idle condition with its timer (09 R165).
-/

namespace Sys2Proof.Machine

/-- A freeze is in effect while the freeze record is IN_EFFECT or THAW_REQUESTED (08 R151). -/
def Freeze.isInEffect : Freeze → Bool
  | .none => false
  | .requested _ => false
  | .inEffect _ => true
  | .thawRequested _ => true

/-- Whether a freeze is in effect. -/
def State.frozen (s : State) : Bool := s.safety.freeze.isInEffect

/-- The level is taken as LOW whenever the field is LOW or the sensor standing is MISSING (08 R140). -/
def Supervisor.takenLow (r : Supervisor) : Bool := r.levelLow || r.standing == .missing

/-- A track state without its fields, for the comparison of states (03 R51, R52). -/
inductive TrackName where
  | idle | armed | running | waiting | paused | faulted
  deriving DecidableEq, Repr

/-- The state of a track (03 R51). -/
def trackName : Track → TrackName
  | none => .idle
  | some b =>
    match b.phase with
    | .armed => .armed
    | .running _ _ => .running
    | .waiting _ => .waiting
    | .paused _ => .paused
    | .faulted _ => .faulted

/-- A track that is RUNNING or WAITING: it holds CLOCK_RUN, CLOCK_STOP and LIVE to DARK refused (04 R69, R71, 09 R162). -/
def trackMoves (t : Track) : Bool :=
  match trackName t with
  | .running => true
  | .waiting => true
  | _ => false

/-- Whether any track is RUNNING or WAITING. -/
def State.anyTrackMoves (s : State) : Bool := s.tracks.rows.any trackMoves

/-- The idle condition (09 R165). -/
def State.idleCondition (s : State) : Bool :=
  s.unit.mode == .live && !s.anyTrackMoves && s.clock.run == .stopped && s.shaper.jetsStill

/-- One evaluation of the idle condition (09 R165). -/
def State.evalIdle (s : State) : State :=
  match s.unit.idleDeadline with
  | none =>
    if s.idleCondition && s.config.global.idleTime != 0 then
      s.setUnit { s.unit with idleDeadline := some (s.now + s.config.global.idleTime * 60000) }
    else s
  | some _ => if s.idleCondition then s else s.setUnit { s.unit with idleDeadline := none }

/-- Whether a command changed any track's state, the clock's run state or the mode: the moments, beside the frame event, at
which the unit evaluates the idle condition (09 R165). -/
def idleMatters (before after : State) : Bool :=
  before.tracks.rows.map trackName != after.tracks.rows.map trackName
    || before.clock.run != after.clock.run || before.unit.mode != after.unit.mode

/-- The state after a command, with the idle condition evaluated where the command changed what it depends on (09 R165,
log 23). -/
def settleIdle (before after : State) : State :=
  if idleMatters before after then after.evalIdle else after

end Sys2Proof.Machine
end

