-- ==== Sys2Proof/Decode.lean ====
section
/-!
DEFINITION. The link frames of 10 R170 to R172: the CRC-16, the big-endian fields, the checks a port makes of a request
frame (R171), the request each frame spells, and the frame of each request. The table gives no row any bits, so
`decodeTableWord` answers none.
-/

namespace Sys2Proof

/-- The command a word spells by the table's bits: none, because spec/opcode_table.json gives no row any bits. -/
def decodeTableWord (_nbits _w : Nat) : Option Instr := none

/-! ## Bytes -/

/-- The byte of a number below 256; a greater number's low eight bits. -/
def byteOf (n : Nat) : Byte := BitVec.ofNat 8 n

/-- The one-byte field a byte carries. -/
def fieldOf (b : Byte) : U8 := ⟨b.toNat, b.isLt⟩

/-- The two-byte field of two bytes, most significant first (10 R170). -/
def field16 (h l : Byte) : U16 := ⟨h.toNat * 256 + l.toNat, by have := h.isLt; have := l.isLt; omega⟩

/-- The four-byte field of four bytes, most significant first (10 R170). -/
def field32 (b3 b2 b1 b0 : Byte) : U32 :=
  ⟨b3.toNat * 16777216 + b2.toNat * 65536 + b1.toNat * 256 + b0.toNat, by
    have := b3.isLt; have := b2.isLt; have := b1.isLt; have := b0.isLt; omega⟩

/-- A number in one byte. -/
def be1 (n : Nat) : List Byte := [byteOf n]

/-- A number in two bytes, most significant first. -/
def be2 (n : Nat) : List Byte := [byteOf (n / 256), byteOf n]

/-- A number in four bytes, most significant first. -/
def be4 (n : Nat) : List Byte := [byteOf (n / 16777216), byteOf (n / 65536), byteOf (n / 256), byteOf n]

/-- A number in eight bytes, most significant first. -/
def be8 (n : Nat) : List Byte := be4 (n / 4294967296) ++ be4 n

/-- A sample of two bytes, most significant first (04 R74). -/
def sampleOf (h l : Byte) : Sample := h ++ l

/-- The two bytes of a sample, most significant first. -/
def sampleBytes (s : Sample) : List Byte := [s.extractLsb' 8 8, s.extractLsb' 0 8]

/-- A count field of which 0 stands for `most` (00 Counts of zero). -/
def resolveCount (most : Nat) (n : Nat) : Nat := if n = 0 then most else n

/-! ## CRC-16 (10 R170) -/

/-- One bit of the CRC-16 with the polynomial x^16 + x^12 + x^5 + 1, most significant bit first. -/
def crcBit (crc : BitVec 16) : BitVec 16 :=
  if crc.msb then (crc <<< 1) ^^^ 0x1021#16 else crc <<< 1

/-- One byte of the CRC-16. -/
def crcByte (crc : BitVec 16) (b : Byte) : BitVec 16 :=
  crcBit (crcBit (crcBit (crcBit (crcBit (crcBit (crcBit (crcBit (crc ^^^ (b ++ 0#8)))))))))

/-- The CRC-16 of a byte string, with an initial value of all ones and no final inversion (10 R170). -/
def crc16 (bytes : List Byte) : BitVec 16 := bytes.foldl crcByte 0xFFFF#16

/-- The two bytes of the CRC-16, most significant first. -/
def crcBytes (bytes : List Byte) : List Byte := sampleBytes (crc16 bytes)

/-! ## Request bodies (10 R172) -/

/-- The length of a configuration entry by its table code; absent for a code outside 1 to 6 (10 R172). -/
def entryLength : Nat → Option Nat
  | 1 => some 6
  | 2 => some 47
  | 3 => some 8
  | 4 => some 4
  | 5 => some 1
  | 6 => some 17
  | _ => none

/-- Consecutive groups of sixteen bytes; bytes left over at the end are dropped. -/
def splitRecords : List Byte → List CueRecord
  | b0 :: b1 :: b2 :: b3 :: b4 :: b5 :: b6 :: b7 :: b8 :: b9 :: b10 :: b11 :: b12 :: b13 :: b14 :: b15 :: rest =>
    ⟨[b0, b1, b2, b3, b4, b5, b6, b7, b8, b9, b10, b11, b12, b13, b14, b15], rfl⟩ :: splitRecords rest
  | _ => []

/-- Consecutive stereo frames of four bytes, left then right (04 R74). -/
def splitFrames : List Byte → List (Sample × Sample)
  | lh :: ll :: rh :: rl :: rest => (sampleOf lh ll, sampleOf rh rl) :: splitFrames rest
  | _ => []

/-- The length check of CUE_LOAD: the records are as many as the count says, the count at most 16 (10 R171, R172, log 7). -/
def cueLoadFits (count : Nat) (recordBytes : Nat) : Bool :=
  count ≤ 16 && recordBytes == 16 * resolveCount 16 count

/-- The length check of AUDIO_BLOCK: nine reserved bytes and four bytes a frame (04 R74, 10 R171). -/
def audioFits (count : Nat) (restBytes : Nat) : Bool :=
  restBytes == 9 + 4 * resolveCount 256 count

/-- The length check of CONFIG_WRITE: a table code outside 1 to 6 passes it (10 R171). -/
def configWriteFits (table : Nat) (entryBytes : Nat) : Bool :=
  match entryLength table with
  | some n => entryBytes == n
  | none => true

/-- The request a body spells under its kind code, where the kind is one of R172 and the length is the one the kind has
(10 R171 checks 3 and 4, R172). -/
def parseBody (p : Port) (tag : U8) (kind : Nat) (body : List Byte) : Option Instr :=
  match kind, body with
  | 0x01, [ch, pr, w] => some (.claim p tag (fieldOf ch) (fieldOf pr) (fieldOf w))
  | 0x02, [ch] => some (.release p tag (fieldOf ch))
  | 0x03, [ch, v0, v1, v2, v3, v4, v5] =>
    some (.set p tag (fieldOf ch) ⟨fieldOf v0, fieldOf v1, fieldOf v2, fieldOf v3, fieldOf v4, fieldOf v5⟩)
  | 0x04, [ch] => some (.watch p tag (fieldOf ch))
  | 0x05, [ch] => some (.unwatch p tag (fieldOf ch))
  | 0x06, [ch] => some (.inquire p tag (fieldOf ch))
  | 0x10, [op, first, count, pr, v0, v1, v2, v3, v4, v5] =>
    some (.range p tag (fieldOf op) (fieldOf first) (fieldOf count) (fieldOf pr)
      ⟨fieldOf v0, fieldOf v1, fieldOf v2, fieldOf v3, fieldOf v4, fieldOf v5⟩)
  | 0x11, [] => some (.rangeStop p tag)
  | 0x12, [] => some (.rangeStatus p tag)
  | 0x20, sh :: sl :: count :: records =>
    if cueLoadFits count.toNat records.length then
      some (.cueLoad p tag (field16 sh sl) (fieldOf count) (splitRecords records))
    else none
  | 0x21, [sh, sl, count] => some (.cueRead p tag (field16 sh sl) (fieldOf count))
  | 0x22, [t, ch, cl] => some (.trackArm p tag (fieldOf t) (field16 ch cl))
  | 0x23, [t] => some (.trackStart p tag (fieldOf t))
  | 0x24, [t] => some (.trackPause p tag (fieldOf t))
  | 0x25, [t] => some (.trackResume p tag (fieldOf t))
  | 0x26, [t] => some (.trackStop p tag (fieldOf t))
  | 0x27, [t] => some (.trackStatus p tag (fieldOf t))
  | 0x30, [src, b3, b2, b1, b0] => some (.clockRun p tag (fieldOf src) (field32 b3 b2 b1 b0))
  | 0x31, [] => some (.clockStop p tag)
  | 0x33, [] => some (.clockStatus p tag)
  | 0x32, b3 :: b2 :: b1 :: b0 :: count :: marker :: offset :: rest =>
    if audioFits count.toNat rest.length then
      some (.audioBlock p tag (field32 b3 b2 b1 b0) (fieldOf count) (fieldOf marker) (fieldOf offset) (rest.take 9)
        (splitFrames (rest.drop 9)))
    else none
  | 0x40, [n] => some (.jetStatus p tag (fieldOf n))
  | 0x41, [n] => some (.headerStatus p tag (fieldOf n))
  | 0x42, [n] => some (.fixtureStatus p tag (fieldOf n))
  | 0x43, [n] => some (.nodeStatus p tag (fieldOf n))
  | 0x50, [] => some (.safetyStop p tag)
  | 0x51, [] => some (.safetyAck p tag)
  | 0x52, [] => some (.freeze p tag)
  | 0x53, [] => some (.thaw p tag)
  | 0x54, [] => some (.safetyStatus p tag)
  | 0x60, table :: index :: entry =>
    if configWriteFits table.toNat entry.length then
      some (.configWrite p tag (fieldOf table) (fieldOf index) entry)
    else none
  | 0x60, [table] => if configWriteFits table.toNat 0 then some (.configWrite p tag (fieldOf table) 0 []) else none
  | 0x61, [table, index] => some (.configRead p tag (fieldOf table) (fieldOf index))
  | 0x62, [] => some (.configSave p tag)
  | 0x63, [t] => some (.mode p tag (fieldOf t))
  | 0x64, [] => some (.showReset p tag)
  | 0x70, [] => some (.errorDetail p tag)
  | 0x71, [] => some (.noticeRead p tag)
  | 0x72, [] => some (.identify p tag)
  | 0x73, [] => some (.showStatus p tag)
  | _, _ => none

/-- The bytes of a set value. -/
def SetValue.bytes (v : SetValue) : List Byte :=
  [v.b0, v.b1, v.b2, v.b3, v.b4, v.b5].map fun b => byteOf b.val

/-- The port, tag, kind code and body of a request; absent for an event (10 R172). -/
def requestParts : Instr → Option (Port × U8 × Nat × List Byte)
  | .claim p tag ch pr w => some (p, tag, 0x01, [byteOf ch, byteOf pr, byteOf w])
  | .release p tag ch => some (p, tag, 0x02, [byteOf ch])
  | .set p tag ch v => some (p, tag, 0x03, byteOf ch :: v.bytes)
  | .watch p tag ch => some (p, tag, 0x04, [byteOf ch])
  | .unwatch p tag ch => some (p, tag, 0x05, [byteOf ch])
  | .inquire p tag ch => some (p, tag, 0x06, [byteOf ch])
  | .range p tag op first count pr v =>
    some (p, tag, 0x10, byteOf op :: byteOf first :: byteOf count :: byteOf pr :: v.bytes)
  | .rangeStop p tag => some (p, tag, 0x11, [])
  | .rangeStatus p tag => some (p, tag, 0x12, [])
  | .rclaimStep => none
  | .rreleaseStep => none
  | .rsetStep => none
  | .rwatchStep => none
  | .runwatchStep => none
  | .cueLoad p tag start count records =>
    some (p, tag, 0x20, be2 start ++ byteOf count :: (records.map fun r => r.rows).flatten)
  | .cueRead p tag start count => some (p, tag, 0x21, be2 start ++ [byteOf count])
  | .trackArm p tag t cue => some (p, tag, 0x22, byteOf t :: be2 cue)
  | .trackStart p tag t => some (p, tag, 0x23, [byteOf t])
  | .trackPause p tag t => some (p, tag, 0x24, [byteOf t])
  | .trackResume p tag t => some (p, tag, 0x25, [byteOf t])
  | .trackStop p tag t => some (p, tag, 0x26, [byteOf t])
  | .trackStatus p tag t => some (p, tag, 0x27, [byteOf t])
  | .dueEvent _ => none
  | .clockRun p tag src start => some (p, tag, 0x30, byteOf src :: be4 start)
  | .clockStop p tag => some (p, tag, 0x31, [])
  | .clockStatus p tag => some (p, tag, 0x33, [])
  | .audioBlock p tag start count marker offset reserved frames =>
    some (p, tag, 0x32, be4 start ++ byteOf count :: byteOf marker :: byteOf offset ::
      (reserved ++ (frames.map fun f => sampleBytes f.1 ++ sampleBytes f.2).flatten))
  | .clockTick => none
  | .audioFrame => none
  | .coastTick => none
  | .frameEvent => none
  | .ack _ => none
  | .busy => none
  | .ident _ => none
  | .badCheckReply => none
  | .replyWindowExpiry => none
  | .strayReply => none
  | .holdTimerExpiry => none
  | .recallExpiry _ => none
  | .jetStatus p tag n => some (p, tag, 0x40, [byteOf n])
  | .headerStatus p tag n => some (p, tag, 0x41, [byteOf n])
  | .fixtureStatus p tag n => some (p, tag, 0x42, [byteOf n])
  | .nodeStatus p tag n => some (p, tag, 0x43, [byteOf n])
  | .safetyStop p tag => some (p, tag, 0x50, [])
  | .safetyAck p tag => some (p, tag, 0x51, [])
  | .estopAsserted => none
  | .estopReleased => none
  | .intrusionEdge => none
  | .freeze p tag => some (p, tag, 0x52, [])
  | .thaw p tag => some (p, tag, 0x53, [])
  | .safetyStatus p tag => some (p, tag, 0x54, [])
  | .configWrite p tag table index entry => some (p, tag, 0x60, byteOf table :: byteOf index :: entry)
  | .configRead p tag table index => some (p, tag, 0x61, [byteOf table, byteOf index])
  | .configSave p tag => some (p, tag, 0x62, [])
  | .saveEnd _ => none
  | .mode p tag t => some (p, tag, 0x63, [byteOf t])
  | .idleTimerExpiry => none
  | .showReset p tag => some (p, tag, 0x64, [])
  | .showResetLine => none
  | .powerOnReset _ _ => none
  | .linkReset _ => none
  | .errorDetail p tag => some (p, tag, 0x70, [])
  | .noticeRead p tag => some (p, tag, 0x71, [])
  | .identify p tag => some (p, tag, 0x72, [])
  | .showStatus p tag => some (p, tag, 0x73, [])
  | .badFrame _ _ => none
  | .responseCollect _ _ => none
  | .linkResetReleased _ => none

/-! ## Request frames (10 R170, R171) -/

/-- Which answer the frame checks of 10 R171 give a frame that fails them. -/
inductive FrameFault where
  | badFrame | badRequest
  deriving DecidableEq, Repr

/-- The greatest body length (10 R170). -/
def maxBody : Nat := 1040

/-- The frame of a request: kind, tag, body length, body and CRC-16 (10 R170). -/
def requestFrame (kind : Nat) (tag : U8) (body : List Byte) : List Byte :=
  let head := byteOf kind :: byteOf tag :: (be2 body.length ++ body)
  head ++ crcBytes head

/-- Checks 1 to 4 of 10 R171 on the bytes of a selection of port `p`: the request they spell, or the answer the first
failing check gives. -/
def checkFrame (p : Port) (bytes : List Byte) : Except FrameFault Instr :=
  match bytes with
  | kind :: tag :: nh :: nl :: rest =>
    let n := (field16 nh nl).val
    if n ≤ maxBody ∧ rest.length = n + 2 then
      if rest.drop n = crcBytes (kind :: tag :: nh :: nl :: rest.take n) then
        match parseBody p (fieldOf tag) kind.toNat (rest.take n) with
        | some i => .ok i
        | none => .error .badRequest
      else .error .badFrame
    else .error .badFrame
  | _ => .error .badFrame

/-- The request frame that spells a command; absent for an event (10 R170, R172). -/
def encodeFrame (i : Instr) : Option (List Byte) :=
  match requestParts i with
  | some (_, tag, kind, body) => some (requestFrame kind tag body)
  | none => none

/-- The port a request is sent on; absent for an event. -/
def requestPort (i : Instr) : Option Port :=
  match requestParts i with
  | some (p, _, _, _) => some p
  | none => none

end Sys2Proof
end

