-- ==== Sys2Proof/Machine/Operands.lean ====
section
/-!
DEFINITION. The forms operands take: setpoints out of the bytes of a SET or RANGE body and their clamps (01 R3, R22,
10 R172), cue records' fields and their validation (03 R44 to R46), and configuration entries out of their bytes with the
range check of each field (05 R88, R89, 06 R106, 07 R118, 09 R157, R158, R159).
-/

namespace Sys2Proof.Machine

/-! ## Channels and setpoints -/

/-- The jet a channel names, for channels 0 to 127 (00 Channels). -/
def jetOf (ch : Fin 177) : Option (Fin 128) :=
  if h : ch.val < 128 then some ⟨ch.val, h⟩ else none

/-- The channel of a jet. -/
def jetChannel (j : Fin 128) : Fin 177 := ⟨j.val, by omega⟩

/-- The channel of a fixture, 128 to 175 (00 Channels). -/
def fixtureChannel (f : Fin 48) : Fin 177 := ⟨128 + f.val, by omega⟩

/-- A two-byte number of a set value, most significant byte first. -/
def pair (h l : U8) : Nat := h.val * 256 + l.val

/-- The setpoint the six bytes carry for a channel of this class: height for a jet, levels and fade for a fixture, gain for
AUD; unused bytes are ignored (10 R172). -/
def SetValue.setpoint (v : SetValue) (ch : Fin 177) : Setpoint :=
  if ch.val < 128 then .height (pair v.b0 v.b1)
  else if ch.val < 176 then .colour ⟨v.b0.val, v.b1.val, v.b2.val, v.b3.val⟩ (pair v.b4 v.b5)
  else .gain (pair v.b0 v.b1)

/-- The clamp of a height on a channel: the jet's h_max as configured at the write (01 R22). -/
def State.heightLimit (s : State) (ch : Fin 177) : Nat :=
  match jetOf ch with
  | some j => (s.config.jets.get j).hMax
  | none => 0

/-- A setpoint brought within its range field by field (01 R22). -/
def State.clamp (s : State) (ch : Fin 177) : Setpoint → Setpoint
  | .height cm => .height (min cm (s.heightLimit ch))
  | .colour levels fade => .colour levels (min fade 1000)
  | .gain g => .gain (min g 256)

/-! ## Cue records (03 R44, R45) -/

/-- A byte of a cue record as a number. -/
def CueRecord.byte (r : CueRecord) (k : Fin 16) : Nat := (Table.get r k).toNat

/-- Two bytes of a cue record, most significant first (03 R44). -/
def CueRecord.word (r : CueRecord) (h l : Fin 16) : Nat := CueRecord.byte r h * 256 + CueRecord.byte r l

/-- The delta of a record, bytes 2 and 3 (03 R44). -/
def CueRecord.delta (r : CueRecord) : Nat := CueRecord.word r 2 3

/-- A record as the step it tells a track to take (03 R45). -/
inductive Cue where
  | empty
  | setJet (jet height : Nat)
  | setJets (first count height : Nat)
  | setFix (channel : Nat) (levels : Rgbw) (fade : Nat)
  | setGain (gain : Nat)
  | waitMarker (marker : Nat)
  | loop (count : Nat) (untilMarker : Option Nat)
  | loopEnd
  | call (target : Nat)
  | return_
  | end_
  | unknown
  deriving DecidableEq, Repr

/-- The step of a record by its kind code (03 R44, R45). A loop count of 0 is 256 (R45). -/
def CueRecord.cue (r : CueRecord) : Cue :=
  match CueRecord.byte r 0 with
  | 0x00 => .empty
  | 0x01 => .setJet (CueRecord.byte r 4) (CueRecord.word r 6 7)
  | 0x02 => .setJets (CueRecord.byte r 4) (CueRecord.byte r 5) (CueRecord.word r 6 7)
  | 0x03 => .setFix (CueRecord.byte r 4)
      ⟨CueRecord.byte r 5, CueRecord.byte r 6, CueRecord.byte r 7, CueRecord.byte r 8⟩ (CueRecord.word r 10 11)
  | 0x04 => .setGain (CueRecord.word r 6 7)
  | 0x10 => .waitMarker (CueRecord.byte r 4)
  | 0x11 => .loop (resolveCount 256 (CueRecord.byte r 4))
      (if CueRecord.byte r 1 % 2 = 1 then some (CueRecord.byte r 5) else none)
  | 0x12 => .loopEnd
  | 0x13 => .call (CueRecord.word r 6 7)
  | 0x14 => .return_
  | 0x1F => .end_
  | _ => .unknown

/-- The first of some byte offsets whose byte is not 0 (03 R46). -/
def CueRecord.firstNonZero (r : CueRecord) (offsets : List (Fin 16)) : Option Nat :=
  (offsets.find? fun k => CueRecord.byte r k ≠ 0).map Fin.val

/-- The eleven kind codes (03 R44). -/
def cueKinds : List Nat := [0x00, 0x01, 0x02, 0x03, 0x04, 0x10, 0x11, 0x12, 0x13, 0x14, 0x1F]

/-- Check 3 of 03 R46: the first operand out of the range R45 gives, as its byte offset. -/
def CueRecord.operandFault (r : CueRecord) : Option Nat :=
  match CueRecord.byte r 0 with
  | 0x01 => if CueRecord.byte r 4 ≤ 127 then none else some 4
  | 0x02 =>
    if CueRecord.byte r 4 > 127 then some 4
    else if CueRecord.byte r 5 < 1 ∨ CueRecord.byte r 5 > 16 then some 5
    else if CueRecord.byte r 4 + CueRecord.byte r 5 - 1 > 127 then some 5
    else none
  | 0x03 => if 128 ≤ CueRecord.byte r 4 ∧ CueRecord.byte r 4 ≤ 175 then none else some 4
  | 0x10 => if 1 ≤ CueRecord.byte r 4 then none else some 4
  | 0x13 => if CueRecord.word r 6 7 ≤ 2047 then none else some 6
  | _ => none

/-- The offsets that 03 R45 gives as 0 for a kind, beside bytes 0 to 3. -/
def zeroOffsets : Nat → List (Fin 16)
  | 0x01 => [5, 8, 9, 10, 11, 12, 13, 14, 15]
  | 0x02 => [8, 9, 10, 11, 12, 13, 14, 15]
  | 0x03 => [9, 12, 13, 14, 15]
  | 0x04 => [4, 5, 8, 9, 10, 11, 12, 13, 14, 15]
  | 0x10 => [5, 6, 7, 8, 9, 10, 11, 12, 13, 14, 15]
  | 0x11 => [6, 7, 8, 9, 10, 11, 12, 13, 14, 15]
  | 0x13 => [4, 5, 8, 9, 10, 11, 12, 13, 14, 15]
  | _ => [4, 5, 6, 7, 8, 9, 10, 11, 12, 13, 14, 15]

/-- Check 2 of 03 R46: flags bit 0 on LOOP only, bits 1 to 7 are 0. -/
def CueRecord.flagsFault (r : CueRecord) : Option Nat :=
  if CueRecord.byte r 1 ≤ 1 ∧ (CueRecord.byte r 1 = 0 ∨ CueRecord.byte r 0 = 0x11) then none else some 1

/-- Check 4 of 03 R46: the until-marker of a LOOP is 1 to 255 with UNTIL and 0 without. -/
def CueRecord.untilFault (r : CueRecord) : Option Nat :=
  if CueRecord.byte r 0 = 0x11 ∧ ((CueRecord.byte r 1 = 1) ↔ (CueRecord.byte r 5 = 0)) then some 5 else none

/-- Check 6 of 03 R46: an EMPTY record has all 16 bytes 0, the delta included; the delta is the field left by check 5. -/
def CueRecord.emptyFault (r : CueRecord) : Option Nat :=
  if CueRecord.byte r 0 = 0 ∧ CueRecord.delta r ≠ 0 then some 2 else none

/-- The validation of a record (03 R46): absent when it is valid, else the byte offset of the first byte of the field that
fails first. -/
def CueRecord.fault (r : CueRecord) : Option Nat :=
  if CueRecord.byte r 0 ∉ cueKinds then some 0
  else (CueRecord.flagsFault r).or <| (CueRecord.operandFault r).or <| (CueRecord.untilFault r).or <|
    (CueRecord.firstNonZero r (zeroOffsets (CueRecord.byte r 0))).or (CueRecord.emptyFault r)

/-! ## Configuration entries (09 R159) -/

/-- The two-byte number of two bytes. -/
def word (h l : Byte) : Nat := (field16 h l).val

/-- The position in the CONFIG_WRITE body of the k-th field of the entry, counting both from 1: the table and the index
stand before the entry (10 R171, log 8). -/
def entryField (k : Nat) : Nat := k + 2

/-- A flag byte: 1 for yes and 0 for no; any other value is out of range (10 R172). -/
def flagByte (b : Byte) : Option Bool :=
  if b = 0 then some false else if b = 1 then some true else none

/-- The first failing check of a list of (check, field) pairs in the order of the entry's fields. -/
def firstFault : List (Bool × Nat) → Option Nat
  | [] => none
  | (true, _) :: rest => firstFault rest
  | (false, k) :: _ => some (entryField k)

/-- A Port Rights entry (09 R157): ceiling, rights, window base, window length. -/
def parseRights (e : List Byte) : Except Nat PortRights :=
  match e with
  | [ceiling, rights, bh, bl, lh, ll] =>
    match firstFault [
        (ceiling.toNat ≤ 3, 1), (rights.toNat ≤ 15, 2), (word bh bl ≤ 2047, 3),
        (word lh ll ≤ 2048 && word bh bl + word lh ll ≤ 2048, 4)] with
    | some k => .error k
    | none => .ok { ceiling := ceiling.toNat, config := rights.getLsbD 0, showRight := rights.getLsbD 1
                    freeze := rights.getLsbD 2, safety := rights.getLsbD 3, base := word bh bl, length := word lh ll }
  | _ => .error 0

/-- The two-byte numbers of a list of bytes. -/
def words : List Byte → List Nat
  | h :: l :: rest => word h l :: words rest
  | _ => []

/-- Nine curve points out of a list of numbers; points that are missing are 0. -/
def curveOf (l : List Nat) : Table Nat 9 := Table.build fun k => l.getD k.val 0

/-- The range checks of nine curve points from field `k` on (05 R88). -/
def curveChecks (limit k : Nat) (l : List Nat) : List (Bool × Nat) :=
  (List.range 9).map fun n => (decide (l.getD n 0 ≤ limit), k + n)

/-- A Jets entry (05 R88): enabled, header, node, slot, h_max, exposure, up, down, nine openings, nine flows. -/
def parseJet (e : List Byte) : Except Nat JetConfig :=
  match e with
  | enabled :: header :: node :: slot :: hh :: hl :: exposure :: uh :: ul :: dh :: dl :: points =>
    let o := words (points.take 18)
    let q := words (points.drop 18)
    match firstFault ([
        ((flagByte enabled).isSome, 1), (decide (header.toNat < 16), 2), (decide (node.toNat < 32), 3),
        (decide (slot.toNat < 8), 4), (100 ≤ word hh hl && word hh hl ≤ 4000, 5), (decide (exposure.toNat ≤ 15), 6),
        (1 ≤ word uh ul && word uh ul ≤ 1023, 7), (1 ≤ word dh dl && word dh dl ≤ 1023, 8)]
        ++ curveChecks 1023 9 o ++ curveChecks 4000 18 q) with
    | some k => .error k
    | none => .ok { enabled := enabled == 1, header := Fin.ofNat 16 header.toNat, node := Fin.ofNat 32 node.toNat
                    slot := Fin.ofNat 8 slot.toNat, hMax := word hh hl, exposure := exposure.toNat, up := word uh ul
                    down := word dh dl, openings := curveOf o, flows := curveOf q }
  | _ => .error 0

/-- A Headers entry (05 R89): enabled, drive node, Qmax, s_min, ramp up, ramp down. -/
def parseHeader (e : List Byte) : Except Nat HeaderConfig :=
  match e with
  | [enabled, drive, qh, ql, sh, sl, up, down] =>
    match firstFault [
        ((flagByte enabled).isSome, 1), (drive.toNat < 32, 2), (1 ≤ word qh ql && word qh ql ≤ 20000, 3),
        (word sh sl ≤ 500, 4), (1 ≤ up.toNat && up.toNat ≤ 100, 5), (1 ≤ down.toNat && down.toNat ≤ 100, 6)] with
    | some k => .error k
    | none => .ok { enabled := enabled == 1, driveNode := Fin.ofNat 32 drive.toNat, qMax := word qh ql
                    sMin := word sh sl, rampUp := up.toNat, rampDown := down.toNat }
  | _ => .error 0

/-- A follow jet: 0 to 127, or 255 for none (10 R172). -/
def followByte (b : Byte) : Option (Option (Fin 128)) :=
  if b.toNat = 255 then some none
  else if b.toNat < 128 then some (some (Fin.ofNat 128 b.toNat))
  else none

/-- A Fixtures entry (06 R106): enabled, node, slot, follow jet. -/
def parseFixture (e : List Byte) : Except Nat FixtureConfig :=
  match e with
  | [enabled, node, slot, follow] =>
    match firstFault [
        ((flagByte enabled).isSome, 1), (node.toNat < 32, 2), (slot.toNat < 4, 3), ((followByte follow).isSome, 4)] with
    | some k => .error k
    | none => .ok { enabled := enabled == 1, node := Fin.ofNat 32 node.toNat, slot := Fin.ofNat 4 slot.toNat
                    followJet := (followByte follow).getD none }
  | _ => .error 0

/-- The code of a node type: its place in the list of 07 R118 (10 R172). -/
def nodeTypeCode : NodeType → Nat
  | .none => 0
  | .valve8 => 1
  | .drive => 2
  | .lamp4 => 3
  | .sense => 4

/-- The node type of a code. -/
def nodeTypeOf : Nat → Option NodeType
  | 0 => some .none
  | 1 => some .valve8
  | 2 => some .drive
  | 3 => some .lamp4
  | 4 => some .sense
  | _ => none

/-- A Nodes entry (07 R118): the type. -/
def parseNode (e : List Byte) : Except Nat NodeType :=
  match e with
  | [t] =>
    match nodeTypeOf t.toNat with
    | some ty => .ok ty
    | none => .error (entryField 1)
  | _ => .error 0

/-- The Global entry (09 R158), in the order of the settings. -/
def parseGlobal (e : List Byte) : Except Nat Global :=
  match e with
  | [fp, rh, rl, ch, cl, sh, sl, hy, gh, gl, pol, wh, wl, ph, pl, white, idle] =>
    match firstFault [
        (10 ≤ fp.toNat && fp.toNat ≤ 50, 1), (50 ≤ word rh rl && word rh rl ≤ 5000, 2), (word ch cl ≤ 1000, 3),
        (100 ≤ word sh sl && word sh sl ≤ 1000, 4), (hy.toNat ≤ 100, 5), (word gh gl ≤ 10000, 6), (pol.toNat ≤ 1, 7),
        (200 ≤ word wh wl && word wh wl ≤ 2000, 8), (10 ≤ word ph pl && word ph pl ≤ 500, 9)] with
    | some k => .error k
    | none => .ok { framePeriod := fp.toNat, recallTimeout := word rh rl, wCalm := word ch cl, wStop := word sh sl
                    wHyst := hy.toNat, gustHold := word gh gl, policy := if pol = 0 then .coast else .stall
                    replyWindow := word wh wl, probeInterval := word ph pl, whiteLevel := white.toNat
                    idleTime := idle.toNat }
  | _ => .error 0

/-- The number of entries of a table by its code; absent for a code outside 1 to 6 (09 R156). -/
def tableSize : Nat → Option Nat
  | 1 => some 3
  | 2 => some 128
  | 3 => some 16
  | 4 => some 48
  | 5 => some 32
  | 6 => some 1
  | _ => none

/-- The entry of a table's bytes, or the field number of the first field out of range (09 R159 check 6). -/
def parseEntry (table : Nat) (e : List Byte) : Except Nat ConfigEntry :=
  match table with
  | 1 => (parseRights e).map .rights
  | 2 => (parseJet e).map .jet
  | 3 => (parseHeader e).map .header
  | 4 => (parseFixture e).map .fixture
  | 5 => (parseNode e).map .node
  | 6 => (parseGlobal e).map .global
  | _ => .error 0

/-- The port of a Port Rights index: 0 for A, 1 for B, 2 for C (09 R156). -/
def portOfIndex : Nat → Port
  | 0 => .a
  | 1 => .b
  | _ => .c

/-- The tables with one entry replaced; the index is within the table (09 R159). -/
def Tables.put (t : Tables) (index : Nat) : ConfigEntry → Tables
  | .rights e => { t with rights := t.rights.set (portOfIndex index) e }
  | .jet e => { t with jets := t.jets.set (Fin.ofNat 128 index) e }
  | .header e => { t with headers := t.headers.set (Fin.ofNat 16 index) e }
  | .fixture e => { t with fixtures := t.fixtures.set (Fin.ofNat 48 index) e }
  | .node e => { t with nodes := t.nodes.set (Fin.ofNat 32 index) e }
  | .global e => { t with global := e }

/-- The entry of a table at an index within it (09 R160). -/
def Tables.entry (t : Tables) (table index : Nat) : ConfigEntry :=
  match table with
  | 1 => .rights (t.rights.get (portOfIndex index))
  | 2 => .jet (t.jets.get (Fin.ofNat 128 index))
  | 3 => .header (t.headers.get (Fin.ofNat 16 index))
  | 4 => .fixture (t.fixtures.get (Fin.ofNat 48 index))
  | 5 => .node (t.nodes.get (Fin.ofNat 32 index))
  | _ => .global t.global

end Sys2Proof.Machine
end

