-- ==== Sys2Proof/Machine/Directory.lean ====
section
/-!
DEFINITION. The Channel Directory (01): claims, releases, transfers, recalls, staged writes, watchers, and what safety
entry, SAFETY_ACK, entry to SETUP and show reset do to the channel entries.
-/

namespace Sys2Proof.Machine

/-! ## The wait queue (R5, R6) -/

/-- The waiters for a channel, in queue order. -/
def State.waitersOf (s : State) (ch : Fin 177) : List WaitEntry :=
  s.directory.waiters.filter fun w => w.channel = ch

/-- The highest waiting priority for a channel, if any port waits (R6). -/
def State.topWaiting (s : State) (ch : Fin 177) : Option Nat :=
  (s.waitersOf ch).foldl (fun best w => match best with | none => some w.priority | some b => some (max b w.priority)) none

/-- A waiter's priority exceeds `q`: with `q` the held priority, a recall is owed (R6). -/
def State.waiterAbove (s : State) (ch : Fin 177) (q : Nat) : Bool :=
  (s.waitersOf ch).any fun w => decide (q < w.priority)

/-- Whether a port waits for a channel. -/
def State.waits (s : State) (p : Port) (ch : Fin 177) : Bool :=
  s.directory.waiters.any fun w => w.port == p && w.channel == ch

/-- Of two waiters the one with the higher priority, and of equal priorities the earlier arrival (R6). -/
def betterWaiter (x y : WaitEntry) : WaitEntry :=
  if y.priority > x.priority ∨ (y.priority = x.priority ∧ y.arrival < x.arrival) then y else x

/-- The winner among waiters (R6). -/
def winnerOf : List WaitEntry → Option WaitEntry
  | [] => none
  | w :: rest => some (rest.foldl betterWaiter w)

/-- The wait queue has room for a new entry (R5). -/
def State.waitRoom (s : State) : Bool := decide (s.directory.waiters.length < Config.waitCapacity)

/-- Live entries renumbered 1, 2, 3 and so on in list order (R5). -/
def renumber : Nat → List WaitEntry → List WaitEntry
  | _, [] => []
  | n, w :: rest => { w with arrival := n } :: renumber (n + 1) rest

/-- A new entry joins the tail with the counter's value; after the value 65535 the live entries are renumbered (R5). -/
def State.addWaiter (s : State) (p : Port) (ch : Fin 177) (priority : Nat) : State :=
  let d := s.directory
  let l := d.waiters ++ [⟨p, ch, priority, d.arrivals⟩]
  if d.arrivals = Config.lastArrival then
    { s with directory := { d with waiters := renumber 1 l, arrivals := l.length + 1 } }
  else { s with directory := { d with waiters := l, arrivals := d.arrivals + 1 } }

/-- A waiting port's entry takes a new priority, keeping its place and arrival number (R5). -/
def State.reprioritise (s : State) (p : Port) (ch : Fin 177) (priority : Nat) : State :=
  s.setWaiters (s.directory.waiters.map fun w => if w.port = p ∧ w.channel = ch then { w with priority := priority } else w)

/-- Removes a port's entry for a channel. -/
def State.dropWaiter (s : State) (p : Port) (ch : Fin 177) : State :=
  s.setWaiters (s.directory.waiters.filter fun w => !(w.port == p && w.channel == ch))

/-- Queues a claim: a waiting port's entry is updated in place, any other port joins the tail if there is room. Absent when
the list is full (R11 to R13). -/
def State.enqueueClaim (s : State) (p : Port) (ch : Fin 177) (priority : Nat) : Option State :=
  if s.waits p ch then some (s.reprioritise p ch priority)
  else if s.waitRoom then some (s.addWaiter p ch priority)
  else none

/-! ## Holdings -/

/-- Replaces the state of an entry, with holder, priority and deadline. -/
def State.setHold (s : State) (ch : Fin 177) (h : Hold) : State := s.setEntry ch { s.entry ch with hold := h }

/-- Replaces the staged slot of an entry. -/
def State.setSlot (s : State) (ch : Fin 177) (v : Option Setpoint) : State := s.setEntry ch { s.entry ch with slot := v }

/-- Tells every watcher of a channel (R4, R9). -/
def State.tellWatchers (s : State) (ch : Fin 177) (detail : Nat) : State :=
  s.postTo (s.entry ch).watchers .holderChanged ch.val detail

/-- A recall starts: RECALLING with deadline now + recall timeout, RECALL detail 1 to the holder (R10, R12). -/
def State.startRecall (s : State) (ch : Fin 177) (holder : Port) (q : Nat) : State :=
  (s.setHold ch (.recalling holder q (s.now + s.config.global.recallTimeout))).post holder .recall ch.val 1

/-- A recall is withdrawn: HELD, RECALL detail 0 to the holder (R10, R13, R17, 02 R33). -/
def State.endRecall (s : State) (ch : Fin 177) (holder : Port) (q : Nat) : State :=
  (s.setHold ch (.held holder q)).post holder .recall ch.val 0

/-- A FREE channel is granted at once: HELD, and every watcher told the new holder (R10, 02 R33). -/
def State.grant (s : State) (ch : Fin 177) (p : Port) (priority : Nat) : State :=
  (s.setHold ch (.held p priority)).tellWatchers ch (holderDetail p)

/-- A transfer (R15): the slot is emptied, and the channel passes to the winner of its waiters or becomes FREE. -/
def State.transfer (s : State) (ch : Fin 177) : State :=
  let s1 := s.setSlot ch none
  match winnerOf (s1.waitersOf ch) with
  | none => (s1.setHold ch .free).tellWatchers ch 0
  | some w =>
    let s2 := (s1.dropWaiter w.port ch).setHold ch (.held w.port w.priority)
    (s2.post w.port .granted ch.val w.priority).tellWatchers ch (holderDetail w.port)

/-! ## CLAIM (R8, R10 to R14) -/

/-- A CLAIM from the port that already holds the channel (R10). -/
def State.reclaim (s : State) (ch : Fin 177) (p : Port) (priority : Nat) : State :=
  match (s.entry ch).hold with
  | .held _ _ =>
    if s.waiterAbove ch priority then s.startRecall ch p priority else s.setHold ch (.held p priority)
  | .recalling _ _ deadline =>
    if s.waiterAbove ch priority then s.setHold ch (.recalling p priority deadline) else s.endRecall ch p priority
  | .free => s
  | .safed => s

/-- A CLAIM on a channel HELD by another port at priority `q` (R11, R12). -/
def State.claimHeld (s : State) (ch : Fin 177) (p holder : Port) (q priority : Nat) (wait : Bool) : State × Answer :=
  if q < priority then
    match s.enqueueClaim p ch priority with
    | some t => (t.startRecall ch holder q, { status := .queued })
    | none => (s, .refuse .waitFull)
  else if wait then
    match s.enqueueClaim p ch priority with
    | some t => (t, { status := .queued })
    | none => (s, .refuse .waitFull)
  else (s, .refuse .heldHigher)

/-- A CLAIM on a RECALLING channel from a port that is not the holder (R13). -/
def State.claimRecalling (s : State) (ch : Fin 177) (p holder : Port) (q priority : Nat) (wait : Bool) : State × Answer :=
  if q < priority || wait then
    match s.enqueueClaim p ch priority with
    | some t => (if t.waiterAbove ch q then t else t.endRecall ch holder q, { status := .queued })
    | none => (s, .refuse .waitFull)
  else (s, .refuse .heldHigher)

/-- A CLAIM that has passed the checks of R8 (R10 to R14). -/
def State.claimChannel (s : State) (p : Port) (ch : Fin 177) (priority : Nat) (wait : Bool) : State × Answer :=
  match (s.entry ch).hold with
  | .free => (s.grant ch p priority, .ok)
  | .held holder q =>
    if holder = p then (s.reclaim ch p priority, .ok) else s.claimHeld ch p holder q priority wait
  | .recalling holder q _ =>
    if holder = p then (s.reclaim ch p priority, .ok) else s.claimRecalling ch p holder q priority wait
  | .safed => (s, .refuse .safed)

/-- CLAIM: the checks of R8 in order, then R10 to R14. A CLAIM whose priority and wait flag both fail check 2 names the priority,
field 2 (DEDUCED, log 8). -/
def claimAction (p : Port) (channel priority wait : U8) (s : State) : State × Answer :=
  if h : channel.val < 177 then
    if priority.val > 3 then (s, .refuse .outOfRange 2)
    else if wait.val > 1 then (s, .refuse .outOfRange 3)
    else if s.unit.mode = .setup then (s, .refuse .wrongMode)
    else if priority.val > (s.rights p).ceiling then (s, .refuse .noRight 2)
    else s.claimChannel p ⟨channel.val, h⟩ priority.val (wait.val == 1)
  else (s, .refuse .outOfRange 1)

/-! ## RELEASE (R8, R16 to R18) -/

/-- A withdrawal (R17): the port's entry leaves the wait queue, and a recall no longer owed ends. -/
def State.withdraw (s : State) (p : Port) (ch : Fin 177) : State :=
  let t := s.dropWaiter p ch
  match (t.entry ch).hold with
  | .recalling holder q _ => if t.waiterAbove ch q then t else t.endRecall ch holder q
  | .free => t
  | .held _ _ => t
  | .safed => t

/-- A RELEASE that has passed the checks of R8 (R16 to R18). -/
def State.releaseChannel (s : State) (p : Port) (ch : Fin 177) : State × Answer :=
  if (s.entry ch).hold.holder = some p then (s.transfer ch, .ok)
  else if s.waits p ch then (s.withdraw p ch, .ok)
  else (s, .refuse .notHolder)

/-- RELEASE: the checks of R8 in order, then R16 to R18. -/
def releaseAction (p : Port) (channel : U8) (s : State) : State × Answer :=
  if h : channel.val < 177 then
    if s.unit.mode = .setup then (s, .refuse .wrongMode)
    else s.releaseChannel p ⟨channel.val, h⟩
  else (s, .refuse .outOfRange 1)

/-! ## Staged writes (R21, R22) -/

/-- What the Directory makes of a staged write (R21, R22). -/
inductive WriteResult where
  | taken | clamped | safed | notHolder
  deriving DecidableEq, Repr

/-- A staged write of a setpoint on behalf of a port (R21, R22). -/
def State.stage (s : State) (p : Port) (ch : Fin 177) (v : Setpoint) : State × WriteResult :=
  match (s.entry ch).hold with
  | .safed => (s, .safed)
  | h =>
    if h.holder = some p then
      (s.setSlot ch (some (s.clamp ch v)), if s.clamp ch v = v then .taken else .clamped)
    else (s, .notHolder)

/-- Whether a staged write filled the slot. -/
def WriteResult.filled : WriteResult → Bool
  | .taken => true
  | .clamped => true
  | .safed => false
  | .notHolder => false

/-- The answer of a SET by what the write made (R21, R22). -/
def WriteResult.answer : WriteResult → Answer
  | .taken => .ok
  | .clamped => { status := .clamped }
  | .safed => .refuse .safed
  | .notHolder => .refuse .notHolder

/-- SET: the checks of R8 in order, then R21 and R22. -/
def setAction (p : Port) (channel : U8) (value : SetValue) (s : State) : State × Answer :=
  if h : channel.val < 177 then
    if s.unit.mode = .setup then (s, .refuse .wrongMode)
    else
      let ch : Fin 177 := ⟨channel.val, h⟩
      let r := s.stage p ch (SetValue.setpoint value ch)
      (r.1, r.2.answer)
  else (s, .refuse .outOfRange 1)

/-! ## WATCH, UNWATCH, INQUIRE (R23, R24) -/

/-- Adds a port to a channel's watchers or removes it (R23). -/
def State.setWatch (s : State) (p : Port) (ch : Fin 177) (on : Bool) : State :=
  s.setEntry ch { s.entry ch with watchers := (s.entry ch).watchers.set p on }

/-- WATCH and UNWATCH (R8, R23). -/
def watchAction (p : Port) (channel : U8) (on : Bool) (s : State) : State × Answer :=
  if h : channel.val < 177 then (s.setWatch p ⟨channel.val, h⟩ on, .ok) else (s, .refuse .outOfRange 1)

/-- The milliseconds from now to the recall deadline, in RECALLING (R24). -/
def State.recallRemaining (s : State) (ch : Fin 177) : Option Nat :=
  match (s.entry ch).hold with
  | .recalling _ _ deadline => some (deadline - s.now)
  | .free => none
  | .held _ _ => none
  | .safed => none

/-- INQUIRE (R8, R24). -/
def inquireAction (channel : U8) (s : State) : State × Answer :=
  if h : channel.val < 177 then
    let ch : Fin 177 := ⟨channel.val, h⟩
    (s, .report (.inquire (s.entry ch) (s.recallRemaining ch) ((s.waitersOf ch).map fun w => (w.port, w.priority))))
  else (s, .refuse .outOfRange 1)

/-! ## Recall expiry (R19) -/

/-- The recall deadline of a RECALLING entry is reached: a transfer, with LOST detail 1 to the holder (R19). An entry that is
not RECALLING or whose deadline lies ahead has no expiry (log 3). -/
def State.expireRecall (s : State) (ch : Fin 177) : State :=
  match (s.entry ch).hold with
  | .recalling holder _ deadline =>
    if deadline ≤ s.now then (s.post holder .lost ch.val 1).transfer ch else s
  | .free => s
  | .held _ _ => s
  | .safed => s

/-! ## Safety, SETUP and show reset (R25 to R29) -/

/-- Every wait queue entry for a channel is removed, CLAIM_DROPPED to each waiting port in queue order (R25, R27). -/
def State.dropWaiters (s : State) (ch : Fin 177) (detail : Nat) : State :=
  let dropped := s.waitersOf ch
  let t := dropped.foldl (fun u w => u.post w.port .claimDropped ch.val detail) s
  if dropped.isEmpty then t else t.setWaiters (t.directory.waiters.filter fun w => !(w.channel == ch))

/-- LOST to the holder of a channel, if it has one. -/
def State.postLost (s : State) (ch : Fin 177) (detail : Nat) : State :=
  match (s.entry ch).hold.holder with
  | some p => s.post p .lost ch.val detail
  | none => s

/-- Safety entry of one channel (R25). -/
def State.safeChannel (s : State) (ch : Fin 177) : State :=
  let s1 := (s.postLost ch 2).dropWaiters ch 2
  (s1.setEntry ch { s1.entry ch with hold := .safed, slot := none }).tellWatchers ch 4

/-- The jet and fixture channels, 0 to 175, in ascending order. -/
def stageChannels : List (Fin 177) := (Table.indices 177).filter fun ch => decide (ch.val < 176)

/-- Safety entry: every jet and fixture entry becomes SAFED (R25). -/
def State.directorySafetyEntry (s : State) : State := stageChannels.foldl State.safeChannel s

/-- A SAFED entry returns to FREE, HOLDER_CHANGED detail 0 to its watchers (R26). -/
def State.freeSafed (s : State) (ch : Fin 177) : State :=
  if (s.entry ch).hold = .safed then (s.setHold ch .free).tellWatchers ch 0 else s

/-- The exit from STOPPED: every SAFED entry becomes FREE (R26). -/
def State.directorySafetyExit (s : State) : State := (Table.indices 177).foldl State.freeSafed s

/-- Entry to SETUP of one channel (R27). -/
def State.releaseForSetup (s : State) (ch : Fin 177) : State :=
  match (s.entry ch).hold.holder with
  | some p =>
    let s1 := (s.post p .lost ch.val 3).dropWaiters ch 3
    (s1.setEntry ch { s1.entry ch with hold := .free, slot := none }).tellWatchers ch 0
  | none => s.dropWaiters ch 3

/-- Entry to SETUP: every holding is released and every wait entry removed (R27). -/
def State.directorySetupEntry (s : State) : State :=
  let t := (Table.indices 177).foldl State.releaseForSetup s
  t.setWaiters []

/-- An entry after show reset: jets and fixtures SAFED while the fountain is stopped, every other entry FREE (R29). -/
def showResetEntry (safetyNormal : Bool) (ch : Fin 177) : ChannelEntry :=
  ⟨if ch.val < 176 ∧ safetyNormal = false then .safed else .free, noPorts, none⟩

/-- Show reset of the Directory (R29). -/
def State.directoryShowReset (s : State) : State :=
  { s with directory :=
      ⟨Table.build (showResetEntry (s.safety.state == .normal)), [], 1⟩ }

/-! ## The commands -/

/-- CLAIM (R10). -/
def execClaim (p : Port) (tag channel priority wait : U8) (s : State) : Host.Outcome State Fault Refusal :=
  .next (s.request p 0x01 tag (claimAction p channel priority wait))

/-- RELEASE (R16). -/
def execRelease (p : Port) (tag channel : U8) (s : State) : Host.Outcome State Fault Refusal :=
  .next (s.request p 0x02 tag (releaseAction p channel))

/-- SET (R21). -/
def execSet (p : Port) (tag channel : U8) (value : SetValue) (s : State) : Host.Outcome State Fault Refusal :=
  .next (s.request p 0x03 tag (setAction p channel value))

/-- WATCH (R23). -/
def execWatch (p : Port) (tag channel : U8) (s : State) : Host.Outcome State Fault Refusal :=
  .next (s.request p 0x04 tag (watchAction p channel true))

/-- UNWATCH (R23). -/
def execUnwatch (p : Port) (tag channel : U8) (s : State) : Host.Outcome State Fault Refusal :=
  .next (s.request p 0x05 tag (watchAction p channel false))

/-- INQUIRE (R24). -/
def execInquire (p : Port) (tag channel : U8) (s : State) : Host.Outcome State Fault Refusal :=
  .next (s.request p 0x06 tag (inquireAction channel))

/-- RECALL_EXPIRY (R19). -/
def execRecallExpiry (ch : Fin 177) (s : State) : Host.Outcome State Fault Refusal :=
  .next (s.expireRecall ch)

end Sys2Proof.Machine
end

