-- ==== Sys2Proof/Machine/Shaper.lean ====
section
/-!
DEFINITION. The Jet Shaper (05): the commit of staged heights, the wind ceiling, the curves, the headers with their pumps and
scale, the valve slew and follow levels, the rest indications and the status requests.
-/

namespace Sys2Proof.Machine

/-! ## Commit (R94) -/

/-- The staged height that a frame event takes from a jet's slot: in LIVE with no freeze in effect, from a channel that is not
SAFED (R94). -/
def State.heightToCommit (s : State) (ch : Fin 177) : Option Nat :=
  if s.unit.mode = .live ∧ s.frozen = false ∧ (s.entry ch).hold ≠ .safed then
    match (s.entry ch).slot with
    | some (.height cm) => some cm
    | some (.colour _ _) => none
    | some (.gain _) => none
    | none => none
  else none

/-- The commanded height after the commit: 0 on a SAFED channel, the staged height where it is taken, else unchanged
(R94). -/
def State.committedHeight (s : State) (j : Fin 128) : Nat :=
  if (s.entry (jetChannel j)).hold = .safed then 0
  else (s.heightToCommit (jetChannel j)).getD (s.jets.get j).commanded

/-- The jets' entries after the commit: a slot that was taken is emptied (R94). -/
def State.emptyCommittedHeights (s : State) : Directory :=
  { s.directory with entries := Table.build fun ch =>
      if ch.val < 128 ∧ (s.heightToCommit ch).isSome = true then { s.entry ch with slot := none } else s.entry ch }

/-- Step 1a for every jet: the commit (R93, R94). -/
def State.commitHeights (s : State) : State :=
  { s with
    jets := Table.build fun j => { s.jets.get j with commanded := s.committedHeight j }
    directory := s.emptyCommittedHeights }

/-! ## Wind ceiling and curve (R95, R96) -/

/-- The derate d by exposure, gust value and w_calm (R95). -/
def windDerate (exposure gust wCalm : Nat) : Nat := 256 - exposure * min (gust - wCalm) 150 * 16 / 150

/-- The wind height h_w (R95). -/
def windHeight (hMax derate : Nat) : Nat := hMax * derate / 256

/-- The effective height: c in LIVE, 0 in DARK and SETUP (R94). -/
def State.effectiveHeight (s : State) (c : Nat) : Nat := if s.unit.mode = .live then c else 0

/-- The target t: the effective height under the wind height, forced to 0 by WIND_STOP on an exposed jet and by a SAFED
channel (R95). -/
def State.jetTarget (s : State) (j : Fin 128) : Nat :=
  let cfg := s.config.jets.get j
  if (s.safety.wind = .windStop ∧ 0 < cfg.exposure) ∨ (s.entry (jetChannel j)).hold = .safed then 0
  else min (s.effectiveHeight (s.jets.get j).commanded)
    (windHeight cfg.hMax (windDerate cfg.exposure s.safety.gust s.config.global.wCalm))

/-- A curve point; the curve has points 0 to 8 (R88). -/
def curvePoint (curve : Table Nat 9) (k : Nat) : Nat := curve.get (Fin.ofNat 9 k)

/-- Straight-line interpolation of a curve at target t, with s = t × 8 and k = floor(s / h_max); a target of 0 gives 0 (R96,
log 12). -/
def interpolate (curve : Table Nat 9) (hMax t : Nat) : Nat :=
  let s := t * 8
  let k := s / hMax
  if t = 0 then 0
  else if 8 ≤ k then curvePoint curve 8
  else curvePoint curve k + (curvePoint curve (k + 1) - curvePoint curve k) * (s - k * hMax) / hMax

/-- Step 1b of one jet: target, curve opening and curve flow, 0 for a disabled jet (R93, R95, R96). -/
def State.shapedJet (s : State) (j : Fin 128) : JetRecord :=
  let cfg := s.config.jets.get j
  let r := s.jets.get j
  if cfg.enabled then
    let t := s.jetTarget j
    { r with target := t, opening := interpolate cfg.openings cfg.hMax t, flow := interpolate cfg.flows cfg.hMax t }
  else { r with target := 0, opening := 0, flow := 0 }

/-- Step 1b for every jet. -/
def State.shapeJets (s : State) : State := { s with jets := Table.build s.shapedJet }

/-! ## Headers (R97 to R100) -/

/-- The jets of a header: the enabled jets whose header field names it (R89). -/
def State.jetsOf (s : State) (h : Fin 16) : List (Fin 128) :=
  (Table.indices 128).filter fun j => (s.config.jets.get j).enabled && (s.config.jets.get j).header == h

/-- The demand Qdem (R97). -/
def State.headerDemand (s : State) (h : Fin 16) : Nat := ((s.jetsOf h).map fun j => (s.jets.get j).flow).sum

/-- Whether a header's drive node is ONLINE (R97, R98, R100). -/
def State.driveOnline (s : State) (h : Fin 16) : Bool := (s.node (s.config.headers.get h).driveNode).state == .online

/-- The actual speed s_act (R98): the last reported speed of an ONLINE drive with no fault, at most 1000, else 0. An ONLINE
node that has never reported a speed gives a free value (log 11). -/
def State.actualSpeed (s : State) (h : Fin 16) : Nat :=
  let n := s.node (s.config.headers.get h).driveNode
  if n.state = .online then
    match n.drive with
    | some fb => if fb.fault then 0 else min fb.speed 1000
    | none => min (Config.unreportedSpeed s.freeCount h.val) 1000
  else 0

/-- Rounding toward positive infinity (00 Arithmetic). -/
def ceilDiv (a b : Nat) : Nat := (a + b - 1) / b

/-- The pump target (R97). -/
def State.pumpTarget (s : State) (h : Fin 16) (demand : Nat) : Nat :=
  let cfg := s.config.headers.get h
  if s.safety.state ≠ .normal then 0
  else if s.driveOnline h = false then 0
  else if demand = 0 then 0
  else min (max (ceilDiv (demand * 1000) cfg.qMax) cfg.sMin) 1000

/-- A value moved toward its goal by at most `up` when rising and `down` when falling (R97, R101). -/
def slew (v goal up down : Nat) : Nat :=
  if goal > v then min goal (v + up) else if goal < v then max goal (v - down) else v

/-- The scale g (R99). -/
def flowScale (demand available : Nat) : Nat := if demand > available then available * 4096 / demand else 4096

/-- A quantity scaled by g / 4096 (R99). -/
def scaleBy (x g : Nat) : Nat := x * g / 4096

/-- The state of a header (R100). -/
def headerStateOf (online : Bool) (scale : Nat) : HeaderState :=
  if online = false then .pumpLost else if scale < 4096 then .saturated else .normal

/-- Step 2 of one header: demand, pump target and ramp, available flow, scale, granted flow and state; a disabled header keeps
its record (R91, R97 to R100). -/
def State.computedHeader (s : State) (h : Fin 16) : HeaderRecord :=
  let cfg := s.config.headers.get h
  let r := s.headers.get h
  if cfg.enabled then
    let demand := s.headerDemand h
    let target := s.pumpTarget h demand
    let actual := s.actualSpeed h
    let available := cfg.qMax * actual / 1000
    let g := flowScale demand available
    { demand := demand
      available := available
      granted := ((s.jetsOf h).map fun j => scaleBy (s.jets.get j).flow g).sum
      scale := g
      target := target
      commanded := slew r.commanded target cfg.rampUp cfg.rampDown
      actual := actual
      state := headerStateOf (s.driveOnline h) g }
  else r

/-- Step 2 for every header. -/
def State.computeHeaders (s : State) : State := { s with headers := Table.build s.computedHeader }

/-! ## Valves and follow levels (R101, R102) -/

/-- The follow level of an enabled jet (R102); with O[8] = 0 the quotient is a free value (log 10). -/
def followLevel (valve full free : Nat) : Nat := min (if full = 0 then free else valve * 256 / full) 256

/-- Step 3 of one jet: scaled opening, granted flow, valve slew and follow level, 0 for a disabled jet (R93, R99, R101,
R102). -/
def State.slewedJet (s : State) (j : Fin 128) : JetRecord :=
  let cfg := s.config.jets.get j
  let r := s.jets.get j
  if cfg.enabled then
    let g := (s.headers.get cfg.header).scale
    let scaled := scaleBy r.opening g
    let v := slew r.valve scaled cfg.up cfg.down
    { r with scaled := scaled, granted := scaleBy r.flow g, valve := v
             follow := followLevel v (curvePoint cfg.openings 8) (Config.followAtZero s.freeCount j.val) }
  else { r with scaled := 0, granted := 0, valve := 0, follow := 0 }

/-- Step 3 for every jet. -/
def State.slewJets (s : State) : State := { s with jets := Table.build s.slewedJet }

/-! ## Notices and rest (R93, R100, R103) -/

/-- The ports that hold, in HELD or RECALLING, at least one of a header's jets (R100). -/
def State.holdersOf (s : State) (h : Fin 16) : PortSet :=
  let holds := fun p => (s.jetsOf h).any fun j => (s.entry (jetChannel j)).hold.holder == some p
  ⟨holds .a, holds .b, holds .c⟩

/-- The detail code of HEADER_STATE (R100). -/
def headerCode : HeaderState → Nat
  | .normal => 0
  | .saturated => 1
  | .pumpLost => 2

/-- HEADER_STATE of one header, if its state differs from the state it had before (R100). -/
def State.tellHeader (before : Table HeaderRecord 16) (s : State) (h : Fin 16) : State :=
  if (s.config.headers.get h).enabled = true ∧ (s.headers.get h).state ≠ (before.get h).state then
    s.postTo (s.holdersOf h) .headerState h.val (headerCode (s.headers.get h).state)
  else s

/-- The HEADER_STATE notices of a frame event in ascending header number (R93, R100). -/
def State.tellHeaders (before : Table HeaderRecord 16) (s : State) : State :=
  (Table.indices 16).foldl (State.tellHeader before) s

/-- Outputs at rest: every valve output 0 and every enabled header's commanded speed 0 (R103). -/
def State.outputsRest (s : State) : Bool :=
  s.jets.rows.all (fun r => r.valve == 0)
    && (Table.indices 16).all fun h => !(s.config.headers.get h).enabled || (s.headers.get h).commanded == 0

/-- Pumps at rest: every enabled header's actual speed 0, or its drive node not ONLINE (R103). The actual speed of an ONLINE
drive that reports a fault is 0 (R98), so such a drive is at rest whatever speed it reports, where the second paragraph of 08
R146 asks for a reported speed of 0: DEDUCED, log 33. -/
def State.pumpsRest (s : State) : Bool :=
  (Table.indices 16).all fun h =>
    !(s.config.headers.get h).enabled || (s.headers.get h).actual == 0 || !s.driveOnline h

/-- Every commanded height and valve output 0, for the idle condition (09 R165). -/
def State.jetsRest (s : State) : Bool := s.jets.rows.all fun r => r.commanded == 0 && r.valve == 0

/-- The indications settled at the end of the computation and held until the next (R103, 09 R165). -/
def State.settleRest (s : State) : State :=
  { s with shaper := { s.shaper with
      outputsAtRest := s.outputsRest, pumpsAtRest := s.pumpsRest, jetsStill := s.jetsRest } }

/-- The Shaper's part of a frame event (R86, R93). -/
def State.shape (s : State) : State :=
  let s1 := s.commitHeights.shapeJets.computeHeaders.slewJets
  (s1.tellHeaders s.headers).settleRest

/-- Entry to SETUP of the Shaper: every commanded height becomes 0 (R90). -/
def State.shaperSetupEntry (s : State) : State :=
  { s with jets := Table.build fun j => { s.jets.get j with commanded := 0 } }

/-! ## JET_STATUS and HEADER_STATUS (R104) -/

/-- JET_STATUS (R104). -/
def jetStatusAction (jet : U8) (s : State) : State × Answer :=
  if h : jet.val < 128 then
    let j : Fin 128 := ⟨jet.val, h⟩
    (s, .report (.jetStatus (s.config.jets.get j).enabled (s.config.jets.get j).header (s.jets.get j)))
  else (s, .refuse .outOfRange)

/-- HEADER_STATUS (R104). -/
def headerStatusAction (header : U8) (s : State) : State × Answer :=
  if h : header.val < 16 then
    let i : Fin 16 := ⟨header.val, h⟩
    (s, .report (.headerStatus (s.config.headers.get i).enabled (s.headers.get i)))
  else (s, .refuse .outOfRange)

/-- JET_STATUS (R104). -/
def execJetStatus (p : Port) (tag jet : U8) (s : State) : Host.Outcome State Fault Refusal :=
  .next (s.request p 0x40 tag (jetStatusAction jet))

/-- HEADER_STATUS (R104). -/
def execHeaderStatus (p : Port) (tag header : U8) (s : State) : Host.Outcome State Fault Refusal :=
  .next (s.request p 0x41 tag (headerStatusAction header))

end Sys2Proof.Machine
end

