-- ==== Sys2Proof/Machine/Mixer.lean ====
section
/-!
DEFINITION. The Fixture Mixer (06): the commit of staged colours, the fade step, following, the choice of the output, and
FIXTURE_STATUS.
-/

namespace Sys2Proof.Machine

/-! ## Commit and fade (R110, R111) -/

/-- The staged colour and fade that a frame event takes from a fixture's slot (R110). -/
def State.colourToCommit (s : State) (ch : Fin 177) : Option (Rgbw × Nat) :=
  if s.unit.mode = .live ∧ s.frozen = false ∧ (s.entry ch).hold ≠ .safed then
    match (s.entry ch).slot with
    | some (.colour levels fade) => some (levels, fade)
    | some (.height _) => none
    | some (.gain _) => none
    | none => none
  else none

/-- The record after the commit (R110): cleared on a SAFED channel, a new fade where a colour is taken, else unchanged. -/
def State.committedFixture (s : State) (f : Fin 48) : FixtureRecord :=
  let r := s.fixtures.get f
  if (s.entry (fixtureChannel f)).hold = .safed then
    { r with start := Rgbw.black, target := Rgbw.black, colour := Rgbw.black, length := 0, step := 0 }
  else
    match s.colourToCommit (fixtureChannel f) with
    | some (levels, fade) =>
      { r with
        start := r.colour
        target := levels
        length := fade
        step := 0
        colour := if fade = 0 then levels else r.colour }
    | none => r

/-- The fixtures' entries after the commit: a slot that was taken is emptied (R110). -/
def State.emptyCommittedColours (s : State) : Directory :=
  { s.directory with
    entries := Table.build fun ch =>
      if 128 ≤ ch.val ∧ ch.val < 176 ∧ (s.colourToCommit ch).isSome = true then { s.entry ch with slot := none }
      else s.entry ch }

/-- One component of a fade at step i of n: start + floor((target - start) × i / n) (R111). -/
def fadeLevel (start target i n : Nat) : Nat :=
  ((start : Int) + (((target : Int) - (start : Int)) * (i : Int)).fdiv (n : Int)).toNat

/-- The colour of a fade at step i of n, component by component (R111). -/
def fadeColour (start target : Rgbw) (i n : Nat) : Rgbw :=
  ⟨fadeLevel start.red target.red i n, fadeLevel start.green target.green i n,
    fadeLevel start.blue target.blue i n, fadeLevel start.white target.white i n⟩

/-- The fade step: taken by a running fade in LIVE with no freeze in effect (R111). -/
def State.fadeStep (s : State) (r : FixtureRecord) : FixtureRecord :=
  if r.step < r.length ∧ s.unit.mode = .live ∧ s.frozen = false then
    { r with step := r.step + 1, colour := fadeColour r.start r.target (r.step + 1) r.length }
  else r

/-! ## Following and output (R112, R113) -/

/-- A component scaled by a follow level (R112). -/
def followed (f level : Nat) : Nat := level * f / 256

/-- A colour scaled by a follow level (R112). -/
def followColour (f : Nat) (c : Rgbw) : Rgbw :=
  ⟨followed f c.red, followed f c.green, followed f c.blue, followed f c.white⟩

/-- The white level in all four components (R113). -/
def whiteOf (level : Nat) : Rgbw := ⟨level, level, level, level⟩

/-- The output of a fixture and the case that gave it, the first of the seven that holds (R113). -/
def State.fixtureOutput (s : State) (enabled : Bool) (follow : Option Nat) (colour : Rgbw) : Rgbw × Basis :=
  if s.unit.mode = .setup then (Rgbw.black, .mode)
  else if enabled = false then (Rgbw.black, .disabled)
  else if s.safety.causes.contains .level then (Rgbw.black, .level)
  else if s.safety.state ≠ .normal then (whiteOf s.config.global.whiteLevel, .white)
  else if s.unit.mode = .dark then (Rgbw.black, .mode)
  else
    match follow with
    | some f => (followColour f colour, .follow)
    | none => (colour, .colour)

/-- One fixture at a frame event: commit, fade step, following and output (R109). The follow level is that of the follow jet
as the Shaper has just left it. -/
def State.mixedFixture (s : State) (f : Fin 48) : FixtureRecord :=
  let cfg := s.config.fixtures.get f
  let r := s.fadeStep (s.committedFixture f)
  let level := cfg.followJet.map fun j => (s.jets.get j).follow
  let out := s.fixtureOutput cfg.enabled level r.colour
  { r with followLevel := level, output := out.1, basis := out.2 }

/-- The Mixer's part of a frame event (R86, R109). The records as they stand after it are kept for FIXTURE_STATUS (R117). -/
def State.mix (s : State) : State :=
  let records := Table.build s.mixedFixture
  { s with fixtures := records, fixtureReport := records, directory := s.emptyCommittedColours }

/-- A fixture record cleared on entry to SETUP (R108). -/
def FixtureRecord.clear (r : FixtureRecord) : FixtureRecord :=
  { r with start := Rgbw.black, target := Rgbw.black, colour := Rgbw.black, output := Rgbw.black, length := 0, step := 0,
           basis := .mode }

/-- Entry to SETUP of the Mixer (R108). -/
def State.mixerSetupEntry (s : State) : State :=
  { s with fixtures := Table.build fun f => (s.fixtures.get f).clear }

/-! ## FIXTURE_STATUS (R117) -/

/-- FIXTURE_STATUS: the record as it stood after the last frame event, and the staged slot as it stands (R117, log 21). -/
def fixtureStatusAction (fixture : U8) (s : State) : State × Answer :=
  if h : fixture.val < 48 then
    let f : Fin 48 := ⟨fixture.val, h⟩
    let cfg := s.config.fixtures.get f
    (s, .report (.fixtureStatus cfg.enabled cfg.followJet (s.fixtureReport.get f)
      (s.entry (fixtureChannel f)).slot.isSome))
  else (s, .refuse .outOfRange)

/-- FIXTURE_STATUS (R117). -/
def execFixtureStatus (p : Port) (tag fixture : U8) (s : State) : Host.Outcome State Fault Refusal :=
  .next (s.request p 0x42 tag (fixtureStatusAction fixture))

end Sys2Proof.Machine
end

