-- ==== Sys2Proof/Machine/Cues.lean ====
section
/-!
DEFINITION. The cue store's requests (03): loading records within the loader's window and reading them back.
-/

namespace Sys2Proof.Machine

/-- An index lies in a port's cue window, base to base + length - 1 (R47). -/
def PortRights.inWindow (r : PortRights) (index : Nat) : Bool := decide (r.base ≤ index ∧ index < r.base + r.length)

/-- Where a load stopped: every record written, or the failing index with its status and field number (R48). -/
inductive LoadEnd where
  | all
  | outside (index : Nat)
  | invalid (index offset : Nat)
  deriving DecidableEq, Repr

/-- Records written in order from an index on, each after its window check and its validation, up to the first that fails
(R48). -/
def loadRecords (window : PortRights) : Memory → Nat → List CueRecord → Memory × LoadEnd
  | m, _, [] => (m, .all)
  | m, index, r :: rest =>
    if window.inWindow index then
      match CueRecord.fault r with
      | some offset => (m, .invalid index offset)
      | none => loadRecords window (Memory.setRecord m index r) (index + 1) rest
    else (m, .outside index)

/-- CUE_LOAD (R48). A frame whose records do not fit its count is refused at the port (10 R171, log 7). -/
def cueLoadAction (p : Port) (start : U16) (count : U8) (records : List CueRecord) (s : State) : State × Answer :=
  if cueLoadFits count (16 * records.length) then
    if start.val > 2047 then (s, .refuse .outOfRange 1)
    else
      let r := loadRecords (s.rights p) s.cues start.val records
      let total := resolveCount 16 count
      let t := { s with cues := r.1 }
      match r.2 with
      | .all => (t, .ok)
      | .outside index =>
        (t, { status := .noRight, field := 1, index := index, residual := total - (index - start.val) })
      | .invalid index offset =>
        (t, { status := .cueInvalid, field := offset, index := index, residual := total - (index - start.val) })
  else (s, .refuse .badRequest)

/-- The records at `n` indices from `start` on. -/
def Memory.records (m : Memory) (start : Nat) : Nat → List CueRecord
  | 0 => []
  | n + 1 => Memory.record m start :: Memory.records m (start + 1) n

/-- CUE_READ (R50); a count above 16 is out of its range (log 7). -/
def cueReadAction (start : U16) (count : U8) (s : State) : State × Answer :=
  let n := resolveCount 16 count.val
  if count.val > 16 ∨ start.val > 2047 ∨ start.val + n - 1 > 2047 then (s, .refuse .outOfRange)
  else (s, .report (.cueRecords (Memory.records s.cues start.val n)))

/-- CUE_LOAD (R48). -/
def execCueLoad (p : Port) (tag : U8) (start : U16) (count : U8) (records : List CueRecord) (s : State) :
    Host.Outcome State Fault Refusal :=
  .next (s.request p 0x20 tag (cueLoadAction p start count records))

/-- CUE_READ (R50). -/
def execCueRead (p : Port) (tag : U8) (start : U16) (count : U8) (s : State) : Host.Outcome State Fault Refusal :=
  .next (s.request p 0x21 tag (cueReadAction start count))

end Sys2Proof.Machine
end

