-- ==== Sys2Proof/Machine/Tracks.lean ====
section
/-!
DEFINITION. The tracks of the Cue Sequencer (03): the track requests, the due event and each kind of record it takes, marker
passages, and what freeze, thaw, safety entry, entry to SETUP and show reset do to tracks.
-/

namespace Sys2Proof.Machine

/-! ## States and notices (R51, R52) -/

/-- No pause reason. -/
def noReasons : PauseReasons := ⟨false, false, false⟩

/-- Whether the set of pause reasons is empty. -/
def PauseReasons.isEmpty (r : PauseReasons) : Bool := !r.owner && !r.freeze && !r.safety

/-- The TRACK_STATE detail code of a fault (R52). -/
def faultDetail : TrackFault → Nat
  | .badRecord => 8
  | .stackFull => 9
  | .stackEmpty => 10
  | .nesting => 11
  | .callRange => 12
  | .windowEnd => 13
  | .runaway => 14

/-- Posts TRACK_STATE for a track to a port (R52). -/
def State.tellTrack (s : State) (t : Fin 4) (owner : Port) (detail : Nat) : State :=
  s.post owner .trackState t.val detail

/-- The delta of the record a track would take next (R44). -/
def State.cueDelta (s : State) (b : TrackBody) : Nat := CueRecord.delta (Memory.record s.cues b.cue)

/-- The clock value at which a due event with this next_due falls due: at or below the clock's value it falls due at once if
the clock is RUNNING, otherwise at the clock's next advance (R57, log 4). -/
def State.dueThreshold (s : State) (nextDue : Nat) : Nat :=
  if s.clock.run = .running then nextDue else max nextDue (s.clock.value + 1)

/-- RUNNING with a next_due. -/
def State.runningAt (s : State) (nextDue : Nat) : Phase := .running nextDue (s.dueThreshold nextDue)

/-- The track becomes RUNNING with a next_due and no pause reason; TRACK_STATE detail 2 (R54, R55, R63). -/
def State.setRunning (s : State) (t : Fin 4) (b : TrackBody) (nextDue : Nat) : State :=
  (s.setTrack t (some { b with reasons := noReasons, phase := s.runningAt nextDue })).tellTrack t b.owner 2

/-- The track becomes PAUSED with the time it still had to run; TRACK_STATE detail 4 (R55, R63, R64). -/
def State.setPaused (s : State) (t : Fin 4) (b : TrackBody) (reasons : PauseReasons) (remaining : Nat) : State :=
  (s.setTrack t (some { b with reasons := reasons, phase := .paused remaining })).tellTrack t b.owner 4

/-- A fault: FAULTED with the reason, the pause reasons emptied, owner, cue index and stack kept (R62). -/
def State.faultTrack (s : State) (t : Fin 4) (b : TrackBody) (reason : TrackFault) : State :=
  (s.setTrack t (some { b with reasons := noReasons, phase := .faulted reason })).tellTrack t b.owner (faultDetail reason)

/-- Applies an action to the four tracks in ascending track number (11 R181). -/
def State.eachTrack (s : State) (f : State → Fin 4 → State) : State := (Table.indices 4).foldl f s

/-! ## Track requests (R53 to R56, R66) -/

/-- Check 3 of R53: the track is IDLE or the port owns it. -/
def trackAdmits (p : Port) : Track → Bool
  | none => true
  | some b => b.owner == p

/-- TRACK_ARM (R53, R54). -/
def trackArmAction (p : Port) (track : U8) (cue : U16) (s : State) : State × Answer :=
  if h : track.val < 4 then
    let t : Fin 4 := ⟨track.val, h⟩
    if cue.val > 2047 then (s, .refuse .outOfRange 2)
    else if trackAdmits p (s.track t) = false then (s, .refuse .noRight 1)
    else if s.unit.mode = .setup then (s, .refuse .wrongMode)
    else
      let armed : TrackBody := { owner := p, cue := cue.val, stack := [], reasons := noReasons, phase := .armed }
      match trackName (s.track t) with
      | .idle =>
        if (s.rights p).inWindow cue.val then ((s.setTrack t (some armed)).tellTrack t p 1, .ok)
        else (s, .refuse .noRight 2)
      | .faulted =>
        if (s.rights p).inWindow cue.val then ((s.setTrack t (some armed)).tellTrack t p 1, .ok)
        else (s, .refuse .noRight 2)
      | .armed =>
        if (s.rights p).inWindow cue.val then (s.setTrack t (some armed), .ok)
        else (s, .refuse .noRight 2)
      | .running => (s, .refuse .wrongState 1)
      | .waiting => (s, .refuse .wrongState 1)
      | .paused => (s, .refuse .wrongState 1)
  else (s, .refuse .outOfRange 1)

/-- Check 6 of R53 for TRACK_START and TRACK_RESUME: the safety state is NORMAL and the show clock is not STOPPED. -/
def State.showCanMove (s : State) : Bool := s.safety.state == .normal && s.clock.run != .stopped

/-- TRACK_START (R53, R54). -/
def trackStartAction (p : Port) (track : U8) (s : State) : State × Answer :=
  if h : track.val < 4 then
    let t : Fin 4 := ⟨track.val, h⟩
    if trackAdmits p (s.track t) = false then (s, .refuse .noRight 1)
    else if s.unit.mode ≠ .live then (s, .refuse .wrongMode)
    else
      match s.track t with
      | none => (s, .refuse .wrongState 1)
      | some b =>
        match b.phase with
        | .armed =>
          if s.showCanMove then (s.setRunning t b (s.clock.value + s.cueDelta b), .ok)
          else (s, .refuse .wrongState)
        | .running _ _ => (s, .refuse .wrongState 1)
        | .waiting _ => (s, .refuse .wrongState 1)
        | .paused _ => (s, .refuse .wrongState 1)
        | .faulted _ => (s, .refuse .wrongState 1)
  else (s, .refuse .outOfRange 1)

/-- TRACK_PAUSE (R53, R55). A next_due below the clock's value, its due event not yet taken, leaves a remaining time of 0: DEDUCED,
log 35. -/
def trackPauseAction (p : Port) (track : U8) (s : State) : State × Answer :=
  if h : track.val < 4 then
    let t : Fin 4 := ⟨track.val, h⟩
    if trackAdmits p (s.track t) = false then (s, .refuse .noRight 1)
    else
      match s.track t with
      | none => (s, .refuse .wrongState 1)
      | some b =>
        match b.phase with
        | .running nextDue _ =>
          (s.setPaused t b { b.reasons with owner := true } (nextDue - s.clock.value), .ok)
        | .waiting _ => (s.setTrack t (some { b with reasons := { b.reasons with owner := true } }), .ok)
        | .paused _ => (s.setTrack t (some { b with reasons := { b.reasons with owner := true } }), .ok)
        | .armed => (s, .refuse .wrongState 1)
        | .faulted _ => (s, .refuse .wrongState 1)
  else (s, .refuse .outOfRange 1)

/-- The pause reasons left by a TRACK_RESUME: OWNER and SAFETY are removed (R55). -/
def PauseReasons.resumed (r : PauseReasons) : PauseReasons := { r with owner := false, safety := false }

/-- TRACK_RESUME on a track that is PAUSED, WAITING or RUNNING (R55). -/
def State.resumeTrack (s : State) (t : Fin 4) (b : TrackBody) : State :=
  let r := b.reasons.resumed
  match b.phase with
  | .paused remaining =>
    if r.isEmpty then s.setRunning t b (s.clock.value + remaining) else s.setTrack t (some { b with reasons := r })
  | .waiting _ =>
    if r.isEmpty then s.setRunning t b (s.clock.value + s.cueDelta b) else s.setPaused t b r (s.cueDelta b)
  | .running _ _ => s
  | .armed => s
  | .faulted _ => s

/-- TRACK_RESUME (R53, R55). -/
def trackResumeAction (p : Port) (track : U8) (s : State) : State × Answer :=
  if h : track.val < 4 then
    let t : Fin 4 := ⟨track.val, h⟩
    if trackAdmits p (s.track t) = false then (s, .refuse .noRight 1)
    else if s.unit.mode ≠ .live then (s, .refuse .wrongMode)
    else
      match s.track t with
      | none => (s, .refuse .wrongState 1)
      | some b =>
        match trackName (some b) with
        | .idle => (s, .refuse .wrongState 1)
        | .armed => (s, .refuse .wrongState 1)
        | .faulted => (s, .refuse .wrongState 1)
        | .running => if s.showCanMove then (s.resumeTrack t b, .ok) else (s, .refuse .wrongState)
        | .waiting => if s.showCanMove then (s.resumeTrack t b, .ok) else (s, .refuse .wrongState)
        | .paused => if s.showCanMove then (s.resumeTrack t b, .ok) else (s, .refuse .wrongState)
  else (s, .refuse .outOfRange 1)

/-- TRACK_STOP (R53, R56): from the owner, and from any port with the SAFETY right. -/
def trackStopAction (p : Port) (track : U8) (s : State) : State × Answer :=
  if h : track.val < 4 then
    let t : Fin 4 := ⟨track.val, h⟩
    match s.track t with
    | none => (s, .refuse .wrongState 1)
    | some b =>
      if b.owner = p ∨ (s.rights p).safety = true then ((s.setTrack t none).tellTrack t b.owner 0, .ok)
      else (s, .refuse .noRight 1)
  else (s, .refuse .outOfRange 1)

/-- TRACK_STATUS (R66). -/
def trackStatusAction (track : U8) (s : State) : State × Answer :=
  if h : track.val < 4 then (s, .report (.trackStatus (s.track ⟨track.val, h⟩))) else (s, .refuse .outOfRange)

/-! ## Taking a record (R58 to R62) -/

/-- Moves the cue index on; an index outside the owner's window faults WINDOW_END with the cue index left at the record just
taken (R62). -/
def State.advance (s : State) (t : Fin 4) (b : TrackBody) (index : Nat) : State :=
  if (s.rights b.owner).inWindow index then s.setTrack t (some { b with cue := index })
  else s.faultTrack t b .windowEnd

/-- The channels of a run of `count` from `first` on, in ascending order. -/
def channelRun (first count : Nat) : List (Fin 177) :=
  (List.range count).filterMap fun k => if h : first + k < 177 then some ⟨first + k, h⟩ else none

/-- The staged writes of one record on behalf of the owner, counting the channels skipped (R58). -/
def State.cueWrites (s : State) (p : Port) (channels : List (Fin 177)) (v : Setpoint) : State × Nat :=
  channels.foldl
    (fun acc ch => let r := acc.1.stage p ch v; (r.1, if r.2.filled then acc.2 else acc.2 + 1)) (s, 0)

/-- A record that stages setpoints: the writes, one CUE_SKIPPED if any channel was skipped, then the next record (R58). -/
def State.takeSet (s : State) (t : Fin 4) (b : TrackBody) (channels : List (Fin 177)) (v : Setpoint) : State :=
  let r := s.cueWrites b.owner channels v
  let s1 := if r.2 = 0 then r.1 else r.1.post b.owner .cueSkipped t.val r.2 (.cue b.cue)
  s1.advance t b (b.cue + 1)

/-- WAIT_MARKER (R59): the next record, then WAITING with TRACK_STATE detail 3; at the end of the window it faults without
waiting (R62). -/
def State.takeWait (s : State) (t : Fin 4) (b : TrackBody) (marker : Nat) : State :=
  if (s.rights b.owner).inWindow (b.cue + 1) then
    (s.setTrack t (some { b with cue := b.cue + 1, phase := .waiting marker })).tellTrack t b.owner 3
  else s.faultTrack t b .windowEnd

/-- LOOP (R60). -/
def State.takeLoop (s : State) (t : Fin 4) (b : TrackBody) (count : Nat) (untilMarker : Option Nat) : State :=
  if Config.stackCapacity ≤ b.stack.length then s.faultTrack t b .stackFull
  else s.advance t { b with stack := .loop (b.cue + 1) count untilMarker false :: b.stack } (b.cue + 1)

/-- LOOP_END (R60). -/
def State.takeLoopEnd (s : State) (t : Fin 4) (b : TrackBody) : State :=
  match b.stack with
  | .loop body remaining untilMarker seen :: rest =>
    if remaining - 1 = 0 ∨ (untilMarker.isSome = true ∧ seen = true) then
      s.advance t { b with stack := rest } (b.cue + 1)
    else s.advance t { b with stack := .loop body (remaining - 1) untilMarker false :: rest } body
  | .call _ :: _ => s.faultTrack t b .nesting
  | [] => s.faultTrack t b .nesting

/-- CALL (R61). -/
def State.takeCall (s : State) (t : Fin 4) (b : TrackBody) (target : Nat) : State :=
  if (s.rights b.owner).inWindow target = false then s.faultTrack t b .callRange
  else if Config.stackCapacity ≤ b.stack.length then s.faultTrack t b .stackFull
  else s.setTrack t (some { b with stack := .call (b.cue + 1) :: b.stack, cue := target })

/-- RETURN (R61). -/
def State.takeReturn (s : State) (t : Fin 4) (b : TrackBody) : State :=
  match b.stack with
  | [] => s.faultTrack t b .stackEmpty
  | .loop _ _ _ _ :: _ => s.faultTrack t b .nesting
  | .call returnIndex :: rest => s.advance t { b with stack := rest } returnIndex

/-- Takes the record at the cue index of a RUNNING track and acts by its kind (R57 to R62). A kind byte that no load admits
faults as a record that cannot be taken (log 24). -/
def State.takeRecord (s : State) (t : Fin 4) (b : TrackBody) : State :=
  match CueRecord.cue (Memory.record s.cues b.cue) with
  | .empty => s.faultTrack t b .badRecord
  | .setJet jet height => s.takeSet t b (channelRun jet 1) (.height height)
  | .setJets first count height => s.takeSet t b (channelRun first count) (.height height)
  | .setFix channel levels fade => s.takeSet t b (channelRun channel 1) (.colour levels fade)
  | .setGain gain => s.takeSet t b [audChannel] (.gain gain)
  | .waitMarker marker => s.takeWait t b marker
  | .loop count untilMarker => s.takeLoop t b count untilMarker
  | .loopEnd => s.takeLoopEnd t b
  | .call target => s.takeCall t b target
  | .return_ => s.takeReturn t b
  | .end_ => (s.setTrack t none).tellTrack t b.owner 5
  | .unknown => s.faultTrack t b .badRecord

/-! ## Due events (R57) -/

/-- The body of a track that is RUNNING. -/
def State.runningBody (s : State) (t : Fin 4) : Option TrackBody :=
  match s.track t with
  | none => none
  | some b =>
    match b.phase with
    | .running _ _ => some b
    | .armed => none
    | .waiting _ => none
    | .paused _ => none
    | .faulted _ => none

/-- The records of one due event, in order: while the track is RUNNING and the next record's delta is 0 it is taken as well;
a greater delta sets next_due from the due time reached; past the limit the track faults RUNAWAY (R57). -/
def State.takeRecords : Nat → State → Fin 4 → Nat → State
  | 0, s, t, _ =>
    match s.runningBody t with
    | some b => s.faultTrack t b .runaway
    | none => s
  | n + 1, s, t, due =>
    match s.runningBody t with
    | none => s
    | some b =>
      let s1 := s.takeRecord t b
      match s1.runningBody t with
      | none => s1
      | some b1 =>
        if s1.cueDelta b1 = 0 then State.takeRecords n s1 t due
        else s1.setTrack t (some { b1 with phase := s1.runningAt (due + s1.cueDelta b1) })

/-- The next_due of a track whose due event is owed: RUNNING, the clock RUNNING, and the clock value at or past the
threshold (R57). While the clock is STALLED no due event takes place; an arrival that stalls the clock in its own action takes
its due events before the stall (DEDUCED, log 4). -/
def State.dueNow (s : State) (t : Fin 4) : Option Nat :=
  match s.track t with
  | none => none
  | some b =>
    match b.phase with
    | .running nextDue dueAt => if s.clock.run = .running ∧ dueAt ≤ s.clock.value then some nextDue else none
    | .armed => none
    | .waiting _ => none
    | .paused _ => none
    | .faulted _ => none

/-- One due event of a track; a track that owes none is left as it stands (R57, log 3). -/
def State.dueEvent (s : State) (t : Fin 4) : State :=
  match s.dueNow t with
  | some due => State.takeRecords Config.recordsPerDueEvent s t due
  | none => s

/-- Up to `n` due events of a track, one directly after another, while one is owed (R57). -/
def State.dueChain : Nat → State → Fin 4 → State
  | 0, s, _ => s
  | n + 1, s, t => if (s.dueNow t).isSome then State.dueChain n (s.dueEvent t) t else s

/-- The due event a track owes, and directly after it each one whose next_due the event before set at or below the clock's
value (R57). Each event raises next_due by 1 or more, so the count reaches the clock's value. -/
def State.takeDue (s : State) (t : Fin 4) : State :=
  match s.dueNow t with
  | some due => State.dueChain (s.clock.value - due + 1) s t
  | none => s

/-- The due events the four tracks owe, in ascending track number (R57, log 2). -/
def State.takeOwed (s : State) : State := s.eachTrack State.takeDue

/-- A due event that an action made owed by setting a next_due at or below the value of the RUNNING clock is taken directly
after that action; one that an advance of the clock had made owed before it is left to its own command (R57, log 4). -/
def State.dueAtOnce (before after : State) (t : Fin 4) : State :=
  if (before.dueNow t).isNone then after.takeDue t else after

/-! ## Marker passages (R59) -/

/-- The seen flag of every LOOP frame waiting for a marker is set (R59). -/
def markSeen (m : Nat) : StackFrame → StackFrame
  | .loop body remaining untilMarker seen =>
    if untilMarker = some m then .loop body remaining untilMarker true else .loop body remaining untilMarker seen
  | .call r => .call r

/-- A marker passage at one track: a wait for it ends, and the loops waiting for it see it; the notice carries the clock
value of the passage (R59, 11 R182). -/
def State.passTrack (m k : Nat) (s : State) (t : Fin 4) : State :=
  match s.track t with
  | none => s
  | some b0 =>
    let b := { b0 with stack := b0.stack.map (markSeen m) }
    match b.phase with
    | .waiting marker =>
      if marker = m then
        let d := s.cueDelta b
        if b.reasons.isEmpty then
          (s.setTrack t (some { b with phase := s.runningAt (k + d) })).deliver b.owner ⟨.trackState, t.val, 2, k, .none⟩
        else
          (s.setTrack t (some { b with phase := .paused d })).deliver b.owner ⟨.trackState, t.val, 4, k, .none⟩
      else s.setTrack t (some b)
    | .running _ _ => s.setTrack t (some b)
    | .paused _ => s.setTrack t (some b)
    | .armed => s
    | .faulted _ => s

/-- A marker passage on all four tracks as one action (R59). Where it releases several tracks, their TRACK_STATE notices are
posted in ascending track number: the model's choice (DESIGN CHOICE, log 32). -/
def State.markerPassage (s : State) (m k : Nat) : State := s.eachTrack (State.passTrack m k)

/-- A marker passage, and directly after it the due events of the tracks it released at a record of delta 0 (R57, R59). -/
def State.passage (s : State) (m k : Nat) : State := (s.markerPassage m k).eachTrack (State.dueAtOnce s)

/-! ## Freeze, safety, SETUP and show reset (R63 to R65) -/

/-- A freeze comes into effect at one track (R63); the remaining time of a next_due below the clock's value is 0: DEDUCED, log
35. -/
def State.freezeTrack (s : State) (t : Fin 4) : State :=
  match s.track t with
  | none => s
  | some b =>
    let r := { b.reasons with freeze := true }
    match b.phase with
    | .running nextDue _ => s.setPaused t b r (nextDue - s.clock.value)
    | .waiting _ => s.setTrack t (some { b with reasons := r })
    | .paused _ => s.setTrack t (some { b with reasons := r })
    | .armed => s
    | .faulted _ => s

/-- A freeze is lifted at one track (R63). -/
def State.thawTrack (s : State) (t : Fin 4) : State :=
  match s.track t with
  | none => s
  | some b =>
    let r := { b.reasons with freeze := false }
    match b.phase with
    | .paused remaining =>
      if r.isEmpty then s.setRunning t b (s.clock.value + remaining) else s.setTrack t (some { b with reasons := r })
    | .waiting _ => s.setTrack t (some { b with reasons := r })
    | .running _ _ => s.setTrack t (some { b with reasons := r })
    | .armed => s.setTrack t (some { b with reasons := r })
    | .faulted _ => s.setTrack t (some { b with reasons := r })

/-- Safety entry at one track (R64); the remaining time of a next_due below the clock's value is 0: DEDUCED, log 35. -/
def State.safeTrack (s : State) (t : Fin 4) : State :=
  match s.track t with
  | none => s
  | some b =>
    let r := { b.reasons with safety := true }
    match b.phase with
    | .running nextDue _ => s.setPaused t b r (nextDue - s.clock.value)
    | .waiting _ => s.setPaused t b r (s.cueDelta b)
    | .paused _ => s.setTrack t (some { b with reasons := r })
    | .armed => s
    | .faulted _ => s

/-- Entry to SETUP at one track (R65). -/
def State.idleForSetup (s : State) (t : Fin 4) : State :=
  match s.track t with
  | none => s
  | some b => (s.setTrack t none).tellTrack t b.owner 6

/-- Show reset of the tracks: every track IDLE, no notice (R65). -/
def State.tracksShowReset (s : State) : State := { s with tracks := Table.fill none }

/-! ## The commands -/

/-- A request whose action may change a track, the clock's run state or the mode, with the idle condition evaluated after it
(09 R165). -/
def settled (act : State → State × Answer) (s : State) : State × Answer :=
  let r := act s
  (settleIdle s r.1, r.2)

/-- What follows a request that may have set the next_due of a track: the due event that falls due by it, directly after the
action (R54, R55, R57). -/
def State.thenDue (before : State) (track : U8) (after : State) : State :=
  if h : track.val < 4 then settleIdle after (before.dueAtOnce after ⟨track.val, h⟩) else after

/-- TRACK_ARM (R54). -/
def execTrackArm (p : Port) (tag track : U8) (cue : U16) (s : State) : Host.Outcome State Fault Refusal :=
  .next (s.request p 0x22 tag (settled (trackArmAction p track cue)))

/-- TRACK_START (R54). -/
def execTrackStart (p : Port) (tag track : U8) (s : State) : Host.Outcome State Fault Refusal :=
  .next (s.thenDue track (s.request p 0x23 tag (settled (trackStartAction p track))))

/-- TRACK_PAUSE (R55). -/
def execTrackPause (p : Port) (tag track : U8) (s : State) : Host.Outcome State Fault Refusal :=
  .next (s.request p 0x24 tag (settled (trackPauseAction p track)))

/-- TRACK_RESUME (R55). -/
def execTrackResume (p : Port) (tag track : U8) (s : State) : Host.Outcome State Fault Refusal :=
  .next (s.thenDue track (s.request p 0x25 tag (settled (trackResumeAction p track))))

/-- TRACK_STOP (R56). -/
def execTrackStop (p : Port) (tag track : U8) (s : State) : Host.Outcome State Fault Refusal :=
  .next (s.request p 0x26 tag (settled (trackStopAction p track)))

/-- TRACK_STATUS (R66). -/
def execTrackStatus (p : Port) (tag track : U8) (s : State) : Host.Outcome State Fault Refusal :=
  .next (s.request p 0x27 tag (trackStatusAction track))

/-- DUE_EVENT (R57). -/
def execDueEvent (t : Fin 4) (s : State) : Host.Outcome State Fault Refusal := .next (settleIdle s (s.takeDue t))

end Sys2Proof.Machine
end

