-- ==== Sys2Proof/Machine/Clock.lean ====
section
/-!
DEFINITION. The Show Clock and Audio Unit (04): starting and stopping the clock, its advance, the block queue, play, markers,
underrun under each policy, and what freeze, thaw, safety entry and the resets do to it.
-/

namespace Sys2Proof.Machine

/-! ## Blocks (R73) -/

/-- The end of a block: the position of the first frame after it (R73). -/
def Block.stop (b : Block) : Nat := b.start + b.frames.length

/-- A block trimmed to begin at `p`: its frames before `p` are discarded, and its marker if that lies before `p` (R70, R75,
R80). -/
def Block.trim (b : Block) (p : Nat) : Block :=
  { start := p
    marker := b.marker.filter fun m => decide (p ≤ m.position)
    frames := b.frames.drop (p - b.start) }

/-- The queue brought to `p`: blocks that end at or before `p` are removed, and a block that straddles it is trimmed to begin
at `p` (R70, R80). -/
def bringTo (p : Nat) (queue : List Block) : List Block :=
  (queue.filter fun b => decide (p < b.stop)).map fun b => if b.start < p then b.trim p else b

/-- The queue end: the end of the last queued block, absent when the queue is empty (R73). -/
def queueEnd (queue : List Block) : Option Nat := queue.getLast?.map Block.stop

/-- The bound L of lateness: the queue end, or the play position when the queue is empty (R75). -/
def ClockUnit.lateBound (c : ClockUnit) : Nat := (queueEnd c.queue).getD c.position

/-- The run state of a started clock by its stall reasons (R67). -/
def startedRun (underrun freeze : Bool) : RunState := if underrun || freeze then .stalled else .running

/-- The output of a clock that is not playing is silence (R76). -/
def ClockUnit.quiet (c : ClockUnit) : ClockUnit := { c with output := Stereo.silence }

/-- The clock stopped: STOPPED, UNDERRUN out of the stall reasons, the coasting flag clear, the output silent; the rest is
kept (R71, R83). -/
def ClockUnit.stop (c : ClockUnit) : ClockUnit :=
  { c with run := .stopped, underrun := false, coasting := false, output := Stereo.silence }

/-! ## Underrun (R79 to R81) -/

/-- The range end: the play position and the value stop, UNDERRUN joins the stall reasons, coasting is cleared, and UNDERRUN
is posted with detail 2 (R79). The frame last put out stands to the next frame period, which puts out silence (log 20). -/
def State.rangeEnd (s : State) : State :=
  let t := s.postAud .underrun 2
  t.setClock { t.clock with run := .stalled, underrun := true, coasting := false }

/-- The detail code of UNDERRUN by policy (R79). -/
def policyCode : Policy → Nat
  | .coast => 0
  | .stall => 1

/-- An underrun is met: UNDERRUN is posted, and the policy of the configuration is applied (R79 to R81). The frame last put out
stands to the next frame period, which puts out silence (log 20). -/
def State.meetUnderrun (s : State) : State :=
  let t := s.postAud .underrun (policyCode s.config.global.policy)
  match s.config.global.policy with
  | .coast => t.setClock { t.clock with coasting := true }
  | .stall => t.setClock { t.clock with run := .stalled, underrun := true }

/-- What meets a clock made RUNNING with the audio source: the range end at the last position, an underrun on an empty queue
that is not coasting (R69, R79, R82). -/
def State.meetStart (s : State) : State :=
  if s.clock.run = .running ∧ s.clock.source = .audio then
    if s.clock.position = Config.lastPosition then s.rangeEnd
    else if s.clock.queue.isEmpty ∧ s.clock.coasting = false then s.meetUnderrun
    else s
  else s

/-! ## CLOCK_RUN and CLOCK_STOP (R69, R71) -/

/-- The clock started from a source and a start point (R69 steps 1 to 4). R69 does not say what the audio output holds from here
to the next frame period: the model makes it silence (DESIGN CHOICE, log 20). -/
def ClockUnit.start (c : ClockUnit) (source : Source) (point : Nat) : ClockUnit :=
  let c1 := { c with underrun := false, coasting := false, run := startedRun false c.freeze, output := Stereo.silence }
  match source with
  | .internal => { c1 with source := .internal, value := point }
  | .audio => { c1 with
      source := .audio, position := point, queue := bringTo point c.queue, value := point / Config.framesPerMs }

/-- The source of a source code (10 R172). -/
def sourceOf : Nat → Option Source
  | 1 => some .internal
  | 2 => some .audio
  | _ => none

/-- CLOCK_RUN: the source code (10 R171 check 5), the checks of R69 in order, then its five steps. -/
def clockRunAction (p : Port) (source : U8) (point : U32) (s : State) : State × Answer :=
  match sourceOf source.val with
  | none => (s, .refuse .outOfRange 1)
  | some src =>
    if s.audHolder ≠ some p then (s, .refuse .notHolder)
    else if s.unit.mode ≠ .live then (s, .refuse .wrongMode)
    else if s.safety.state ≠ .normal then (s, .refuse .wrongState)
    else if s.anyTrackMoves then (s, .refuse .busy)
    else ((s.setClock (s.clock.start src point.val)).meetStart, .ok)

/-- CLOCK_STOP (R71). -/
def clockStopAction (p : Port) (s : State) : State × Answer :=
  if s.audHolder ≠ some p then (s, .refuse .notHolder)
  else if s.anyTrackMoves then (s, .refuse .busy)
  else (s.setClock s.clock.stop, .ok)

/-- CLOCK_STATUS (R85). -/
def clockStatusAction (s : State) : State × Answer :=
  let c := s.clock
  (s, .report (.clockStatus
    { value := c.value, run := c.run, source := c.source, underrun := c.underrun, freeze := c.freeze
      coasting := c.coasting, position := c.position, queued := c.queue.length
      span := match c.queue.head?, queueEnd c.queue with
        | some b, some e => some (b.start, e)
        | _, _ => none
      gain := c.gain, policy := s.config.global.policy, log := c.log }))

/-! ## AUDIO_BLOCK (R74, R75, R80, R81) -/

/-- Coasting ends: the flag is cleared and AUDIO_RESUMED detail 0 goes to the holder of AUD (R80). -/
def State.endCoasting (s : State) : State :=
  (s.setClock { s.clock with coasting := false }).postAud .audioResumed 0

/-- The play position stands at or past the start of the first queued block (R80). -/
def ClockUnit.reachesBlock (c : ClockUnit) : Bool :=
  match c.queue with
  | [] => false
  | b :: _ => decide (b.start ≤ c.position)

/-- A block taken OK ends a STALL underrun (R81), and ends coasting if the play position stands at its start (R80, log 13). -/
def State.blockArrived (s : State) : State :=
  if s.clock.underrun then
    (s.setClock { s.clock with
      underrun := false
      run := if s.clock.run = .stopped then .stopped else startedRun false s.clock.freeze }).postAud .audioResumed 1
  else if s.clock.coasting ∧ s.clock.reachesBlock = true then s.endCoasting
  else s

/-- Check 1 of R74 on the fields of a block. -/
def audioFieldsOk (start : U32) (count marker offset : U8) (reserved : List Byte) : Bool :=
  (if marker.val = 0 then offset.val == 0 else decide (offset.val < resolveCount 256 count.val))
    && reserved.all (fun b => b == 0)
    && decide (start.val + resolveCount 256 count.val - 1 ≤ 4294967294)

/-- AUDIO_BLOCK: the length of its body (10 R171), the checks of R74 in order, then R75. -/
def audioBlockAction (p : Port) (start : U32) (count marker offset : U8) (reserved : List Byte)
    (frames : List (Sample × Sample)) (s : State) : State × Answer :=
  if reserved.length = 9 ∧ frames.length = resolveCount 256 count.val then
    if audioFieldsOk start count marker offset reserved = false then (s, .refuse .outOfRange)
    else if s.unit.mode = .setup then (s, .refuse .wrongMode)
    else if s.audHolder ≠ some p then (s, .refuse .notHolder)
    else if Config.blockCapacity ≤ s.clock.queue.length then (s, .refuse .full)
    else
      let b : Block :=
        { start := start.val
          marker := if marker.val = 0 then none else some ⟨marker.val, start.val + offset.val⟩
          frames := frames }
      let bound := s.clock.lateBound
      if b.stop ≤ bound then (s, .refuse .late)
      else
        let joined := if b.start < bound then b.trim bound else b
        let trimmed := bound - b.start
        let discarded := b.marker.isSome && joined.marker.isNone
        ((s.setClock { s.clock with queue := s.clock.queue ++ [joined] }).blockArrived,
          .report (.audioTaken trimmed discarded))
  else (s, .refuse .badRequest)

/-! ## Advance and play (R72, R76 to R80) -/

/-- CLOCK_TICK: a RUNNING clock with the internal source advances by 1, up to the last value (R72). A due event of an arrival
before this one is taken first (03 R57, log 4). -/
def State.clockTick (s : State) : State :=
  if s.clock.run = .running ∧ s.clock.source = .internal ∧ s.clock.value < Config.lastPosition then
    let t := s.takeOwed
    t.setClock { t.clock with value := t.clock.value + 1 }
  else s

/-- One sample scaled by the active gain, rounded toward negative infinity (R76). -/
def scaleSample (x : Sample) (g : Nat) : Int := (x.toInt * (g : Int)).fdiv 256

/-- The block boundary: AUD's staged gain becomes the active gain and the slot is emptied, in LIVE with no freeze in effect
(R77). -/
def State.commitGain (s : State) : State :=
  match (s.entry audChannel).slot with
  | some (.gain g) =>
    if s.unit.mode = .live ∧ s.frozen = false then
      (s.setClock { s.clock with gain := g }).setSlot audChannel none
    else s
  | some (.height _) => s
  | some (.colour _ _) => s
  | none => s

/-- The marker log with a passage appended, the last 8 kept (R78). -/
def appendLog (log : List Passage) (e : Passage) : List Passage :=
  if log.length < Config.logCapacity then log ++ [e] else (log ++ [e]).drop 1

/-- The passage of a marker: the log entry with k = floor(marker position / 48), then the tracks (R78). -/
def State.passMarker (s : State) (m : Marker) : State :=
  let k := m.position / Config.framesPerMs
  (s.setClock { s.clock with log := appendLog s.clock.log ⟨m.id, k⟩ }).passage m.id k

/-- The frame at the play position is put out: the block boundary, the scaled samples or silence in a gap, and the marker at
that frame (R76 to R78). -/
def State.playFrame (s : State) (b : Block) : State :=
  if s.clock.position < b.start then s.setClock s.clock.quiet
  else
    let s1 := if b.start = s.clock.position then s.commitGain else s
    let f := b.frames.getD (s.clock.position - b.start) (0, 0)
    let s2 := s1.setClock { s1.clock with
      output := ⟨scaleSample f.1 s1.clock.gain, scaleSample f.2 s1.clock.gain⟩ }
    match b.marker with
    | some m => if m.position = s.clock.position then s2.passMarker m else s2
    | none => s2

/-- The clock at an audio play position with its queue, the value following (R72). A due event of an arrival before this one is
taken first (03 R57, log 4). -/
def State.advancePlay (s : State) (position : Nat) (queue : List Block) : State :=
  let t := s.takeOwed
  t.setClock { t.clock with position := position, value := position / Config.framesPerMs, queue := queue }

/-- The play position moves on by one frame, the value follows, the block ended there leaves the queue, and the range end or
an underrun is met where it falls (R72, R76, R79). The due events of that arrival come before either, which may stall the
clock (log 4). -/
def State.movePlay (s : State) : State :=
  let p := s.clock.position + 1
  let queue := s.clock.queue.filter fun b => decide (p < b.stop)
  let t := s.advancePlay p queue
  if p = Config.lastPosition then t.takeOwed.rangeEnd
  else if queue.isEmpty then t.takeOwed.meetUnderrun
  else t

/-- One frame period of the audio output (R76). A clock that is not playing puts out silence; coasting that has reached a
block ends here (R80); an empty queue meets the underrun (R79). -/
def State.audioFrame (s : State) : State :=
  if s.clock.run = .running ∧ s.clock.source = .audio then
    if s.clock.coasting ∧ s.clock.reachesBlock = false then s.setClock s.clock.quiet
    else
      let s1 := if s.clock.coasting then s.endCoasting else s
      match s1.clock.queue with
      | [] => (s1.setClock s1.clock.quiet).takeOwed.meetStart
      | b :: _ => (s1.playFrame b).movePlay
  else s.setClock s.clock.quiet

/-- COAST_TICK: while coasting the play position advances by 48 frames and the value follows; blocks passed over are removed,
and a block that covers the new position ends coasting (R72, R80). The advance stops at the range end (R79), after the due
events of that arrival (log 4). -/
def State.coastTick (s : State) : State :=
  if s.clock.run = .running ∧ s.clock.source = .audio ∧ s.clock.coasting = true then
    let p := min (s.clock.position + Config.framesPerMs) Config.lastPosition
    let t := s.advancePlay p (bringTo p s.clock.queue)
    if p = Config.lastPosition then t.takeOwed.rangeEnd
    else if t.clock.reachesBlock then t.endCoasting
    else t
  else s

/-! ## Freeze, thaw, safety, SETUP and the resets (R82 to R84) -/

/-- A freeze comes into effect: FREEZE joins the stall reasons and a RUNNING clock becomes STALLED (R82). -/
def ClockUnit.freezeIn (c : ClockUnit) : ClockUnit :=
  { c with
    freeze := true
    run := if c.run = .running then .stalled else c.run
    output := Stereo.silence }

/-- A freeze is lifted: FREEZE leaves the stall reasons, and a started clock with none left becomes RUNNING, meeting an
underrun or the range end at once where one stands (R82). -/
def State.clockThaw (s : State) : State :=
  let t := s.setClock { s.clock with
    freeze := false
    run := if s.clock.run = .stopped then .stopped else startedRun s.clock.underrun false }
  if s.clock.run = .stalled then t.meetStart else t

/-- Safety entry of the clock unit (R83). -/
def State.clockSafetyEntry (s : State) : State := s.setClock s.clock.stop

/-- Entry to SETUP: the block queue is emptied (R84). -/
def State.clockSetupEntry (s : State) : State := s.setClock { s.clock with queue := [] }

/-! ## The commands -/

/-- CLOCK_RUN (R69). -/
def execClockRun (p : Port) (tag source : U8) (point : U32) (s : State) : Host.Outcome State Fault Refusal :=
  .next (s.request p 0x30 tag (settled (clockRunAction p source point)))

/-- CLOCK_STOP (R71). -/
def execClockStop (p : Port) (tag : U8) (s : State) : Host.Outcome State Fault Refusal :=
  .next (s.request p 0x31 tag (settled (clockStopAction p)))

/-- CLOCK_STATUS (R85). -/
def execClockStatus (p : Port) (tag : U8) (s : State) : Host.Outcome State Fault Refusal :=
  .next (s.request p 0x33 tag clockStatusAction)

/-- AUDIO_BLOCK (R74). -/
def execAudioBlock (p : Port) (tag : U8) (start : U32) (count marker offset : U8) (reserved : List Byte)
    (frames : List (Sample × Sample)) (s : State) : Host.Outcome State Fault Refusal :=
  .next (s.request p 0x32 tag (settled (audioBlockAction p start count marker offset reserved frames)))

/-- CLOCK_TICK (R72). -/
def execClockTick (s : State) : Host.Outcome State Fault Refusal := .next (settleIdle s s.clockTick)

/-- AUDIO_FRAME (R76). -/
def execAudioFrame (s : State) : Host.Outcome State Fault Refusal := .next (settleIdle s s.audioFrame)

/-- COAST_TICK (R80). -/
def execCoastTick (s : State) : Host.Outcome State Fault Refusal := .next (settleIdle s s.coastTick)

end Sys2Proof.Machine
end

