-- ==== Sys2Proof/Machine/Ranges.lean ====
section
/-!
DEFINITION. The Range Engine (02): accepting a run, stepping it one channel at a time, and the ends of an operation.
-/

namespace Sys2Proof.Machine

/-! ## The record (R30) -/

/-- The next channel: first + done + skipped (R30). -/
def RangeRecord.next (r : RangeRecord) : Nat := r.first + r.done + r.skipped

/-- The residual: the channels not yet stepped (R30). -/
def RangeRecord.residual (r : RangeRecord) : Nat := r.count - r.done - r.skipped

/-- The record counts a step that acted on its channel, or one that left it (R32). -/
def RangeRecord.tally (r : RangeRecord) (acted : Bool) : RangeRecord :=
  if acted then { r with done := r.done + 1 }
  else { r with skipped := r.skipped + 1, firstSkipped := some (r.firstSkipped.getD r.next) }

/-- The detail code of an end reason (R37). -/
def endCode : EndReason → Nat
  | .complete => 0
  | .stopped => 1
  | .safety => 2
  | .setup => 3

/-- The last outcome a record leaves (R30, R37). -/
def RangeRecord.outcome (r : RangeRecord) (reason : EndReason) : RangeOutcome :=
  { issuer := r.issuer, op := r.op, first := r.first, count := r.count, done := r.done, skipped := r.skipped
    firstSkipped := r.firstSkipped, residual := r.residual, reason := reason }

/-- An operation ends: the record becomes idle, the last outcome is written and RANGE_DONE goes to the issuer (R37). -/
def State.endRange (s : State) (r : RangeRecord) (reason : EndReason) : State :=
  State.post { s with range := ⟨none, some (r.outcome reason)⟩ } r.issuer .rangeDone r.first (endCode reason)
    (.range r.done r.skipped r.firstSkipped r.residual)

/-! ## Accepting a run (R31) -/

/-- The last channel of the class of a first channel: 127 for a jet, 175 for a fixture (R31). -/
def classEnd (first : Nat) : Nat := if first < 128 then 127 else 175

/-- The count of a run as accepted: 0 runs to the last channel of the class (R31). -/
def resolveRun (first count : Nat) : Nat := if count = 0 then classEnd first + 1 - first else count

/-- The op of an op code with its operand (10 R172). -/
def rangeOpOf (op priority : Nat) (value : SetValue) : Option RangeOp :=
  match op with
  | 1 => some (.claim priority)
  | 2 => some .release
  | 3 => some (.set value)
  | 4 => some .watch
  | 5 => some .unwatch
  | _ => none

/-- RCLAIM, RRELEASE and RSET need LIVE or DARK (R31 check 4). -/
def RangeOp.needsMode : RangeOp → Bool
  | .claim _ => true
  | .release => true
  | .set _ => true
  | .watch => false
  | .unwatch => false

/-- The priority check of RCLAIM (R31 check 3). -/
def RangeOp.priorityBad : RangeOp → Bool
  | .claim p => decide (p > 3)
  | _ => false

/-- The ceiling check of RCLAIM (R31 check 5). -/
def RangeOp.above (op : RangeOp) (ceiling : Nat) : Bool :=
  match op with
  | .claim p => decide (p > ceiling)
  | _ => false

/-- The record of an accepted run (R31). -/
def RangeRecord.begin (p : Port) (op : RangeOp) (first count : Nat) : RangeRecord :=
  { issuer := p, op := op, first := first, count := resolveRun first count, done := 0, skipped := 0
    firstSkipped := none }

/-- RANGE: the op code (10 R171 check 5), then the checks of R31 in order, then the record becomes active. -/
def rangeAction (p : Port) (op first count priority : U8) (value : SetValue) (s : State) : State × Answer :=
  match rangeOpOf op.val priority.val value with
  | none => (s, .refuse .outOfRange 1)
  | some o =>
    if first.val > 175 then (s, .refuse .outOfRange 2)
    else if count.val ≠ 0 ∧ first.val + count.val - 1 > classEnd first.val then (s, .refuse .outOfRange 3)
    else if o.priorityBad then (s, .refuse .outOfRange 4)
    else if o.needsMode ∧ s.unit.mode = .setup then (s, .refuse .wrongMode)
    else if o.above (s.rights p).ceiling then (s, .refuse .noRight 4)
    else if s.range.active.isSome then (s, .refuse .busy)
    else
      ({ s with range := { s.range with active := some (RangeRecord.begin p o first.val count.val) } },
        { status := .accepted })

/-! ## Steps (R32 to R36) -/

/-- What one step of a record does to its channel: the state after, and whether the step acted (R33 to R36). -/
def State.rangeAct (s : State) (x : Port) (op : RangeOp) (ch : Fin 177) : State × Bool :=
  match op with
  | .claim p =>
    match (s.entry ch).hold with
    | .free => (s.grant ch x p, true)
    | .held holder q => if holder = x ∧ q ≤ p then (s.setHold ch (.held x p), true) else (s, false)
    | .recalling holder q deadline =>
      if holder = x ∧ q ≤ p then
        (if s.waiterAbove ch p then s.setHold ch (.recalling x p deadline) else s.endRecall ch x p, true)
      else (s, false)
    | .safed => (s, false)
  | .release => if (s.entry ch).hold.holder = some x then (s.transfer ch, true) else (s, false)
  | .set value =>
    let r := s.stage x ch (SetValue.setpoint value ch)
    (r.1, r.2.filled)
  | .watch => (s.setWatch x ch true, true)
  | .unwatch => (s.setWatch x ch false, true)

/-- One step of an active record: it acts on the next channel, counts itself and ends the operation when the residual
becomes 0 (R32, R37). -/
def State.rangeStep (s : State) (r : RangeRecord) : State :=
  if h : r.next < 177 then
    let a := s.rangeAct r.issuer r.op ⟨r.next, h⟩
    let r' := r.tally a.2
    let t := { a.1 with range := { a.1.range with active := some r' } }
    if r'.residual = 0 then t.endRange r' .complete else t
  else s

/-- The step of the op a command names: no step while the record is idle or holds another op (log 3). -/
def State.stepIf (s : State) (isOp : RangeOp → Bool) : State :=
  match s.range.active with
  | some r => if isOp r.op then s.rangeStep r else s
  | none => s

/-! ## Ends of an operation (R38 to R41) -/

/-- RANGE_STOP (R38). -/
def rangeStopAction (p : Port) (s : State) : State × Answer :=
  match s.range.active with
  | none => (s, .refuse .wrongState)
  | some r => if r.issuer = p then (s.endRange r .stopped, .ok) else (s, .refuse .noRight)

/-- RANGE_STATUS (R42). -/
def rangeStatusAction (s : State) : State × Answer :=
  (s, .report (.rangeStatus s.range.active s.range.last))

/-- RCLAIM and RSET end with safety entry; the other ops continue (R39). -/
def RangeOp.endsWithSafety : RangeOp → Bool
  | .claim _ => true
  | .set _ => true
  | .release => false
  | .watch => false
  | .unwatch => false

/-- Safety entry of the Range Engine (R39). -/
def State.rangeSafetyEntry (s : State) : State :=
  match s.range.active with
  | some r => if r.op.endsWithSafety then s.endRange r .safety else s
  | none => s

/-- Entry to SETUP of the Range Engine (R40). -/
def State.rangeSetupEntry (s : State) : State :=
  match s.range.active with
  | some r => s.endRange r .setup
  | none => s

/-- Show reset of the Range Engine (R41). -/
def State.rangeShowReset (s : State) : State := { s with range := RangeEngine.reset }

/-! ## The commands -/

/-- Whether an op is an RCLAIM. -/
def RangeOp.isClaim : RangeOp → Bool
  | .claim _ => true
  | _ => false

/-- Whether an op is an RSET. -/
def RangeOp.isSet : RangeOp → Bool
  | .set _ => true
  | _ => false

/-- RANGE (R31). -/
def execRange (p : Port) (tag op first count priority : U8) (value : SetValue) (s : State) :
    Host.Outcome State Fault Refusal :=
  .next (s.request p 0x10 tag (rangeAction p op first count priority value))

/-- RANGE_STOP (R38). -/
def execRangeStop (p : Port) (tag : U8) (s : State) : Host.Outcome State Fault Refusal :=
  .next (s.request p 0x11 tag (rangeStopAction p))

/-- RANGE_STATUS (R42). -/
def execRangeStatus (p : Port) (tag : U8) (s : State) : Host.Outcome State Fault Refusal :=
  .next (s.request p 0x12 tag rangeStatusAction)

/-- RCLAIM_STEP (R33). -/
def execRclaimStep (s : State) : Host.Outcome State Fault Refusal := .next (s.stepIf RangeOp.isClaim)

/-- RRELEASE_STEP (R34). -/
def execRreleaseStep (s : State) : Host.Outcome State Fault Refusal := .next (s.stepIf fun o => o == .release)

/-- RSET_STEP (R35). -/
def execRsetStep (s : State) : Host.Outcome State Fault Refusal := .next (s.stepIf RangeOp.isSet)

/-- RWATCH_STEP (R36). -/
def execRwatchStep (s : State) : Host.Outcome State Fault Refusal := .next (s.stepIf fun o => o == .watch)

/-- RUNWATCH_STEP (R36). -/
def execRunwatchStep (s : State) : Host.Outcome State Fault Refusal := .next (s.stepIf fun o => o == .unwatch)

end Sys2Proof.Machine
end

