-- ==== Sys2Proof/Machine/Supervisor.lean ====
section
/-!
DEFINITION. The Safety Supervisor (08): the causes of a stop, entry to STOPPING and the return to NORMAL, the wind state, the
sensor standing and the level, the freeze record, and the requests and events that reach them.
-/

namespace Sys2Proof.Machine

/-- Posts SAFETY_STATE to every port (R136). -/
def State.tellSafety (s : State) (detail : Nat) : State := s.postAll .safetyState noSubject detail

/-! ## Causes and the stop (R144, R145) -/

/-- Entry to STOPPING with its first cause: the record, then the blocks in the order of R145, then SAFETY_STATE. -/
def State.enterStopping (s : State) (c : Cause) : State :=
  let s1 := s.setSafety { s.safety with state := .stopping, causes := [c], first := some c, further := false }
  let s2 := s1.directorySafetyEntry.rangeSafetyEntry
  (s2.eachTrack State.safeTrack).clockSafetyEntry.tellSafety (causeCode c)

/-- A cause recorded during a stop joins the tail of the list (R144). -/
def State.recordCause (s : State) (c : Cause) : State :=
  (s.setSafety { s.safety with causes := s.safety.causes ++ [c], further := true }).tellSafety (5 + causeCode c)

/-- The addition of a cause that is not in the list (R144). -/
def State.addCause (s : State) (c : Cause) : State :=
  match s.safety.state with
  | .normal => s.enterStopping c
  | .stopping => s.recordCause c
  | .stopped => s.recordCause c

/-- Whether a cause is in the cause list. -/
def Supervisor.has (r : Supervisor) (c : Cause) : Bool := r.causes.contains c

/-- A cause is added unless it is already in the list (R144). -/
def State.addCauseOnce (s : State) (c : Cause) : State := if s.safety.has c then s else s.addCause c

/-! ## Wind (R137, R138) -/

/-- The detail code of a wind state entered (R136). -/
def windCode : Wind → Nat
  | .calm => 10
  | .derate => 11
  | .windStop => 12

/-- The wind state of a gust value at or below which the jets are not stopped (R138). -/
def windBelow (g : Global) (gust : Nat) : Wind := if gust ≤ g.wCalm then .calm else .derate

/-- The wind state after an evaluation of a sensor that is not MISSING (R138). -/
def windAfter (g : Global) (before : Wind) (gust : Nat) : Wind :=
  match before with
  | .calm => if g.wStop ≤ gust then .windStop else windBelow g gust
  | .derate => if g.wStop ≤ gust then .windStop else windBelow g gust
  | .windStop => if g.wStop < gust + g.wHyst then .windStop else windBelow g gust

/-- The wind state becomes `w`; a change posts SAFETY_STATE (R138). -/
def State.setWind (s : State) (w : Wind) : State :=
  if w = s.safety.wind then s else (s.setSafety { s.safety with wind := w }).tellSafety (windCode w)

/-- One evaluation of the wind state; MISSING keeps it WIND_STOP (R138, R139). -/
def State.evalWind (s : State) : State :=
  s.setWind (if s.safety.standing = .missing then .windStop
    else windAfter s.config.global s.safety.wind s.safety.gust)

/-- The deadline of a hold timer started now; a hold of 0 is reached as it starts, which is EXPIRED (R137). -/
def State.holdStart (s : State) : Option Nat :=
  if s.config.global.gustHold = 0 then none else some (s.now + s.config.global.gustHold)

/-- The gust value and the hold timer after a reading of wind `r` (R137). -/
def State.takeGust (s : State) (r : Nat) : State :=
  if s.safety.gust ≤ r then s.setSafety { s.safety with gust := r, holdDeadline := s.holdStart }
  else
    match s.safety.holdDeadline with
    | some _ => s
    | none => s.setSafety { s.safety with gust := r }

/-! ## Readings and presence of the SENSE node (R137 to R140) -/

/-- The level of a reading replaces the field; LOW adds LEVEL (R140). -/
def State.takeLevel (s : State) (low : Bool) : State :=
  let t := s.setSafety { s.safety with levelLow := low }
  if low then t.addCauseOnce .level else t

/-- One reading: the gust value, the wind state, then the level (R137, R140, log 14). -/
def State.takeReading (s : State) (wind : Nat) (low : Bool) : State := ((s.takeGust wind).evalWind).takeLevel low

/-- The SENSE node has become ONLINE (R139). -/
def State.sensorOnline (s : State) : State :=
  if s.safety.standing = .present then s else (s.setSafety { s.safety with standing := .present }).evalWind

/-- A loss of the SENSE node: a change to MISSING forces WIND_STOP and takes the level as LOW (R139, R140). R139 does not order the
notices of the two; SAFETY_STATE detail 12 is posted before the notices that LEVEL brings: DEDUCED, log 14. -/
def State.sensorLost (s : State) : State :=
  if s.safety.standing = .missing then s
  else ((s.setSafety { s.safety with standing := .missing }).setWind .windStop).addCauseOnce .level

/-- The hold timer expires when the timebase has reached its deadline (R137, log 3). -/
def State.expireHold (s : State) : State :=
  match s.safety.holdDeadline with
  | some d => if d ≤ s.now then s.setSafety { s.safety with holdDeadline := none } else s
  | none => s

/-! ## The emergency stop and the intrusion line (R141, R142) -/

/-- The emergency stop line changes to ASSERTED; a line that is ASSERTED already has no change (R141, log 3). -/
def State.assertEstop (s : State) : State :=
  if s.safety.estopAsserted then s
  else (s.setSafety { s.safety with estopAsserted := true }).addCauseOnce .estop

/-- The emergency stop line changes to RELEASED (R141). -/
def State.releaseEstop (s : State) : State := s.setSafety { s.safety with estopAsserted := false }

/-- A rising edge of the intrusion line (R142). -/
def State.intrusion (s : State) : State :=
  if s.safety.has .intrusion then
    if s.safety.intrusionPending then s
    else (s.setSafety { s.safety with intrusionPending := true, further := true }).tellSafety 7
  else s.addCause .intrusion

/-! ## SAFETY_STOP and SAFETY_ACK (R143, R147, R148) -/

/-- SAFETY_STOP (R143). -/
def safetyStopAction (p : Port) (s : State) : State × Answer :=
  if (s.rights p).safety then (s.addCauseOnce .manual, .ok) else (s, .refuse .noRight)

/-- Whether an acknowledgement leaves a cause in the list (R147). -/
def Supervisor.stays (r : Supervisor) : Cause → Bool
  | .manual => false
  | .intrusion => r.intrusionPending
  | .level => r.takenLow
  | .estop => r.estopAsserted

/-- The record after an acknowledgement has acted on each cause (R147). -/
def Supervisor.acknowledged (r : Supervisor) : Supervisor :=
  { r with
    causes := r.causes.filter r.stays
    intrusionPending := if r.has .intrusion then false else r.intrusionPending }

/-- The return to NORMAL (R148). -/
def State.returnToNormal (s : State) : State :=
  let s1 := s.setSafety { s.safety with state := .normal, first := none, further := false }
  s1.directorySafetyExit.tellSafety 0

/-- SAFETY_ACK (R147, R148). -/
def safetyAckAction (p : Port) (s : State) : State × Answer :=
  if (s.rights p).safety = false then (s, .refuse .noRight)
  else if s.safety.state ≠ .stopped then (s, .refuse .wrongState)
  else
    let r := s.safety.acknowledged
    let t := s.setSafety r
    match r.causes with
    | [] => (t.returnToNormal, .ok)
    | c :: _ => (t, { status := .wrongState, index := causeCode c })

/-- Both rest indications hold (R103). -/
def Shaper.atRest (r : Shaper) : Bool := r.outputsAtRest && r.pumpsAtRest

/-- STOPPING becomes STOPPED at a frame event that finds both rest indications (R146). -/
def State.reachStopped (s : State) : State :=
  if s.safety.state = .stopping ∧ s.shaper.atRest = true then
    (s.setSafety { s.safety with state := .stopped }).tellSafety 5
  else s

/-! ## Freeze and thaw (R149 to R151) -/

/-- The freeze record after a change, the rest of the record kept. -/
def State.setFreeze (s : State) (f : Freeze) : State := s.setSafety { s.safety with freeze := f }

/-- FREEZE (R149). -/
def freezeAction (p : Port) (s : State) : State × Answer :=
  if (s.rights p).freeze = false then (s, .refuse .noRight)
  else
    match s.safety.freeze with
    | .none => (s.setFreeze (.requested p), { status := .accepted })
    | .requested f => if f = p then (s, .ok) else (s, .refuse .busy)
    | .inEffect f => if f = p then (s, .ok) else (s, .refuse .busy)
    | .thawRequested f => if f = p then (s.setFreeze (.inEffect p), .ok) else (s, .refuse .busy)

/-- THAW is taken from the freezing port and from a port with the SAFETY right (R150). -/
def State.mayThaw (s : State) (p freezer : Port) : Bool := p == freezer || (s.rights p).safety

/-- THAW (R150). -/
def thawAction (p : Port) (s : State) : State × Answer :=
  match s.safety.freeze with
  | .none => (s, .refuse .wrongState)
  | .requested f =>
    if s.mayThaw p f then ((s.setFreeze .none).post f .thawed noSubject 1, .ok) else (s, .refuse .noRight)
  | .inEffect f =>
    if s.mayThaw p f then (s.setFreeze (.thawRequested f), { status := .accepted }) else (s, .refuse .noRight)
  | .thawRequested f => if s.mayThaw p f then (s, .ok) else (s, .refuse .noRight)

/-- The freeze record's change at a frame event, handed on to the tracks and then to the clock (R151, R181, log 22). The
UNDERRUN that a thaw meets at once (04 R79, R82), for which R181 has no place, is therefore posted after the thawed tracks'
TRACK_STATE and before HEADER_STATE: DESIGN CHOICE, log 34. -/
def State.changeFreeze (s : State) : State :=
  match s.safety.freeze with
  | .none => s
  | .requested f =>
    let t := ((s.setFreeze (.inEffect f)).post f .frozen noSubject 0).eachTrack State.freezeTrack
    t.setClock t.clock.freezeIn
  | .inEffect _ => s
  | .thawRequested f =>
    (((s.setFreeze .none).post f .thawed noSubject 0).eachTrack State.thawTrack).clockThaw

/-! ## SAFETY_STATUS (R154) -/

/-- The milliseconds from now to the hold deadline, 0 when EXPIRED (R154). -/
def State.holdRemaining (s : State) : Nat :=
  match s.safety.holdDeadline with
  | some d => d - s.now
  | none => 0

/-- SAFETY_STATUS (R154). -/
def safetyStatusAction (s : State) : State × Answer :=
  (s, .report (.safetyStatus s.safety s.safety.takenLow s.holdRemaining))

/-! ## The commands -/

/-- SAFETY_STOP (R143). -/
def execSafetyStop (p : Port) (tag : U8) (s : State) : Host.Outcome State Fault Refusal :=
  .next (s.request p 0x50 tag (settled (safetyStopAction p)))

/-- SAFETY_ACK (R147). -/
def execSafetyAck (p : Port) (tag : U8) (s : State) : Host.Outcome State Fault Refusal :=
  .next (s.request p 0x51 tag (safetyAckAction p))

/-- ESTOP_ASSERTED (R141). -/
def execEstopAsserted (s : State) : Host.Outcome State Fault Refusal := .next (settleIdle s s.assertEstop)

/-- ESTOP_RELEASED (R141). -/
def execEstopReleased (s : State) : Host.Outcome State Fault Refusal := .next s.releaseEstop

/-- INTRUSION_EDGE (R142). -/
def execIntrusionEdge (s : State) : Host.Outcome State Fault Refusal := .next (settleIdle s s.intrusion)

/-- FREEZE (R149). -/
def execFreeze (p : Port) (tag : U8) (s : State) : Host.Outcome State Fault Refusal :=
  .next (s.request p 0x52 tag (freezeAction p))

/-- THAW (R150). -/
def execThaw (p : Port) (tag : U8) (s : State) : Host.Outcome State Fault Refusal :=
  .next (s.request p 0x53 tag (thawAction p))

/-- SAFETY_STATUS (R154). -/
def execSafetyStatus (p : Port) (tag : U8) (s : State) : Host.Outcome State Fault Refusal :=
  .next (s.request p 0x54 tag safetyStatusAction)

/-- HOLD_TIMER_EXPIRY (R137). -/
def execHoldTimerExpiry (s : State) : Host.Outcome State Fault Refusal := .next s.expireHold

end Sys2Proof.Machine
end

