-- ==== Sys2Proof/Machine/Field.lean ====
section
/-!
DEFINITION. The Field Link Controller (07): the body of each update, the sweep over the nodes, replies and misses, loss and
recovery, what is handed to the Safety Supervisor, and NODE_STATUS.
-/

namespace Sys2Proof.Machine

/-! ## Update bodies (R123) -/

/-- The opening a VALVE8 node is sent for a slot: the valve output of the enabled jet that names it, 0 for none (R123). Where
several name it, which SETUP alone admits (09 R161 check 3), the lowest-numbered is sent: DESIGN CHOICE, log 30. -/
def State.slotOpening (s : State) (n : Fin 32) (k : Fin 8) : Nat :=
  match (Table.indices 128).find? fun j =>
      (s.config.jets.get j).enabled && (s.config.jets.get j).node == n && (s.config.jets.get j).slot == k with
  | some j => (s.jets.get j).valve
  | none => 0

/-- The speed a DRIVE node is sent: that of the lowest-numbered enabled header that names it, 0xFFFF for none (R123). -/
def State.driveSpeed (s : State) (n : Fin 32) : Nat :=
  match (Table.indices 16).find? fun h =>
      (s.config.headers.get h).enabled && (s.config.headers.get h).driveNode == n with
  | some h => (s.headers.get h).commanded
  | none => 0xFFFF

/-- The colour a LAMP4 node is sent for a slot: the output of the enabled fixture that names it, black for none (R123). Where
several name it, which SETUP alone admits (09 R161 check 7), the lowest-numbered is sent: DESIGN CHOICE, log 30. -/
def State.slotColour (s : State) (n : Fin 32) (k : Fin 4) : Rgbw :=
  match (Table.indices 48).find? fun f =>
      (s.config.fixtures.get f).enabled && (s.config.fixtures.get f).node == n && (s.config.fixtures.get f).slot == k with
  | some f => (s.fixtures.get f).output
  | none => Rgbw.black

/-- The four bytes of a colour (R120). -/
def Rgbw.bytes (c : Rgbw) : List Byte := [byteOf c.red, byteOf c.green, byteOf c.blue, byteOf c.white]

/-- The body of an UPDATE or SYNC UPDATE to a node, from the outputs as they stand (R120, R123). -/
def State.updateBody (s : State) (n : Fin 32) : List Byte :=
  match s.config.nodes.get n with
  | .none => []
  | .valve8 => ((Table.indices 8).map fun k => be2 (s.slotOpening n k)).flatten
  | .drive => be2 (s.driveSpeed n)
  | .lamp4 => ((Table.indices 4).map fun k => Rgbw.bytes (s.slotColour n k)).flatten
  | .sense => []

/-- The kind code of a frame the part sends (R120). -/
def sentCode : SentKind → Nat
  | .update => 0x01
  | .syncUpdate => 0x02
  | .probe => 0x03

/-- The field frame of a transmission: node number, kind, body and CRC-16 (R120). -/
def Transmission.frame (tx : Transmission) : List Byte :=
  let head := byteOf tx.node.val :: byteOf (sentCode tx.kind) :: tx.body
  head ++ crcBytes head

/-! ## The sweep (R121, R122, R124) -/

/-- The frame a node is sent when a sweep reaches it; absent where it is passed over (R122). -/
def NodeRecord.visit (r : NodeRecord) (probing : Bool) : Option SentKind :=
  match r.state with
  | .absent => none
  | .online => some .update
  | .syncing => some .syncUpdate
  | .backoff => if r.skipCount = 0 then some .syncUpdate else none
  | .offline => if probing then some .probe else none
  | .lost => if probing then some .probe else none

/-- The record of a node passed over: the skip count of a node in BACKOFF decreases by 1 (R122). -/
def NodeRecord.passed (r : NodeRecord) : NodeRecord :=
  match r.state with
  | .backoff => { r with skipCount := r.skipCount - 1 }
  | .absent => r
  | .online => r
  | .syncing => r
  | .offline => r
  | .lost => r

/-- The transmission that begins at a node now (R123, R124). -/
def State.transmit (s : State) (n : Fin 32) (kind : SentKind) : Transmission :=
  { node := n
    kind := kind
    body := match kind with
      | .update => s.updateBody n
      | .syncUpdate => s.updateBody n
      | .probe => []
    window := s.config.global.replyWindow
    counted := true }

/-- The sweep's items replaced. -/
def State.setSweep (s : State) (w : Sweep) : State := { s with sweep := w }

/-- The sweep comes to the nodes of a list in turn; it is held at the first that is sent a frame, and ends past the last
(R122). -/
def State.walk (probing : Bool) : List (Fin 32) → State → State
  | [], s => s.setSweep { s.sweep with running := none }
  | n :: rest, s =>
    match (s.node n).visit probing with
    | some kind => s.setSweep { s.sweep with running := some ⟨s.transmit n kind, probing⟩ }
    | none => State.walk probing rest (s.setNode n (s.node n).passed)

/-- The probe counter after a sweep start (R122). -/
def nextProbe (counter interval : Nat) : Nat := if interval ≤ counter + 1 then 0 else counter + 1

/-- A sweep starts: a probe sweep when the probe counter is 0 (R122). -/
def State.startSweep (s : State) : State :=
  (s.setSweep { s.sweep with probeCounter := nextProbe s.sweep.probeCounter s.config.global.probeInterval }).walk
    (s.sweep.probeCounter == 0) (Table.indices 32)

/-- The nodes above a node, ascending. -/
def nodesAfter (n : Fin 32) : List (Fin 32) := (Table.indices 32).filter fun m => decide (n < m)

/-- The sweep goes on to the nodes left; at its end a pending sweep starts (R121, R122). -/
def State.goOn (s : State) (probing : Bool) (rest : List (Fin 32)) : State :=
  let t := s.walk probing rest
  match t.sweep.running with
  | some _ => t
  | none => if t.sweep.pending then (t.setSweep { t.sweep with pending := false }).startSweep else t

/-- A frame event gives a sweep (R121). -/
def State.giveSweep (s : State) : State :=
  match s.sweep.running with
  | none => s.startSweep
  | some _ =>
    if s.sweep.pending then s.setSweep { s.sweep with overrun := true }
    else s.setSweep { s.sweep with pending := true }

/-! ## Changes of a node's state (R125 to R129, R132) -/

/-- Posts NODE_STATE of a node to every port (R129). -/
def State.tellNode (s : State) (n : Fin 32) (detail : Nat) : State := s.postAll .nodeState n.val detail

/-- Whether a node is configured as the SENSE node. -/
def State.isSense (s : State) (n : Fin 32) : Bool := s.config.nodes.get n == .sense

/-- The loss of a node is handed to the Supervisor if it is the SENSE node (R132). -/
def State.handLoss (s : State) (n : Fin 32) : State := if s.isSense n then s.sensorLost else s

/-- The node becomes LOST: skip count 0, miss count 3, NODE_STATE, and the loss handed on (R126, R127, R129, R132). -/
def State.loseNode (s : State) (n : Fin 32) (r : NodeRecord) (detail : Nat) : State :=
  ((s.setNode n { r with state := .lost, skipCount := 0, missCount := Config.missLimit }).tellNode n detail).handLoss n

/-- A miss (R127). -/
def State.missNode (s : State) (n : Fin 32) : State :=
  let r := s.node n
  if r.state = .lost then s
  else if Config.missLimit ≤ r.missCount + 1 then s.loseNode n r 1
  else s.setNode n { r with missCount := r.missCount + 1 }

/-- The skip count by the BUSY count after the increase (R126). -/
def backoffSkip : Nat → Nat
  | 1 => 1
  | 2 => 2
  | 3 => 4
  | _ => 8

/-- A BUSY that counts (R126). -/
def State.busyNode (s : State) (n : Fin 32) : State :=
  let r := s.node n
  let b := r.busyCount + 1
  if 5 ≤ b then s.loseNode n { r with busyCount := 5 } 2
  else
    let t := s.setNode n { r with state := .backoff, busyCount := b, skipCount := backoffSkip b }
    if r.state = .online then t.handLoss n else t

/-- Whether an ACK's body is the one of a node type (R120, log 28). -/
def ackFits : AckBody → NodeType → Bool
  | .empty, .valve8 => true
  | .empty, .lamp4 => true
  | .drive _ _, .drive => true
  | .sense _ _, .sense => true
  | _, _ => false

/-- The record of a node that has acknowledged (R125). -/
def NodeRecord.acked (r : NodeRecord) (body : AckBody) : NodeRecord :=
  let r1 := { r with state := .online, busyCount := 0, missCount := 0, skipCount := 0 }
  match body with
  | .empty => r1
  | .drive speed fault => { r1 with drive := some ⟨speed.val, fault⟩ }
  | .sense wind low => { r1 with sense := some ⟨wind.val, low⟩ }

/-- An ACK that counts: the record, then for the SENSE node its presence and its reading (R125, R132, R139). -/
def State.ackNode (s : State) (n : Fin 32) (body : AckBody) : State :=
  let t := s.setNode n ((s.node n).acked body)
  match body with
  | .empty => t
  | .drive _ _ => t
  | .sense wind low => (if (s.node n).state = .online then t else t.sensorOnline).takeReading wind.val low

/-- Whether an IDENT's type byte names a node type (R120). -/
def identFits (nodeType : Nat) : NodeType → Bool
  | .none => false
  | t => nodeTypeCode t == nodeType

/-- An IDENT that counts: SYNCING with its counts cleared, and NODE_STATE where it leaves LOST (R128). -/
def State.identNode (s : State) (n : Fin 32) : State :=
  let r := s.node n
  let t := s.setNode n { r with state := .syncing, busyCount := 0, missCount := 0 }
  if r.state = .lost then t.tellNode n 0 else t

/-! ## The end of a transmission (R124) -/

/-- Whether a transmission is an UPDATE or a SYNC UPDATE. -/
def Transmission.isUpdate (tx : Transmission) : Bool := tx.kind != .probe

/-- The transmission in flight ends: `act` takes the end on its node's record where it counts, and the sweep goes on. With no
transmission in flight nothing happens (R124). -/
def State.endTransmission (s : State) (act : State → Transmission → State) : State :=
  match s.sweep.running with
  | none => s
  | some r => (if r.tx.counted then act s r.tx else s).goOn r.probing (nodesAfter r.tx.node)

/-- The end at an ACK; one that the transmission does not admit is a miss (R120, R125, R127). -/
def State.endAck (body : AckBody) (s : State) (tx : Transmission) : State :=
  if tx.isUpdate && ackFits body (s.config.nodes.get tx.node) then s.ackNode tx.node body else s.missNode tx.node

/-- The end at a BUSY (R120, R126, R127). -/
def State.endBusy (s : State) (tx : Transmission) : State :=
  if tx.isUpdate then s.busyNode tx.node else s.missNode tx.node

/-- The end at an IDENT (R120, R127, R128). -/
def State.endIdent (nodeType : U8) (s : State) (tx : Transmission) : State :=
  if !tx.isUpdate && identFits nodeType.val (s.config.nodes.get tx.node) then s.identNode tx.node
  else s.missNode tx.node

/-- The end at an expiry or at a reply with a bad check (R127). -/
def State.endMiss (s : State) (tx : Transmission) : State := s.missNode tx.node

/-! ## Judging a reply frame (R120) -/

/-- The ACK body of a node type's bytes (R120). -/
def ackBodyOf (t : NodeType) (body : List Byte) : Option AckBody :=
  match t, body with
  | .valve8, [] => some .empty
  | .lamp4, [] => some .empty
  | .drive, [h, l, f] => (flagByte f).map fun b => .drive (field16 h l) b
  | .sense, [h, l, f] => (flagByte f).map fun b => .sense (field16 h l) b
  | _, _ => none

/-- The reply a body with its kind byte makes to a transmission to a node of a type; absent for a bad check (R120). -/
def replyOf (isUpdate : Bool) (t : NodeType) (kind : Nat) (body : List Byte) : Option Instr :=
  match isUpdate, kind, body with
  | true, 0x81, _ => (ackBodyOf t body).map .ack
  | true, 0x82, [] => some .busy
  | false, 0x83, [ty] => if identFits ty.toNat t then some (.ident (fieldOf ty)) else none
  | _, _, _ => none

/-- The command that a reply frame makes of the transmission it answers: a reply with a bad check is BAD_CHECK_REPLY
(R120). -/
def judgeReply (tx : Transmission) (t : NodeType) (bytes : List Byte) : Instr :=
  match bytes with
  | nb :: kb :: rest =>
    let body := rest.take (rest.length - 2)
    if rest.length < 2 ∨ rest.drop (rest.length - 2) ≠ crcBytes (nb :: kb :: body) ∨ nb.toNat ≠ tx.node.val then
      .badCheckReply
    else (replyOf tx.isUpdate t kb.toNat body).getD .badCheckReply
  | _ => .badCheckReply

/-- The command of a reply frame that reaches the part: a stray reply with no transmission in flight (R120, R124). Any frame
within a window is judged as that transmission's reply, so that a late reply of an earlier node inside the next node's window
is a reply with a bad check, a miss of the node now addressed, where R124 could be read to discard it: DEDUCED, log 28. -/
def State.replyCommand (s : State) (bytes : List Byte) : Instr :=
  match s.sweep.running with
  | none => .strayReply
  | some r => judgeReply r.tx (s.config.nodes.get r.tx.node) bytes

/-! ## A node entry written (R124, R130) -/

/-- A transmission to the node in flight is not counted (R124). -/
def State.uncount (s : State) (n : Fin 32) : State :=
  match s.sweep.running with
  | none => s
  | some r =>
    if r.tx.node = n then s.setSweep { s.sweep with running := some { r with tx := { r.tx with counted := false } } }
    else s

/-- What a write of a node entry does to the node's record, with the type the entry had before (R130). -/
def State.nodeWritten (s : State) (n : Fin 32) (before : NodeType) : State :=
  let after := s.config.nodes.get n
  let s1 := s.uncount n
  if after = before then s1
  else
    let r := s1.node n
    let s2 := s1.setNode n (NodeRecord.fresh after)
    let s3 := if r.state = .lost then s2.tellNode n 3 else s2
    if before = .sense ∧ r.state = .online then s3.sensorLost else s3

/-! ## NODE_STATUS (R134) -/

/-- What NODE_STATUS reports of a node (R134). -/
def State.nodeReport (s : State) (n : Fin 32) : NodeReport :=
  { nodeType := s.config.nodes.get n
    record := s.node n
    current := s.sweep.running.map fun r => r.tx.node
    pending := s.sweep.pending
    overrun := s.sweep.overrun
    probeCounter := s.sweep.probeCounter }

/-- NODE_STATUS (R134). -/
def nodeStatusAction (node : U8) (s : State) : State × Answer :=
  if h : node.val < 32 then (s, .report (.nodeStatus (s.nodeReport ⟨node.val, h⟩))) else (s, .refuse .outOfRange)

/-! ## The commands -/

/-- ACK (R125). -/
def execAck (body : AckBody) (s : State) : Host.Outcome State Fault Refusal :=
  .next (settleIdle s (s.endTransmission (State.endAck body)))

/-- BUSY (R126). -/
def execBusy (s : State) : Host.Outcome State Fault Refusal :=
  .next (settleIdle s (s.endTransmission State.endBusy))

/-- IDENT (R128). -/
def execIdent (nodeType : U8) (s : State) : Host.Outcome State Fault Refusal :=
  .next (settleIdle s (s.endTransmission (State.endIdent nodeType)))

/-- BAD_CHECK_REPLY (R120, R127). -/
def execBadCheckReply (s : State) : Host.Outcome State Fault Refusal :=
  .next (settleIdle s (s.endTransmission State.endMiss))

/-- REPLY_WINDOW_EXPIRY (R127). -/
def execReplyWindowExpiry (s : State) : Host.Outcome State Fault Refusal :=
  .next (settleIdle s (s.endTransmission State.endMiss))

/-- STRAY_REPLY: discarded, and it changes no record (R124). -/
def execStrayReply (s : State) : Host.Outcome State Fault Refusal := .next s

/-- NODE_STATUS (R134). -/
def execNodeStatus (p : Port) (tag node : U8) (s : State) : Host.Outcome State Fault Refusal :=
  .next (s.request p 0x43 tag (nodeStatusAction node))

end Sys2Proof.Machine
end

