-- ==== Sys2Proof/Machine/Frame.lean ====
section
/-!
DEFINITION. The frame event (05 R86): the frame timer, the freeze record's change, and the parts of the Shaper, the
Supervisor, the Mixer and the Field Link in their order (08 R146, R151, 11 R181).
-/

namespace Sys2Proof.Machine

/-- The frame timer is reloaded with the frame period then in force (R86); the free values of this frame are drawn at a new
point (log 25). -/
def State.reloadFrame (s : State) : State :=
  { s with
    freeCount := s.freeCount + 1
    shaper := { s.shaper with frameDue := s.now + s.config.global.framePeriod } }

/-- One frame event: the freeze record, the Shaper's part with the idle condition and the rest indications read at its end,
the Mixer's part, and the sweep given to the Field Link Controller (R86, 08 R146, R151, 09 R165). It is one command, so that an
event that falls between the Shaper's part and the Mixer's is always taken after both, where 06 R109 allows it before the Mixer's
as well: DESIGN CHOICE, log 1. -/
def State.frame (s : State) : State :=
  (((s.reloadFrame.changeFreeze.shape).evalIdle.reachStopped).mix).giveSweep

/-- The frame event is taken at the frame timer's expiry; before it there is none (R86, log 3). -/
def State.frameEvent (s : State) : State := if s.shaper.frameDue ≤ s.now then s.frame else s

/-- FRAME_EVENT (R86). -/
def execFrameEvent (s : State) : Host.Outcome State Fault Refusal := .next s.frameEvent

end Sys2Proof.Machine
end

