-- ==== Sys2Proof/Machine/Encode.lean ====
section
/-!
DEFINITION. The bytes of responses (10 R170): the encoding of each body's items, notice records (R175), configuration entries
(R172) and the response frame.
-/

namespace Sys2Proof.Machine

/-! ## Encoding of items (R170) -/

/-- A flag: 1 for set, yes or filled, else 0. -/
def flag (b : Bool) : List Byte := if b then [1] else [0]

/-- An item of `width` bytes that may be absent: a presence byte, then its bytes or as many zeros. -/
def optional {α : Type} (width : Nat) (bytes : α → List Byte) : Option α → List Byte
  | some v => 1 :: bytes v
  | none => 0 :: List.replicate width 0

/-- A list of variable length: its count, then its elements. -/
def counted {α : Type} (bytes : α → List Byte) (l : List α) : List Byte := byteOf l.length :: (l.map bytes).flatten

/-- A set of up to eight members, in bits 0 upward. -/
def bits : List Bool → Nat
  | [] => 0
  | b :: rest => (if b then 1 else 0) + 2 * bits rest

/-- A set as one byte. -/
def setByte (members : List Bool) : List Byte := [byteOf (bits members)]

/-- A port as one byte. -/
def portByte (p : Port) : List Byte := [byteOf (portCode p)]

/-! ## Codes of names -/

/-- The code of a status (R173). -/
def statusCode : Status → Nat
  | .ok => 0
  | .accepted => 1
  | .queued => 2
  | .clamped => 3
  | .late => 4
  | .badFrame => 5
  | .badRequest => 6
  | .outOfRange => 7
  | .noRight => 8
  | .wrongMode => 9
  | .wrongState => 10
  | .notHolder => 11
  | .heldHigher => 12
  | .waitFull => 13
  | .safed => 14
  | .busy => 15
  | .full => 16
  | .cueInvalid => 17
  | .configInvalid => 18

/-- The code of a notice kind (R175). -/
def noticeCode : NoticeKind → Nat
  | .recall => 1
  | .lost => 2
  | .granted => 3
  | .holderChanged => 4
  | .claimDropped => 5
  | .rangeDone => 6
  | .trackState => 7
  | .cueSkipped => 8
  | .underrun => 9
  | .audioResumed => 10
  | .headerState => 11
  | .nodeState => 12
  | .safetyState => 13
  | .frozen => 14
  | .thawed => 15
  | .modeChanged => 16

/-- The place of a channel state in the list of 01 R2. -/
def holdCode : Hold → Nat
  | .free => 0
  | .held _ _ => 1
  | .recalling _ _ _ => 2
  | .safed => 3

/-- The op code of a range op (R172). -/
def opCode : RangeOp → Nat
  | .claim _ => 1
  | .release => 2
  | .set _ => 3
  | .watch => 4
  | .unwatch => 5

/-- The place of a track state in the list of 03 R51. -/
def trackCode : TrackName → Nat
  | .idle => 0
  | .armed => 1
  | .running => 2
  | .waiting => 3
  | .paused => 4
  | .faulted => 5

/-- The place of a fault reason in the list of 03 R51, and not the TRACK_STATE detail that 03 R52 gives with it (R170): DESIGN
CHOICE, log 9. -/
def faultCode : TrackFault → Nat
  | .badRecord => 0
  | .stackFull => 1
  | .stackEmpty => 2
  | .nesting => 3
  | .callRange => 4
  | .windowEnd => 5
  | .runaway => 6

/-- The place of a run state in the list of 04 R67. -/
def runCode : RunState → Nat
  | .stopped => 0
  | .running => 1
  | .stalled => 2

/-- The source code (R172). -/
def sourceCode : Source → Nat
  | .internal => 1
  | .audio => 2

/-- The place of a basis in the list of 06 R107. -/
def basisCode : Basis → Nat
  | .colour => 0
  | .follow => 1
  | .white => 2
  | .level => 3
  | .mode => 4
  | .disabled => 5

/-- The place of a node state in the list of 07 R119. -/
def nodeStateCode : NodeState → Nat
  | .absent => 0
  | .offline => 1
  | .syncing => 2
  | .online => 3
  | .backoff => 4
  | .lost => 5

/-- The place of a safety state in the list of 08 R135. -/
def safetyCode : SafetyState → Nat
  | .normal => 0
  | .stopping => 1
  | .stopped => 2

/-- The place of a sensor standing in the list of 08 R135. -/
def standingCode : Standing → Nat
  | .unseen => 0
  | .present => 1
  | .missing => 2

/-- The place of a wind state in the list of 08 R135. -/
def windPlace : Wind → Nat
  | .calm => 0
  | .derate => 1
  | .windStop => 2

/-- The place of a freeze record in the list of 08 R135. -/
def freezeCode : Freeze → Nat
  | .none => 0
  | .requested _ => 1
  | .inEffect _ => 2
  | .thawRequested _ => 3

/-- The freezing port (08 R135). -/
def freezer : Freeze → Option Port
  | .none => none
  | .requested p => some p
  | .inEffect p => some p
  | .thawRequested p => some p

/-- The target code of a mode (R172). -/
def modeCode : Mode → Nat
  | .setup => 1
  | .dark => 2
  | .live => 3

/-- The place of a start-up outcome in the list of 09 R155. -/
def startUpCode : StartUp → Nat
  | .loaded => 0
  | .blank => 1
  | .bad => 2
  | .invalid => 3

/-! ## Notices and configuration entries (R172, R175) -/

/-- The four extra bytes of a notice (R175). -/
def NoticeExtra.bytes : NoticeExtra → List Byte
  | .none => [0, 0, 0, 0]
  | .range done skipped first residual => [byteOf done, byteOf skipped, byteOf (first.getD 255), byteOf residual]
  | .cue index => be2 index ++ [0, 0]

/-- The twelve bytes of a notice (R175). -/
def Notice.bytes (n : Notice) : List Byte :=
  [byteOf (noticeCode n.kind), byteOf n.subject, byteOf n.detail, 0] ++ (be4 n.clock ++ n.extra.bytes)

/-- The bytes of a Port Rights entry (R172). -/
def PortRights.bytes (e : PortRights) : List Byte :=
  be1 e.ceiling ++ (setByte [e.config, e.showRight, e.freeze, e.safety] ++ (be2 e.base ++ be2 e.length))

/-- The bytes of nine curve points. -/
def curveBytes (curve : Table Nat 9) : List Byte := (curve.rows.map be2).flatten

/-- The bytes of a Jets entry (R172). -/
def JetConfig.bytes (e : JetConfig) : List Byte :=
  flag e.enabled ++ (be1 e.header.val ++ (be1 e.node.val ++ (be1 e.slot.val ++ (be2 e.hMax ++ (be1 e.exposure
    ++ (be2 e.up ++ (be2 e.down ++ (curveBytes e.openings ++ curveBytes e.flows))))))))

/-- The bytes of a Headers entry (R172). -/
def HeaderConfig.bytes (e : HeaderConfig) : List Byte :=
  flag e.enabled ++ (be1 e.driveNode.val ++ (be2 e.qMax ++ (be2 e.sMin ++ (be1 e.rampUp ++ be1 e.rampDown))))

/-- The bytes of a Fixtures entry; no follow jet is 255 (R172). -/
def FixtureConfig.bytes (e : FixtureConfig) : List Byte :=
  flag e.enabled ++ (be1 e.node.val ++ (be1 e.slot.val ++ be1 ((e.followJet.map Fin.val).getD 255)))

/-- The bytes of the Global entry (R172). -/
def Global.bytes (g : Global) : List Byte :=
  be1 g.framePeriod ++ (be2 g.recallTimeout ++ (be2 g.wCalm ++ (be2 g.wStop ++ (be1 g.wHyst ++ (be2 g.gustHold
    ++ (be1 (policyCode g.policy) ++ (be2 g.replyWindow ++ (be2 g.probeInterval ++ (be1 g.whiteLevel
    ++ be1 g.idleTime)))))))))

/-- The bytes of a configuration entry as CONFIG_WRITE carries it (R172). -/
def ConfigEntry.bytes : ConfigEntry → List Byte
  | .rights e => e.bytes
  | .jet e => e.bytes
  | .header e => e.bytes
  | .fixture e => e.bytes
  | .node e => be1 (nodeTypeCode e)
  | .global e => e.bytes

/-! ## Bodies (R170, log 9) -/

/-- The body of INQUIRE (01 R24). -/
def inquireBytes (e : ChannelEntry) (remaining : Option Nat) (waiters : List (Port × Nat)) : List Byte :=
  let priority : Option Nat := match e.hold with
    | .free => none
    | .held _ q => some q
    | .recalling _ q _ => some q
    | .safed => none
  be1 (holdCode e.hold) ++ (optional 1 portByte e.hold.holder ++ (optional 1 be1 priority
    ++ (setByte [e.watchers.a, e.watchers.b, e.watchers.c] ++ (flag e.slot.isSome ++ (optional 2 be2 remaining
    ++ (be1 waiters.length ++ counted (fun w => portByte w.1 ++ be1 w.2) waiters))))))

/-- The claim priority of an op, if it has one (02 R30). -/
def RangeOp.priority? : RangeOp → Option Nat
  | .claim p => some p
  | _ => none

/-- The set value of an op, if it has one (02 R30). -/
def RangeOp.value? : RangeOp → Option SetValue
  | .set v => some v
  | _ => none

/-- The issuer, op and operand of an active record (02 R42). The four bytes of a set value that its class leaves unused, which
the SET body ignores (R172), are reported as they were sent: DESIGN CHOICE, log 9. The operand is carried as a priority and a set
value, each behind a presence byte of its own within the row's (R170 leaves its form open): DESIGN CHOICE, log 9. -/
def RangeRecord.opBytes (r : RangeRecord) : List Byte :=
  portByte r.issuer ++ (be1 (opCode r.op) ++ (optional 1 be1 r.op.priority? ++ optional 6 SetValue.bytes r.op.value?))

/-- The last outcome (02 R30). -/
def RangeOutcome.bytes (o : RangeOutcome) : List Byte :=
  portByte o.issuer ++ (be1 (opCode o.op) ++ (be1 o.first ++ (be1 o.count ++ (be1 o.done ++ (be1 o.skipped
    ++ (optional 1 be1 o.firstSkipped ++ (be1 o.residual ++ be1 (endCode o.reason))))))))

/-- The body of RANGE_STATUS (02 R42). -/
def rangeStatusBytes (active : Option RangeRecord) (last : Option RangeOutcome) : List Byte :=
  flag active.isSome ++ (optional 11 RangeRecord.opBytes active
    ++ (optional 2 (fun r : RangeRecord => be1 r.first ++ be1 r.count) active
    ++ (optional 1 (fun r : RangeRecord => be1 r.next) active
    ++ (optional 2 (fun r : RangeRecord => be1 r.done ++ be1 r.skipped) active
    ++ (optional 1 be1 (active.bind fun r => r.firstSkipped)
    ++ (optional 1 (fun r : RangeRecord => be1 r.residual) active ++ optional 10 RangeOutcome.bytes last))))))

/-- A stack frame with its kind (03 R51, R66). -/
def StackFrame.bytes : StackFrame → List Byte
  | .loop body remaining untilMarker seen =>
    be1 0 ++ (be2 body ++ (be2 remaining ++ (optional 1 be1 untilMarker ++ flag seen)))
  | .call index => be1 1 ++ be2 index

/-- The items of a track that its state carries (03 R66): next_due, remaining ms, wait marker id and fault reason. -/
def Phase.items : Phase → Option Nat × Option Nat × Option Nat × Option TrackFault
  | .armed => (none, none, none, none)
  | .running nextDue _ => (some nextDue, none, none, none)
  | .waiting m => (none, none, some m, none)
  | .paused r => (none, some r, none, none)
  | .faulted f => (none, none, none, some f)

/-- The body of TRACK_STATUS (03 R66). -/
def trackStatusBytes (t : Track) : List Byte :=
  let items := match t with
    | some b => b.phase.items
    | none => (none, none, none, none)
  let reasons := match t with
    | some b => [b.reasons.owner, b.reasons.freeze, b.reasons.safety]
    | none => []
  let stack := match t with
    | some b => b.stack
    | none => []
  be1 (trackCode (trackName t)) ++ (optional 1 (fun b : TrackBody => portByte b.owner) t
    ++ (optional 2 (fun b : TrackBody => be2 b.cue) t ++ (optional 8 be8 items.1 ++ (optional 2 be2 items.2.1
    ++ (setByte reasons ++ (optional 1 be1 items.2.2.1 ++ (be1 stack.length ++ (counted StackFrame.bytes stack
    ++ optional 1 (fun f => be1 (faultCode f)) items.2.2.2))))))))

/-- The body of CLOCK_STATUS (04 R85). -/
def ClockReport.bytes (r : ClockReport) : List Byte :=
  be4 r.value ++ (be1 (runCode r.run) ++ (be1 (sourceCode r.source) ++ (setByte [r.underrun, r.freeze]
    ++ (flag r.coasting ++ (be4 r.position ++ (be1 r.queued ++ (optional 8 (fun s : Nat × Nat => be4 s.1 ++ be4 s.2) r.span
    ++ (be2 r.gain ++ (be1 (policyCode r.policy)
    ++ counted (fun e : Passage => be1 e.id ++ be4 e.clock) r.log)))))))))

/-- The body of JET_STATUS (05 R104). -/
def jetStatusBytes (enabled : Bool) (header : Fin 16) (r : JetRecord) : List Byte :=
  flag enabled ++ (be1 header.val ++ (be2 r.commanded ++ (be2 r.target ++ (be2 r.opening ++ (be2 r.flow ++ (be2 r.scaled
    ++ (be2 r.granted ++ (be2 r.valve ++ be2 r.follow))))))))

/-- The body of HEADER_STATUS (05 R104). -/
def headerStatusBytes (enabled : Bool) (r : HeaderRecord) : List Byte :=
  flag enabled ++ (be4 r.demand ++ (be2 r.available ++ (be2 r.granted ++ (be2 r.scale ++ (be2 r.target ++ (be2 r.commanded
    ++ (be2 r.actual ++ be1 (headerCode r.state))))))))

/-- The body of FIXTURE_STATUS (06 R117). -/
def fixtureStatusBytes (enabled : Bool) (followJet : Option (Fin 128)) (r : FixtureRecord) (staged : Bool) : List Byte :=
  flag enabled ++ (optional 1 (fun j : Fin 128 => be1 j.val) followJet ++ (Rgbw.bytes r.start ++ (Rgbw.bytes r.target
    ++ (Rgbw.bytes r.colour ++ (be2 r.length ++ (be2 r.step ++ (optional 2 be2 r.followLevel ++ (Rgbw.bytes r.output
    ++ (be1 (basisCode r.basis) ++ flag staged)))))))))

/-- The body of NODE_STATUS (07 R134). -/
def NodeReport.bytes (r : NodeReport) : List Byte :=
  be1 (nodeTypeCode r.nodeType) ++ (be1 (nodeStateCode r.record.state) ++ (be1 r.record.busyCount
    ++ (be1 r.record.missCount ++ (be1 r.record.skipCount
    ++ (optional 3 (fun d : DriveFeedback => be2 d.speed ++ flag d.fault) r.record.drive
    ++ (optional 3 (fun d : SenseFeedback => be2 d.wind ++ flag d.low) r.record.sense
    ++ (flag r.current.isSome ++ (optional 1 (fun n : Fin 32 => be1 n.val) r.current
    ++ (flag r.pending ++ (flag r.overrun ++ be2 r.probeCounter))))))))))

/-- The body of SAFETY_STATUS; the ESTOP line is carried by its place in the list of 08 R135, ASSERTED first (08 R154). -/
def safetyStatusBytes (r : Supervisor) (takenLow : Bool) (holdRemaining : Nat) : List Byte :=
  be1 (safetyCode r.state) ++ (counted (fun c => be1 (causeCode c)) r.causes
    ++ (optional 1 (fun c => be1 (causeCode c)) r.first ++ (flag r.further ++ (flag r.intrusionPending
    ++ (be1 (if r.estopAsserted then 0 else 1) ++ (flag r.levelLow ++ (flag takenLow ++ (be1 (standingCode r.standing)
    ++ (be2 r.gust ++ (be2 holdRemaining ++ (be1 (windPlace r.wind) ++ (be1 (freezeCode r.freeze)
    ++ optional 1 portByte (freezer r.freeze)))))))))))))

/-- The body of CONFIG_READ of the Global table (09 R160). -/
def globalEntryBytes (g : Global) (saving : Option Port) (outcome : StartUp) : List Byte :=
  g.bytes ++ (flag saving.isSome ++ (optional 1 portByte saving ++ be1 (startUpCode outcome)))

/-- The record of an error detail (R174). -/
def ErrorDetail.bytes (e : ErrorDetail) : List Byte :=
  be1 (statusCode e.status) ++ (be1 e.kind ++ (be1 e.field ++ (be2 e.index ++ be2 e.residual)))

/-- The body of IDENTIFY (R179). -/
def identityBytes (p : Port) : List Byte :=
  be2 0x0620 ++ (be1 1 ++ (be1 177 ++ (be1 16 ++ (be2 2048 ++ (be1 4 ++ (be1 48 ++ (be1 32 ++ (be1 32 ++ portByte p))))))))

/-- The body of SHOW_STATUS (R180). -/
def ShowReport.bytes (r : ShowReport) : List Byte :=
  be1 (modeCode r.mode) ++ (be1 (safetyCode r.safety) ++ (be1 (windPlace r.wind) ++ (be4 r.value ++ (be1 (runCode r.run)
    ++ ((r.headers.map fun h => byteOf (headerCode h)) ++ (flag r.overrun ++ (flag r.rangeActive ++ flag r.frozen)))))))

/-- The bytes of a response body (R170). -/
def Body.bytes : Body → List Byte
  | .empty => []
  | .inquire e remaining waiters => inquireBytes e remaining waiters
  | .rangeStatus active last => rangeStatusBytes active last
  | .cueRecords records => (records.map fun r => r.rows).flatten
  | .trackStatus t => trackStatusBytes t
  | .audioTaken trimmed discarded => be1 trimmed ++ flag discarded
  | .clockStatus r => r.bytes
  | .jetStatus enabled header r => jetStatusBytes enabled header r
  | .headerStatus enabled r => headerStatusBytes enabled r
  | .fixtureStatus enabled followJet r staged => fixtureStatusBytes enabled followJet r staged
  | .nodeStatus r => r.bytes
  | .safetyStatus r takenLow holdRemaining => safetyStatusBytes r takenLow holdRemaining
  | .configEntry e => e.bytes
  | .globalEntry g saving outcome => globalEntryBytes g saving outcome
  | .errorDetail d => optional 7 ErrorDetail.bytes d
  | .notices lost records => byteOf records.length :: (flag lost ++ (records.map Notice.bytes).flatten)
  | .identity p => identityBytes p
  | .showStatus r => r.bytes

/-- The response frame: kind and tag echoed, status, body length, body and CRC-16 (R170). -/
def responseFrame (kind tag : Nat) (r : Response) : List Byte :=
  let body := r.body.bytes
  let head := byteOf kind :: byteOf tag :: byteOf (statusCode r.status) :: (be2 body.length ++ body)
  head ++ crcBytes head

end Sys2Proof.Machine
end

