-- ==== Sys2Proof/Machine/Links.lean ====
section
/-!
DEFINITION. The link ports' own requests and events (10): refused frames, collecting a response, link reset, ERROR_DETAIL,
NOTICE_READ, IDENTIFY and SHOW_STATUS.
-/

namespace Sys2Proof.Machine

/-! ## ERROR_DETAIL, NOTICE_READ, IDENTIFY, SHOW_STATUS (R174, R177, R179, R180) -/

/-- ERROR_DETAIL (R174). -/
def errorDetailAction (p : Port) (s : State) : State × Answer := (s, .report (.errorDetail (s.port p).error))

/-- A port after its oldest notices have been read: the flag is cleared if the queue is then empty (R177). -/
def LinkPort.afterRead (lp : LinkPort) : LinkPort :=
  let rest := lp.notices.drop Config.noticesPerRead
  { lp with notices := rest, lost := if rest.isEmpty then false else lp.lost }

/-- NOTICE_READ (R177). -/
def noticeReadAction (p : Port) (s : State) : State × Answer :=
  let lp := s.port p
  (s.setPort p lp.afterRead, .report (.notices lp.lost (lp.notices.take Config.noticesPerRead)))

/-- IDENTIFY (R179). -/
def identifyAction (p : Port) (s : State) : State × Answer := (s, .report (.identity p))

/-- What SHOW_STATUS reports (R180). -/
def State.showReport (s : State) : ShowReport :=
  { mode := s.unit.mode
    safety := s.safety.state
    wind := s.safety.wind
    value := s.clock.value
    run := s.clock.run
    headers := s.headers.rows.map fun h => h.state
    overrun := s.sweep.overrun
    rangeActive := s.range.active.isSome
    frozen := s.frozen }

/-- SHOW_STATUS: OVERRUN is reported and cleared (R180, 07 R121). -/
def showStatusAction (s : State) : State × Answer :=
  (s.setSweep { s.sweep with overrun := false }, .report (.showStatus s.showReport))

/-! ## Refused frames (R171) -/

/-- The status a frame fault is answered with. -/
def FrameFault.status : FrameFault → Status
  | .badFrame => .badFrame
  | .badRequest => .badRequest

/-- The answer to a frame that fails the checks of R171: kind and tag are echoed as received, and the frame has no effect on
any block. A selection that ended before the tag echoes a free value (log 6). -/
def State.refuseFrame (s : State) (p : Port) (fault : FrameFault) (kind : Byte) (rest : List Byte) : State :=
  match rest with
  | tag :: _ =>
    (s.beginRequest p kind.toNat tag.toNat).respond p kind.toNat tag.toNat (.refuse (FrameFault.status fault))
  | [] =>
    let tag := (Config.missingTag s.freeCount).val
    let t := { s with freeCount := s.freeCount + 1 }
    (t.beginRequest p kind.toNat tag).respond p kind.toNat tag (.refuse (FrameFault.status fault))

/-- The bytes of a selection that the checks refuse. A port that takes no frame, a first byte of 0 and no bytes at all are
ignored (R169); bytes that pass the checks are the request they spell and no BAD_FRAME (log 6). -/
def State.badFrame (s : State) (p : Port) (bytes : List Byte) : State :=
  if s.takesFrame p then
    match bytes with
    | [] => s
    | kind :: rest =>
      if kind = 0 then s
      else
        match checkFrame p (kind :: rest) with
        | .ok _ => s
        | .error fault => s.refuseFrame p fault kind rest
  else s

/-! ## Collecting a response (R169) -/

/-- A selection in ANSWERING that clocks out the whole response makes the port READY; a shorter one leaves it ANSWERING. With
the link-reset input held the selection is ignored (R169, R178). -/
def State.collect (s : State) (p : Port) (clocked : Nat) : State :=
  match (s.port p).state with
  | .answering kind tag r =>
    if (s.port p).resetHeld = false ∧ (responseFrame kind tag r).length ≤ clocked then
      s.setPort p { s.port p with state := .ready }
    else s
  | .ready => s
  | .working _ _ => s

/-! ## Link reset (R178) -/

/-- A link reset: taken at the change of the input from released to asserted (R178, log 3). -/
def State.linkReset (s : State) (p : Port) : State :=
  if (s.port p).resetHeld then s else s.setPort p (LinkPort.reset true)

/-- The link-reset input is released (R178). -/
def State.releaseLink (s : State) (p : Port) : State := s.setPort p { s.port p with resetHeld := false }

/-! ## The commands -/

/-- ERROR_DETAIL (R174). -/
def execErrorDetail (p : Port) (tag : U8) (s : State) : Host.Outcome State Fault Refusal :=
  .next (s.request p 0x70 tag (errorDetailAction p))

/-- NOTICE_READ (R177). -/
def execNoticeRead (p : Port) (tag : U8) (s : State) : Host.Outcome State Fault Refusal :=
  .next (s.request p 0x71 tag (noticeReadAction p))

/-- IDENTIFY (R179). -/
def execIdentify (p : Port) (tag : U8) (s : State) : Host.Outcome State Fault Refusal :=
  .next (s.request p 0x72 tag (identifyAction p))

/-- SHOW_STATUS (R180). -/
def execShowStatus (p : Port) (tag : U8) (s : State) : Host.Outcome State Fault Refusal :=
  .next (s.request p 0x73 tag showStatusAction)

/-- BAD_FRAME (R171). -/
def execBadFrame (p : Port) (bytes : List Byte) (s : State) : Host.Outcome State Fault Refusal :=
  .next (s.badFrame p bytes)

/-- RESPONSE_COLLECT (R169). -/
def execResponseCollect (p : Port) (clocked : Nat) (s : State) : Host.Outcome State Fault Refusal :=
  .next (s.collect p clocked)

/-- LINK_RESET (R178). -/
def execLinkReset (p : Port) (s : State) : Host.Outcome State Fault Refusal := .next (s.linkReset p)

/-- LINK_RESET_RELEASED (R178). -/
def execLinkResetReleased (p : Port) (s : State) : Host.Outcome State Fault Refusal := .next (s.releaseLink p)

end Sys2Proof.Machine
end

