-- ==== Sys2Proof/Machine/Modes.lean ====
section
/-!
DEFINITION. The Mode and Configuration Unit (09): writing, reading and saving the tables, the cross-table validation, the mode
changes, the idle timer's expiry, show reset, and power-on reset with start-up.
-/

namespace Sys2Proof.Machine

/-! ## The ranges of the tables (R159 check 6, as start-up judges an image by R166) -/

/-- Every field of a Port Rights entry lies in its range (R157). -/
def PortRights.inRange (e : PortRights) : Bool :=
  decide (e.ceiling ≤ 3 ∧ e.base ≤ 2047 ∧ e.length ≤ 2048 ∧ e.base + e.length ≤ 2048)

/-- Every field of a Jets entry lies in its range (05 R88). -/
def JetConfig.inRange (e : JetConfig) : Bool :=
  decide (100 ≤ e.hMax ∧ e.hMax ≤ 4000 ∧ e.exposure ≤ 15 ∧ 1 ≤ e.up ∧ e.up ≤ 1023 ∧ 1 ≤ e.down ∧ e.down ≤ 1023)
    && e.openings.rows.all (fun o => decide (o ≤ 1023)) && e.flows.rows.all (fun q => decide (q ≤ 4000))

/-- Every field of a Headers entry lies in its range (05 R89). -/
def HeaderConfig.inRange (e : HeaderConfig) : Bool :=
  decide (1 ≤ e.qMax ∧ e.qMax ≤ 20000 ∧ e.sMin ≤ 500 ∧ 1 ≤ e.rampUp ∧ e.rampUp ≤ 100 ∧ 1 ≤ e.rampDown ∧ e.rampDown ≤ 100)

/-- Every field of the Global entry lies in its range (R158). -/
def Global.inRange (g : Global) : Bool :=
  decide (10 ≤ g.framePeriod ∧ g.framePeriod ≤ 50 ∧ 50 ≤ g.recallTimeout ∧ g.recallTimeout ≤ 5000 ∧ g.wCalm ≤ 1000
    ∧ 100 ≤ g.wStop ∧ g.wStop ≤ 1000 ∧ g.wHyst ≤ 100 ∧ g.gustHold ≤ 10000 ∧ 200 ≤ g.replyWindow ∧ g.replyWindow ≤ 2000
    ∧ 10 ≤ g.probeInterval ∧ g.probeInterval ≤ 500 ∧ g.whiteLevel ≤ 255 ∧ g.idleTime ≤ 255)

/-- Every field of every table lies in its range. -/
def Tables.inRange (t : Tables) : Bool :=
  t.rights.a.inRange && t.rights.b.inRange && t.rights.c.inRange && t.jets.rows.all JetConfig.inRange
    && t.headers.rows.all HeaderConfig.inRange && t.global.inRange

/-- The Port Rights table gives the SAFETY right to at least one port (R157). -/
def Tables.keepsSafety (t : Tables) : Bool := t.rights.a.safety || t.rights.b.safety || t.rights.c.safety

/-! ## CONFIG_WRITE and CONFIG_READ (R159, R160) -/

/-- What the blocks do at a write: a node's record is remade where its type changes, and the wind state is evaluated where
the Global entry is written (R159). -/
def State.entryWritten (s : State) (index : Nat) (before : Tables) : ConfigEntry → State
  | .rights _ => s
  | .jet _ => s
  | .header _ => s
  | .fixture _ => s
  | .node _ => s.nodeWritten (Fin.ofNat 32 index) (before.nodes.get (Fin.ofNat 32 index))
  | .global _ => s.evalWind

/-- A write that has passed its checks replaces the whole entry at once (R159). -/
def State.writeEntry (s : State) (index : Nat) (e : ConfigEntry) : State :=
  State.entryWritten { s with config := s.config.put index e } index s.config e

/-- CONFIG_WRITE: the length of its body (10 R171 check 4), then the checks of R159 in order. -/
def configWriteAction (p : Port) (table index : U8) (entry : List Byte) (s : State) : State × Answer :=
  if configWriteFits table.val entry.length = false then (s, .refuse .badRequest)
  else
    match tableSize table.val with
    | none => (s, .refuse .outOfRange 1)
    | some size =>
      if size ≤ index.val then (s, .refuse .outOfRange 2)
      else if (s.rights p).config = false then (s, .refuse .noRight)
      else if s.unit.mode ≠ .setup then (s, .refuse .wrongMode)
      else if s.unit.saving.isSome then (s, .refuse .busy)
      else
        match parseEntry table.val entry with
        | .error field => (s, .refuse .outOfRange field)
        | .ok e =>
          if (s.config.put index.val e).keepsSafety then (s.writeEntry index.val e, .ok)
          else (s, .refuse .configInvalid (entryField 2))

/-- The body of a CONFIG_READ: the entry, and with the Global entry the save state and the start-up outcome (R160). -/
def State.readEntry (s : State) (table index : Nat) : Body :=
  match s.config.entry table index with
  | .global g => .globalEntry g s.unit.saving s.unit.outcome
  | .rights e => .configEntry (.rights e)
  | .jet e => .configEntry (.jet e)
  | .header e => .configEntry (.header e)
  | .fixture e => .configEntry (.fixture e)
  | .node e => .configEntry (.node e)

/-- CONFIG_READ (R160). R160 names no field for its refusal, so the error detail's field number is 0 (R171, log 8). -/
def configReadAction (table index : U8) (s : State) : State × Answer :=
  match tableSize table.val with
  | none => (s, .refuse .outOfRange)
  | some size =>
    if size ≤ index.val then (s, .refuse .outOfRange) else (s, .report (s.readEntry table.val index.val))

/-! ## The validation (R161) -/

/-- A failure of the validation: the table's code, the index of the entry and the number of the check (R161). -/
structure Failure where
  table : Nat
  index : Nat
  check : Nat
  deriving DecidableEq, Repr

/-- The lowest index at which a requirement fails. -/
def firstBad {n : Nat} (bad : Fin n → Bool) : Option Nat := ((Table.indices n).find? bad).map Fin.val

/-- The higher index of the first pair that clashes, pairs taken by their lower index and then their higher (log 31). -/
def firstPair {n : Nat} (clash : Fin n → Fin n → Bool) : Option Nat :=
  ((Table.indices n).findSome? fun i => (Table.indices n).find? fun j => decide (i < j) && clash i j).map Fin.val

/-- A curve's points do not fall (R161 check 4). -/
def rising : List Nat → Bool
  | a :: b :: rest => decide (a ≤ b) && rising (b :: rest)
  | _ => true

/-- The curves of a jet as check 4 of R161 requires them. -/
def JetConfig.curvesOk (e : JetConfig) : Bool :=
  rising e.openings.rows && rising e.flows.rows && e.openings.get 0 == 0 && e.flows.get 0 == 0
    && decide (1 ≤ e.openings.get 8)

/-- Two windows share an index (R161 check 10). -/
def PortRights.shares (x y : PortRights) : Bool :=
  decide (0 < x.length ∧ 0 < y.length ∧ x.base < y.base + y.length ∧ y.base < x.base + x.length)

/-- Check 9 of R161: the second SENSE node, or index 0 when there is none. -/
def Tables.senseFault (t : Tables) : Option Nat :=
  match (Table.indices 32).filter fun n => t.nodes.get n == .sense with
  | [] => some 0
  | [_] => none
  | _ :: m :: _ => some m.val

/-- The failing index of each check of R161 in the order of the checks, with the code of the table it is reported under. -/
def Tables.checks (t : Tables) : List (Nat × Option Nat) :=
  [ (2, firstBad fun j => (t.jets.get j).enabled && !(t.headers.get (t.jets.get j).header).enabled),
    (2, firstBad fun j => (t.jets.get j).enabled && t.nodes.get (t.jets.get j).node != .valve8),
    (2, firstPair fun i j => (t.jets.get i).enabled && (t.jets.get j).enabled
      && (t.jets.get i).node == (t.jets.get j).node && (t.jets.get i).slot == (t.jets.get j).slot),
    (2, firstBad fun j => (t.jets.get j).enabled && !(t.jets.get j).curvesOk),
    (3, firstBad fun h => (t.headers.get h).enabled && t.nodes.get (t.headers.get h).driveNode != .drive),
    (4, firstBad fun f => (t.fixtures.get f).enabled && t.nodes.get (t.fixtures.get f).node != .lamp4),
    (4, firstPair fun i j => (t.fixtures.get i).enabled && (t.fixtures.get j).enabled
      && (t.fixtures.get i).node == (t.fixtures.get j).node && (t.fixtures.get i).slot == (t.fixtures.get j).slot),
    (4, firstBad fun f => (t.fixtures.get f).enabled &&
      match (t.fixtures.get f).followJet with
      | some j => !(t.jets.get j).enabled
      | none => false),
    (5, t.senseFault),
    (1, firstPair fun (i j : Fin 3) =>
      (t.rights.get (portOfIndex i.val)).shares (t.rights.get (portOfIndex j.val))) ]

/-- The first failure among the checks numbered from `k` on. -/
def firstFailure : Nat → List (Nat × Option Nat) → Option Failure
  | _, [] => none
  | k, (table, some index) :: _ => some ⟨table, index, k⟩
  | k, (_, none) :: rest => firstFailure (k + 1) rest

/-- The validation: the first failure found, or none (R161). -/
def Tables.validate (t : Tables) : Option Failure := firstFailure 1 t.checks

/-! ## MODE (R162 to R164) -/

/-- The mode of a target code (10 R172). -/
def modeOf : Nat → Option Mode
  | 1 => some .setup
  | 2 => some .dark
  | 3 => some .live
  | _ => none

/-- Posts MODE_CHANGED to every port (R155). -/
def State.tellMode (s : State) (detail : Nat) : State := s.postAll .modeChanged noSubject detail

/-- The mode replaced. -/
def State.setMode (s : State) (m : Mode) : State := s.setUnit { s.unit with mode := m }

/-- SETUP to DARK (R164). -/
def State.leaveSetup (s : State) : State := (s.setMode .dark).tellMode 1

/-- DARK to LIVE (R164). -/
def State.goLive (s : State) : State := (s.setMode .live).tellMode 2

/-- LIVE to DARK, the idle timer OFF; MODE_CHANGED with the detail of the cause (R164, R168). -/
def State.goDark (s : State) (detail : Nat) : State :=
  (s.setUnit { s.unit with mode := .dark, idleDeadline := none }).tellMode detail

/-- Entry to SETUP from DARK: the blocks in the order of R163. -/
def State.enterSetup (s : State) : State :=
  let s1 := (s.setMode .setup).directorySetupEntry.rangeSetupEntry
  (s1.eachTrack State.idleForSetup).clockSetupEntry.shaperSetupEntry.mixerSetupEntry.tellMode 0

/-- MODE: the target code (10 R171 check 5), then the checks of R162 in order. -/
def modeAction (p : Port) (target : U8) (s : State) : State × Answer :=
  match modeOf target.val with
  | none => (s, .refuse .outOfRange 1)
  | some m =>
    match s.unit.mode, m with
    | .setup, .setup => (s, .ok)
    | .dark, .dark => (s, .ok)
    | .live, .live => (s, .ok)
    | .setup, .live => (s, .refuse .wrongState)
    | .live, .setup => (s, .refuse .wrongState)
    | .setup, .dark =>
      if (s.rights p).config = false then (s, .refuse .noRight)
      else if s.unit.saving.isSome then (s, .refuse .busy)
      else
        match s.config.validate with
        | some f => (s, { status := .configInvalid, field := f.table, index := f.index, residual := f.check })
        | none => (s.leaveSetup, .ok)
    | .dark, .setup =>
      if (s.rights p).config = false then (s, .refuse .noRight)
      else if s.shaper.outputsAtRest = false then (s, .refuse .busy)
      else (s.enterSetup, .ok)
    | .dark, .live => if (s.rights p).showRight = false then (s, .refuse .noRight) else (s.goLive, .ok)
    | .live, .dark =>
      if (s.rights p).showRight = false then (s, .refuse .noRight)
      else if s.anyTrackMoves = true ∨ s.clock.run ≠ .stopped then (s, .refuse .busy)
      else (s.goDark 1, .ok)

/-! ## The idle timer's expiry (R165) -/

/-- The deadline of a RUNNING idle timer is reached: LIVE becomes DARK with detail 3 (R164, R165, log 3). -/
def State.idleExpiry (s : State) : State :=
  match s.unit.idleDeadline with
  | some d => if d ≤ s.now ∧ s.unit.mode = .live then s.goDark 3 else s
  | none => s

/-! ## CONFIG_SAVE (R166) -/

/-- The kind code of CONFIG_SAVE (10 R172). -/
def configSaveKind : Nat := 0x62

/-- CONFIG_SAVE: a save that passes its checks leaves the port WORKING until the write ends (R166, 10 R169). -/
def State.configSave (s : State) (p : Port) (tag : U8) : State :=
  if s.takesFrame p then
    let t := s.beginRequest p configSaveKind tag.val
    if (s.rights p).config = false then t.respond p configSaveKind tag.val (.refuse .noRight)
    else if s.unit.mode ≠ .setup then t.respond p configSaveKind tag.val (.refuse .wrongMode)
    else if s.unit.saving.isSome then t.respond p configSaveKind tag.val (.refuse .busy)
    else t.setUnit { t.unit with saving := some p }
  else s

/-- The bytes of the six tables in order of their codes, each entry as CONFIG_WRITE carries it (R156, R166, log 18). -/
def Tables.bytes (t : Tables) : List Byte :=
  [(1, 3), (2, 128), (3, 16), (4, 48), (5, 32), (6, 1)].flatMap fun (table, size) =>
    (List.range size).flatMap fun index => (t.entry table index).bytes

/-- The CRC-16 of an image, over its format code and its tables (R166). -/
def imageCrc (format : Byte) (t : Tables) : BitVec 16 := crc16 (format :: t.bytes)

/-- The image of the tables under the part's own format code, with its CRC-16 (R166). -/
def Image.holding (t : Tables) : Image := .written Config.formatCode t (imageCrc Config.formatCode t)

/-- The image a write leaves: the tables in force, which cannot have changed since the save was taken, or a bad image where
the write failed (R166, log 18). -/
def State.savedImage (s : State) (written : Bool) : Image := if written then Image.holding s.config else .spoiled

/-- The end of a write: the save state becomes IDLE and the saving port, if its request still waits, is answered (R166,
10 R178). With no write in flight nothing ends (log 3). -/
def State.saveEnd (s : State) (written : Bool) : State :=
  match s.unit.saving with
  | none => s
  | some p =>
    let t := State.setUnit { s with image := s.savedImage written } { s.unit with saving := none }
    match (t.port p).state with
    | .working kind tag =>
      if kind = configSaveKind then
        t.respond p configSaveKind tag (if written then .ok else .refuse .wrongState)
      else t
    | .ready => t
    | .answering _ _ _ => t

/-! ## Power-on reset and start-up (R166, R167) -/

/-- An image's tables where it is good: its format code is the part's own, its CRC-16 matches, every field lies in its range
and a port holds the SAFETY right (R166). -/
def Image.good : Image → Option Tables
  | .blank => none
  | .spoiled => none
  | .written format t crc =>
    if format = Config.formatCode ∧ crc = imageCrc format t ∧ t.inRange = true ∧ t.keepsSafety = true then some t else none

/-- The start-up outcome of an image that is not loaded (R167). -/
def Image.failure : Image → StartUp
  | .blank => .blank
  | .spoiled => .bad
  | .written .. => .bad

/-- What start-up makes of an image: the tables, the mode and the outcome (R167). -/
def startUp (image : Image) : Tables × Mode × StartUp :=
  match image.good with
  | some t =>
    match t.validate with
    | none => (t, .dark, .loaded)
    | some _ => (Tables.factory, .setup, .invalid)
  | none => (Tables.factory, .setup, image.failure)

/-- The image as power-on reset finds it: bad where a write had not ended (R166). -/
def State.imageAtReset (s : State) : Image := if s.unit.saving.isSome then .spoiled else s.image

/-- Power-on reset and start-up (R167): every block's values for power-on reset, the image judged and its tables or the
factory defaults loaded, the node records, the frame timer, and the ESTOP line. The command queue and the model's counter
stand (log 17). -/
def State.powerOn (s : State) (estop : Bool) (held : PerPort Bool) : State :=
  let image := s.imageAtReset
  let u := startUp image
  let t : State := { State.reset with
    pending := s.pending
    freeCount := s.freeCount
    shaper := { State.reset.shaper with frameDue := u.1.global.framePeriod }
    nodes := Table.build fun n => NodeRecord.fresh (u.1.nodes.get n)
    unit := ⟨u.2.1, none, none, u.2.2⟩
    config := u.1
    image := image
    ports := ⟨LinkPort.reset held.a, LinkPort.reset held.b, LinkPort.reset held.c⟩ }
  if estop then t.assertEstop else t

/-! ## Show reset (R168) -/

/-- A port's notices and its lost-notice flag cleared (R168, 10 R176). -/
def LinkPort.clearNotices (lp : LinkPort) : LinkPort := { lp with notices := [], lost := false }

/-- Every notice queue emptied and every lost-notice flag cleared. -/
def State.clearNotices (s : State) : State :=
  { s with ports := ⟨s.ports.a.clearNotices, s.ports.b.clearNotices, s.ports.c.clearNotices⟩ }

/-- A show reset: the blocks in the order of R168. -/
def State.showReset (s : State) : State :=
  let s1 := s.tracksShowReset.rangeShowReset.directoryShowReset
  let s2 := ((s1.setClock ClockUnit.reset).setFreeze .none).clearNotices
  if s2.unit.mode = .live then s2.goDark 4 else s2

/-- SHOW_RESET (R168). -/
def showResetAction (p : Port) (s : State) : State × Answer :=
  if (s.rights p).safety then (s.showReset, .ok) else (s, .refuse .noRight)

/-! ## The commands -/

/-- CONFIG_WRITE (R159). -/
def execConfigWrite (p : Port) (tag table index : U8) (entry : List Byte) (s : State) :
    Host.Outcome State Fault Refusal :=
  .next (s.request p 0x60 tag (settled (configWriteAction p table index entry)))

/-- CONFIG_READ (R160). -/
def execConfigRead (p : Port) (tag table index : U8) (s : State) : Host.Outcome State Fault Refusal :=
  .next (s.request p 0x61 tag (configReadAction table index))

/-- CONFIG_SAVE (R166). -/
def execConfigSave (p : Port) (tag : U8) (s : State) : Host.Outcome State Fault Refusal :=
  .next (s.configSave p tag)

/-- SAVE_END (R166). -/
def execSaveEnd (written : Bool) (s : State) : Host.Outcome State Fault Refusal := .next (s.saveEnd written)

/-- MODE (R162). -/
def execMode (p : Port) (tag target : U8) (s : State) : Host.Outcome State Fault Refusal :=
  .next (s.request p 0x63 tag (settled (modeAction p target)))

/-- IDLE_TIMER_EXPIRY (R165). -/
def execIdleTimerExpiry (s : State) : Host.Outcome State Fault Refusal := .next s.idleExpiry

/-- SHOW_RESET (R168). -/
def execShowReset (p : Port) (tag : U8) (s : State) : Host.Outcome State Fault Refusal :=
  .next (s.request p 0x64 tag (settled (showResetAction p)))

/-- SHOW_RESET_LINE (R168). -/
def execShowResetLine (s : State) : Host.Outcome State Fault Refusal := .next (settleIdle s s.showReset)

/-- POWER_ON_RESET (R167). -/
def execPowerOnReset (estop : Bool) (held : PerPort Bool) (s : State) : Host.Outcome State Fault Refusal :=
  .next (s.powerOn estop held)

end Sys2Proof.Machine
end

