-- ==== Sys2Proof/Machine/Dispatch.lean ====
section
/-!
DEFINITION. The dispatch of every command to its meaning.
-/

namespace Sys2Proof.Machine

/-- The effect of a command on everything but the queue. -/
def exec (i : Instr) (s : State) : Host.Outcome State Fault Refusal :=
  match i with
  | .claim p tag ch pr wait => Sys2Proof.Machine.execClaim p tag ch pr wait s
  | .release p tag ch => Sys2Proof.Machine.execRelease p tag ch s
  | .set p tag ch v => Sys2Proof.Machine.execSet p tag ch v s
  | .watch p tag ch => Sys2Proof.Machine.execWatch p tag ch s
  | .unwatch p tag ch => Sys2Proof.Machine.execUnwatch p tag ch s
  | .inquire p tag ch => Sys2Proof.Machine.execInquire p tag ch s
  | .range p tag op first count pr v => Sys2Proof.Machine.execRange p tag op first count pr v s
  | .rangeStop p tag => Sys2Proof.Machine.execRangeStop p tag s
  | .rangeStatus p tag => Sys2Proof.Machine.execRangeStatus p tag s
  | .rclaimStep => Sys2Proof.Machine.execRclaimStep s
  | .rreleaseStep => Sys2Proof.Machine.execRreleaseStep s
  | .rsetStep => Sys2Proof.Machine.execRsetStep s
  | .rwatchStep => Sys2Proof.Machine.execRwatchStep s
  | .runwatchStep => Sys2Proof.Machine.execRunwatchStep s
  | .cueLoad p tag start count records => Sys2Proof.Machine.execCueLoad p tag start count records s
  | .cueRead p tag start count => Sys2Proof.Machine.execCueRead p tag start count s
  | .trackArm p tag track cue => Sys2Proof.Machine.execTrackArm p tag track cue s
  | .trackStart p tag track => Sys2Proof.Machine.execTrackStart p tag track s
  | .trackPause p tag track => Sys2Proof.Machine.execTrackPause p tag track s
  | .trackResume p tag track => Sys2Proof.Machine.execTrackResume p tag track s
  | .trackStop p tag track => Sys2Proof.Machine.execTrackStop p tag track s
  | .trackStatus p tag track => Sys2Proof.Machine.execTrackStatus p tag track s
  | .dueEvent track => Sys2Proof.Machine.execDueEvent track s
  | .clockRun p tag source start => Sys2Proof.Machine.execClockRun p tag source start s
  | .clockStop p tag => Sys2Proof.Machine.execClockStop p tag s
  | .clockStatus p tag => Sys2Proof.Machine.execClockStatus p tag s
  | .audioBlock p tag start count marker offset reserved frames => Sys2Proof.Machine.execAudioBlock p tag start count marker offset reserved frames s
  | .clockTick => Sys2Proof.Machine.execClockTick s
  | .audioFrame => Sys2Proof.Machine.execAudioFrame s
  | .coastTick => Sys2Proof.Machine.execCoastTick s
  | .frameEvent => Sys2Proof.Machine.execFrameEvent s
  | .ack body => Sys2Proof.Machine.execAck body s
  | .busy => Sys2Proof.Machine.execBusy s
  | .ident nodeType => Sys2Proof.Machine.execIdent nodeType s
  | .badCheckReply => Sys2Proof.Machine.execBadCheckReply s
  | .replyWindowExpiry => Sys2Proof.Machine.execReplyWindowExpiry s
  | .strayReply => Sys2Proof.Machine.execStrayReply s
  | .holdTimerExpiry => Sys2Proof.Machine.execHoldTimerExpiry s
  | .recallExpiry ch => Sys2Proof.Machine.execRecallExpiry ch s
  | .jetStatus p tag jet => Sys2Proof.Machine.execJetStatus p tag jet s
  | .headerStatus p tag header => Sys2Proof.Machine.execHeaderStatus p tag header s
  | .fixtureStatus p tag fixture => Sys2Proof.Machine.execFixtureStatus p tag fixture s
  | .nodeStatus p tag node => Sys2Proof.Machine.execNodeStatus p tag node s
  | .safetyStop p tag => Sys2Proof.Machine.execSafetyStop p tag s
  | .safetyAck p tag => Sys2Proof.Machine.execSafetyAck p tag s
  | .estopAsserted => Sys2Proof.Machine.execEstopAsserted s
  | .estopReleased => Sys2Proof.Machine.execEstopReleased s
  | .intrusionEdge => Sys2Proof.Machine.execIntrusionEdge s
  | .freeze p tag => Sys2Proof.Machine.execFreeze p tag s
  | .thaw p tag => Sys2Proof.Machine.execThaw p tag s
  | .safetyStatus p tag => Sys2Proof.Machine.execSafetyStatus p tag s
  | .configWrite p tag table index entry => Sys2Proof.Machine.execConfigWrite p tag table index entry s
  | .configRead p tag table index => Sys2Proof.Machine.execConfigRead p tag table index s
  | .configSave p tag => Sys2Proof.Machine.execConfigSave p tag s
  | .saveEnd written => Sys2Proof.Machine.execSaveEnd written s
  | .mode p tag target => Sys2Proof.Machine.execMode p tag target s
  | .idleTimerExpiry => Sys2Proof.Machine.execIdleTimerExpiry s
  | .showReset p tag => Sys2Proof.Machine.execShowReset p tag s
  | .showResetLine => Sys2Proof.Machine.execShowResetLine s
  | .powerOnReset estopAsserted linkHeld => Sys2Proof.Machine.execPowerOnReset estopAsserted linkHeld s
  | .linkReset p => Sys2Proof.Machine.execLinkReset p s
  | .errorDetail p tag => Sys2Proof.Machine.execErrorDetail p tag s
  | .noticeRead p tag => Sys2Proof.Machine.execNoticeRead p tag s
  | .identify p tag => Sys2Proof.Machine.execIdentify p tag s
  | .showStatus p tag => Sys2Proof.Machine.execShowStatus p tag s
  | .badFrame p bytes => Sys2Proof.Machine.execBadFrame p bytes s
  | .responseCollect p clocked => Sys2Proof.Machine.execResponseCollect p clocked s
  | .linkResetReleased p => Sys2Proof.Machine.execLinkResetReleased p s

end Sys2Proof.Machine
end

