-- ==== Sys2Proof/Machine/Ticks.lean ====
section
/-!
DEFINITION. What the part's own timers owe when no command waits: the deadlines the timebase or the show clock has reached,
and, with none owed, the passing of one millisecond with the actions that fall at each millisecond (log 2).
-/

namespace Sys2Proof.Machine

/-- Whether an entry's recall deadline has been reached (01 R19). -/
def State.recallOwed (s : State) (ch : Fin 177) : Bool :=
  match (s.entry ch).hold with
  | .recalling _ _ deadline => decide (deadline ≤ s.now)
  | .free => false
  | .held _ _ => false
  | .safed => false

/-- Whether a deadline has been reached. -/
def State.reached (s : State) (deadline : Option Nat) : Bool :=
  match deadline with
  | some d => decide (d ≤ s.now)
  | none => false

/-- The first event owed: a due event in ascending track number (03 R57), a recall expiry in ascending channel (01 R19), the
hold timer's expiry (08 R137), the idle timer's (09 R165), or the frame timer's (05 R86). -/
def State.owed (s : State) : Option Instr :=
  match (Table.indices 4).find? fun t => (s.dueNow t).isSome with
  | some t => some (.dueEvent t)
  | none =>
    match (Table.indices 177).find? s.recallOwed with
    | some ch => some (.recallExpiry ch)
    | none =>
      if s.reached s.safety.holdDeadline then some .holdTimerExpiry
      else if s.reached s.unit.idleDeadline then some .idleTimerExpiry
      else if s.shaper.frameDue ≤ s.now then some .frameEvent
      else none

/-- The step command of a range op (02 R32). -/
def stepOf : RangeOp → Instr
  | .claim _ => .rclaimStep
  | .release => .rreleaseStep
  | .set _ => .rsetStep
  | .watch => .rwatchStep
  | .unwatch => .runwatchStep

/-- The advance of the show clock that falls at each millisecond (04 R72, R80). -/
def ClockUnit.tick (c : ClockUnit) : List Instr :=
  match c.run, c.source with
  | .running, .internal => [.clockTick]
  | .running, .audio => if c.coasting then [.coastTick] else []
  | _, _ => []

/-- The actions that fall at each millisecond: the clock's advance and the step of an active range operation. -/
def State.ticks (s : State) : List Instr :=
  s.clock.tick ++ (match s.range.active with | some r => [stepOf r.op] | none => [])

/-- On an empty queue the first event owed is queued; with none owed one millisecond passes and its actions are queued
(log 2). -/
def State.passTime (s : State) : State :=
  match s.owed with
  | some c => { s with pending := [c] }
  | none => { s with now := s.now + 1, pending := s.ticks }

end Sys2Proof.Machine
end

