-- ==== Sys2Proof/Safety.lean ====
section
/-!
DEFINITION. What counts as a sound state, in the terms the claims use: the standing properties the spec gives the machine,
each over one part of State.
-/

namespace Sys2Proof.Machine

/-! ## The Channel Directory (01) -/

/-- A staged slot is empty whenever its channel is FREE or SAFED (01 R3). -/
def State.SlotsSound (s : State) : Prop :=
  ∀ ch : Fin 177, (s.entry ch).hold.holder = none → (s.entry ch).slot = none

/-- The wait queue holds at most 16 entries, never two with the same port and channel, never one naming the channel's current
holder, and never one naming a channel that no port holds (01 R5). -/
def State.WaitersSound (s : State) : Prop :=
  s.directory.waiters.length ≤ 16
    ∧ s.directory.waiters.Pairwise (fun x y => ¬(x.port = y.port ∧ x.channel = y.channel))
    ∧ ∀ w ∈ s.directory.waiters,
      (s.entry w.channel).hold.holder ≠ none ∧ (s.entry w.channel).hold.holder ≠ some w.port

/-- The recall deadline of an entry, present in RECALLING only (01 R1). -/
def Hold.deadline : Hold → Option Nat
  | .free => none
  | .held _ _ => none
  | .recalling _ _ d => some d
  | .safed => none

/-- A recall is owed for an entry (01 R6). -/
def Hold.owed (above : Nat → Bool) : Hold → Prop
  | .free => True
  | .held _ q => above q = false
  | .recalling _ q _ => above q = true
  | .safed => True

/-- Each entry is in RECALLING exactly while a recall is owed (01 R6). -/
def State.RecallsSound (s : State) : Prop := ∀ ch : Fin 177, (s.entry ch).hold.owed (s.waiterAbove ch)

/-! ## The cue store and the tracks (03) -/

/-- The cue store's bytes are in their canonical form and every record is valid (03 R43, R46, R48). -/
def State.StoreSound (s : State) : Prop :=
  Memory.wf s.cues = true ∧ ∀ index : Fin 2048, CueRecord.fault (Memory.record s.cues index.val) = none

/-- The show clock value at which the due event of a RUNNING track falls due (03 R57, log 4). -/
def Phase.dueAt : Phase → Option Nat
  | .armed => none
  | .running _ at_ => some at_
  | .waiting _ => none
  | .paused _ => none
  | .faulted _ => none

/-- A track that is not IDLE: at most 6 frames, and a cue index within its owner's window (03 R51). -/
def State.trackSound (s : State) : Track → Prop
  | none => True
  | some b => b.stack.length ≤ 6 ∧ (s.rights b.owner).inWindow b.cue = true

/-- Every track is sound, and in SETUP every track is IDLE (03 R51, R65). -/
def State.TracksSound (s : State) : Prop :=
  (∀ t : Fin 4, s.trackSound (s.track t)) ∧ (s.unit.mode = .setup → ∀ t : Fin 4, s.track t = none)

/-! ## The show clock and the block queue (04) -/

/-- A queued block: not empty, within the positions there are, its marker at one of its frames (04 R73, R74). -/
def Block.Sound (b : Block) : Prop :=
  b.frames ≠ [] ∧ b.stop ≤ Config.lastPosition ∧ ∀ m ∈ b.marker.toList, b.start ≤ m.position ∧ m.position < b.stop

/-- The block queue holds at most 48 blocks in strictly increasing start order, no two overlapping, each ending after the
play position (04 R73). -/
def ClockUnit.QueueSound (c : ClockUnit) : Prop :=
  c.queue.length ≤ 48 ∧ c.queue.Pairwise (fun x y => x.stop ≤ y.start)
    ∧ ∀ b ∈ c.queue, b.Sound ∧ c.position < b.stop

/-- The clock with the audio source: the value is the play position in milliseconds, and a running one has not reached the
last position (04 R69, R72, R79). -/
def ClockUnit.AudioSound (c : ClockUnit) : Prop :=
  c.position ≤ Config.lastPosition
    ∧ (c.source = .audio → c.value = c.position / 48 ∧ (c.run = .running → c.position < Config.lastPosition))

/-- The block queue and the clock are sound. -/
def State.ClockSound (s : State) : Prop := s.clock.QueueSound ∧ s.clock.AudioSound

/-- A started clock is STALLED exactly while it has a stall reason, and FREEZE is one exactly while a freeze is in effect
(04 R67). -/
def State.StallsSound (s : State) : Prop :=
  (s.clock.run ≠ .stopped → (s.clock.run = .stalled ↔ s.clock.underrun = true ∨ s.clock.freeze = true))
    ∧ (s.frozen = true ↔ s.clock.freeze = true)

/-- A RUNNING track is never due before its next_due, and while the clock stands still none owes a due event: none is lost
to a stall (03 R57, 04 R72). -/
def State.DueSound (s : State) : Prop :=
  ∀ (t : Fin 4) (b : TrackBody) (due at_ : Nat), s.track t = some b → b.phase = .running due at_ →
    due ≤ at_ ∧ (s.clock.run ≠ .running → s.clock.value < at_)

/-! ## The Safety Supervisor (08) -/

/-- The cause list is empty exactly in NORMAL, the first cause is present exactly outside it, no cause stands twice, and a
pending edge stands beside INTRUSION (08 R135, R142). -/
def Supervisor.CausesSound (r : Supervisor) : Prop :=
  (r.causes = [] ↔ r.state = .normal) ∧ (r.first = none ↔ r.state = .normal) ∧ r.causes.Nodup
    ∧ (r.intrusionPending = true → Cause.intrusion ∈ r.causes)

/-- The jet and fixture channels are SAFED exactly outside NORMAL, and AUD never is (08 R145, R148, 01 R25, R26). -/
def State.SafedSound (s : State) : Prop :=
  ∀ ch : Fin 177, (s.entry ch).hold = .safed ↔ ch.val < 176 ∧ s.safety.state ≠ .normal

/-! ## Rest (05 R103, 08 R146, 09 R155, R165) -/

/-- Every valve output is 0. -/
def State.ValvesClosed (s : State) : Prop := ∀ j : Fin 128, (s.jets.get j).valve = 0

/-- Every pump commanded speed is 0. -/
def State.PumpsStopped (s : State) : Prop := ∀ h : Fin 16, (s.headers.get h).commanded = 0

/-- The outputs-at-rest indication tells the truth, a disabled header's commanded speed is 0, and in SETUP and in STOPPED
every valve output and commanded speed is 0 (05 R91, R103, 08 R146, 09 R155). -/
def State.OutputsSound (s : State) : Prop :=
  (s.shaper.outputsAtRest = true →
      s.ValvesClosed ∧ ∀ h : Fin 16, (s.config.headers.get h).enabled = true → (s.headers.get h).commanded = 0)
    ∧ (∀ h : Fin 16, (s.config.headers.get h).enabled = false → (s.headers.get h).commanded = 0)
    ∧ (s.unit.mode = .setup ∨ s.safety.state = .stopped → s.ValvesClosed ∧ s.PumpsStopped)

/-- Outside LIVE the clock is STOPPED, and while the idle timer is RUNNING the idle condition holds (04 R71, 09 R165). -/
def State.IdleSound (s : State) : Prop :=
  (s.unit.mode ≠ .live → s.clock.run = .stopped)
    ∧ (s.unit.idleDeadline.isSome = true → s.idleCondition = true)

/-- SETUP as 09 R155 gives it for the masters: no channel is held or waited for, no operation of the Range Engine takes
holdings, no track has an owner, the clock is STOPPED, the audio queue is empty, and every fixture output is 0. -/
def State.SetupSound (s : State) : Prop :=
  s.unit.mode = .setup →
    (∀ ch : Fin 177, (s.entry ch).hold.holder = none) ∧ s.directory.waiters = []
      ∧ (∀ r ∈ s.range.active.toList, r.op.needsMode = false) ∧ (∀ t : Fin 4, s.track t = none)
      ∧ s.clock.run = .stopped ∧ s.clock.queue = [] ∧ ∀ f : Fin 48, (s.fixtures.get f).output = Rgbw.black

/-! ## The field link (07) -/

/-- A node's counts lie in their ranges, the skip count is 0 outside BACKOFF, a LOST node's miss count is 3, and a node is
ABSENT exactly when its type is NONE (07 R119, R126, R127, R130). -/
def NodeRecord.Sound (r : NodeRecord) (t : NodeType) : Prop :=
  r.busyCount ≤ 5 ∧ r.missCount ≤ 3 ∧ r.skipCount ≤ 8 ∧ (r.state ≠ .backoff → r.skipCount = 0)
    ∧ (r.state = .lost → r.missCount = 3) ∧ (r.state ≠ .lost → r.missCount < 3) ∧ (r.state = .absent ↔ t = .none)

/-- A node to which a frame of a kind is in flight: ONLINE, SYNCING, or in BACKOFF with skip count 0 for an UPDATE or a
SYNC UPDATE; OFFLINE or LOST for a PROBE (07 R122). -/
def NodeRecord.awaits (r : NodeRecord) (kind : SentKind) : Prop :=
  (kind ≠ .probe → r.state = .online ∨ r.state = .syncing ∨ (r.state = .backoff ∧ r.skipCount = 0))
    ∧ (kind = .probe → r.state = .offline ∨ r.state = .lost)

/-- Every node record is sound, and a transmission whose end counts goes to a configured node in a state that is sent its
frame (07 R119, R122, R124). -/
def State.NodesSound (s : State) : Prop :=
  (∀ n : Fin 32, (s.node n).Sound (s.config.nodes.get n))
    ∧ ∀ r ∈ s.sweep.running.toList, r.tx.counted = true →
      s.config.nodes.get r.tx.node ≠ .none ∧ (s.node r.tx.node).awaits r.tx.kind

/-! ## The configuration (09) -/

/-- Every field of the tables lies in its range, at least one port holds the SAFETY right, outside SETUP the tables
validate, and a save runs in SETUP alone (09 R157, R159, R161, R164, R166). -/
def State.ConfigSound (s : State) : Prop :=
  s.config.inRange = true ∧ s.config.keepsSafety = true
    ∧ (s.unit.mode ≠ .setup → s.config.validate = none)
    ∧ (s.unit.saving.isSome = true → s.unit.mode = .setup)

/-! ## The link ports (10) -/

/-- Every port's notice queue holds at most 32 notices (10 R176). -/
def State.NoticesSound (s : State) : Prop := ∀ p : Port, (s.port p).notices.length ≤ 32

/-! ## Requests and their answers, as the statements name them (10 R169, R170, R173, R174) -/

/-- A channel as the byte a request names it by. -/
def channelByte (ch : Fin 177) : U8 := ⟨ch.val, by omega⟩

/-- A track as the byte a request names it by. -/
def trackByte (t : Fin 4) : U8 := ⟨t.val, by omega⟩

/-- The port takes a request frame: it is READY and its link-reset input is released (10 R169, R178). -/
def State.portReady (s : State) (p : Port) : Prop := (s.port p).state = .ready ∧ (s.port p).resetHeld = false

/-- The state in which a port answers a request taken: it is ANSWERING with this status and body, its error detail is none,
and everything else stands (10 R169, R174). -/
def State.answered (s : State) (p : Port) (kind : Nat) (tag : U8) (st : Status) (body : Body) : State :=
  s.setPort p { s.port p with state := .answering kind tag.val ⟨st, body⟩, error := none }

/-- The state in which a port answers OK with no items. -/
def State.ok (s : State) (p : Port) (kind : Nat) (tag : U8) : State := s.answered p kind tag .ok .empty

/-- The state in which a port refuses a request: it is ANSWERING with the status, its error detail is the record of the
refusal, and everything else stands (10 R169, R174). -/
def State.refusal (s : State) (p : Port) (kind : Nat) (tag : U8) (st : Status) (field index residual : Nat) : State :=
  s.setPort p { s.port p with
    state := .answering kind tag.val ⟨st, .empty⟩
    error := some ⟨st, kind, field, index, residual⟩ }

/-- A refusal with nothing in its error detail but the status and the kind. -/
def State.refused (s : State) (p : Port) (kind : Nat) (tag : U8) (st : Status) : State := s.refusal p kind tag st 0 0 0

/-- A waiter of a channel stands above a priority. -/
def State.outranked (s : State) (ch : Fin 177) (q : Nat) : Prop :=
  ∃ w ∈ s.directory.waiters, w.channel = ch ∧ q < w.priority

/-- A port has an entry in the wait queue for a channel. -/
def State.waitsFor (s : State) (p : Port) (ch : Fin 177) : Prop :=
  ∃ w ∈ s.directory.waiters, w.port = p ∧ w.channel = ch

/-- An entry of the wait queue that wins its channel: every other entry for the channel has a lower priority, or the same and
a later arrival (01 R6). -/
def State.wins (s : State) (w : WaitEntry) : Prop :=
  w ∈ s.directory.waiters ∧ ∀ x ∈ s.directory.waiters, x.channel = w.channel →
    x = w ∨ x.priority < w.priority ∨ (x.priority = w.priority ∧ w.arrival < x.arrival)

/-- A channel freed by a transfer with no waiter (01 R15). -/
def State.freed (s : State) (ch : Fin 177) : State :=
  (s.setEntry ch { s.entry ch with hold := .free, slot := none }).postTo (s.entry ch).watchers .holderChanged ch 0

/-- A channel passed to a winner by a transfer (01 R15). -/
def State.passedTo (s : State) (ch : Fin 177) (w : WaitEntry) : State :=
  (((s.setEntry ch { s.entry ch with hold := .held w.port w.priority, slot := none }).setWaiters
      (s.directory.waiters.filter fun x => !(x.port == w.port && x.channel == ch))).post
    w.port .granted ch w.priority).postTo (s.entry ch).watchers .holderChanged ch (holderDetail w.port)

/-- The range record after one step: it counts the step, and the operation ends COMPLETE when no channel is left
(02 R32, R37). -/
def State.rangeStepped (s : State) (r : RangeRecord) (acted : Bool) : State :=
  let done := if acted then r.done + 1 else r.done
  let skipped := if acted then r.skipped else r.skipped + 1
  let first := if acted then r.firstSkipped else some (r.firstSkipped.getD (r.first + r.done + r.skipped))
  let r' : RangeRecord := { r with done := done, skipped := skipped, firstSkipped := first }
  if r.count - done - skipped = 0 then
    State.post { s with range := ⟨none, some ⟨r.issuer, r.op, r.first, r.count, done, skipped, first, 0, .complete⟩⟩ }
      r.issuer .rangeDone r.first 0 (.range done skipped first 0)
  else { s with range := ⟨some r', s.range.last⟩ }

/-- A track that faults: FAULTED with the reason, no pause reason, owner, cue index and stack kept, and TRACK_STATE with the
reason's detail to the owner (03 R51, R52, R62). -/
def State.trackFaulted (s : State) (t : Fin 4) (b : TrackBody) (reason : TrackFault) (detail : Nat) : State :=
  (s.setTrack t (some ⟨b.owner, b.cue, b.stack, ⟨false, false, false⟩, .faulted reason⟩)).post b.owner .trackState t detail

/-- A track that goes on at a record, due its delta after the due time just reached (03 R57). -/
def State.trackGoesOn (s : State) (t : Fin 4) (b : TrackBody) (due cue : Nat) (stack : List StackFrame) : State :=
  s.setTrack t (some ⟨b.owner, cue, stack, b.reasons, s.runningAt (due + CueRecord.delta (Memory.record s.cues cue))⟩)

/-- A track at the next record of the same due event, the due time reached kept (03 R57). -/
def State.takesAlong (s : State) (t : Fin 4) (b : TrackBody) (cue : Nat) (stack : List StackFrame) : State :=
  s.setTrack t (some ⟨b.owner, cue, stack, b.reasons, b.phase⟩)

/-- The jets of a run from `first` on that a port holds, or that it does not hold (03 R58). -/
def State.runOf (s : State) (p : Port) (first count : Nat) (held : Bool) : List (Fin 128) :=
  (Table.indices 128).filter fun j =>
    decide (first ≤ j.val ∧ j.val < first + count ∧ ((s.entry (jetChannel j)).hold.holder = some p ↔ held = true))

/-- A height staged on every jet of a run that a port holds, brought within the jet's h_max (03 R58, 01 R22). -/
def State.stagedRun (s : State) (p : Port) (first count height : Nat) : State :=
  (s.runOf p first count true).foldl
    (fun u j => u.setSlot (jetChannel j) (some (.height (min height (s.config.jets.get j).hMax)))) s

/-- The state after a record that skipped some channels: one CUE_SKIPPED with their number, where there is any (03 R58). -/
def State.tellSkipped (s : State) (t : Fin 4) (b : TrackBody) (skipped : Nat) : State :=
  if skipped = 0 then s else s.post b.owner .cueSkipped t skipped (.cue b.cue)

/-- A record at which a track's due event ends with the track RUNNING: it lies in the owner's window and its delta is not 0
(03 R57, R62). -/
def State.pausesAt (s : State) (b : TrackBody) (cue : Nat) : Prop :=
  (s.rights b.owner).base ≤ cue ∧ cue < (s.rights b.owner).base + (s.rights b.owner).length
    ∧ 0 < CueRecord.delta (Memory.record s.cues cue)

/-- The due event of a track takes at most this many records from the one at its cue index on: one of them leaves the track not
RUNNING, or at a record whose delta is not 0 (03 R57). -/
def State.eventEnds : Nat → State → Fin 4 → Prop
  | 0, _, _ => False
  | n + 1, s, t => ∀ b ∈ (s.runningBody t).toList, ∀ c ∈ ((s.takeRecord t b).runningBody t).toList,
      CueRecord.delta (Memory.record s.cues c.cue) = 0 → State.eventEnds n (s.takeRecord t b) t

/-- The block queue brought to a position: blocks that end at or before it leave, and a block across it loses its frames and its
marker before it (04 R70, R80). -/
def queueFrom (queue : List Block) (p : Nat) : List Block :=
  (queue.filter fun b => decide (p < b.start + b.frames.length)).map fun b =>
    if b.start < p then ⟨p, b.marker.filter fun m => decide (p ≤ m.position), b.frames.drop (p - b.start)⟩ else b

/-- The block queue after the play position has moved to a position: a block that ends there leaves (04 R76). -/
def queuePast (queue : List Block) (p : Nat) : List Block :=
  queue.filter fun b => decide (p < b.start + b.frames.length)

/-- A clock set to an audio play position, its queue replaced (04 R69, R72). -/
def ClockUnit.atPosition (c : ClockUnit) (p : Nat) (queue : List Block) : ClockUnit :=
  { c with position := p, value := p / 48, queue := queue }

/-- A clock that has met the range end, or an underrun under STALL: STALLED for UNDERRUN, not coasting (04 R79, R81). -/
def ClockUnit.heldUp (c : ClockUnit) : ClockUnit := { c with run := .stalled, underrun := true, coasting := false }

/-- A clock that has met an underrun under COAST (04 R80). -/
def ClockUnit.goneCoasting (c : ClockUnit) : ClockUnit := { c with coasting := true }

/-- The state at a block boundary, the first frame of the block at the head of the queue: AUD's staged gain is taken up in LIVE
with no freeze in effect (04 R77). -/
def State.atBoundary (s : State) (b : Block) : State :=
  match (s.entry audChannel).slot with
  | some (.gain g) =>
    if b.start = s.clock.position ∧ s.unit.mode = .live ∧ s.frozen = false then
      (s.setSlot audChannel none).setClock { s.clock with gain := g }
    else s
  | _ => s

/-- A sample scaled by a gain of 0 to 256, rounded toward negative infinity (04 R76). -/
def gainOf (x : Sample) (g : Nat) : Int := x.toInt * (g : Int) / 256

/-- The frame of a block at the play position put out, each sample scaled by the active gain (04 R76). -/
def State.putOut (s : State) (b : Block) : State :=
  s.setClock { s.clock with output :=
    ⟨gainOf (b.frames.getD (s.clock.position - b.start) (0, 0)).1 s.clock.gain,
      gainOf (b.frames.getD (s.clock.position - b.start) (0, 0)).2 s.clock.gain⟩ }

/-- The block an AUDIO_BLOCK adds, trimmed to begin at the bound of lateness where it begins before it (04 R75). -/
def arriving (bound start marker offset : Nat) (frames : List (Sample × Sample)) : Block :=
  ⟨max bound start, if marker ≠ 0 ∧ bound ≤ start + offset then some ⟨marker, start + offset⟩ else none,
    frames.drop (bound - start)⟩

/-! ## Cue records, as the statements name their checks (03 R45, R46) -/

/-- The operand bytes that 03 R45 gives as 0 for a kind code. -/
def unusedByte (kind offset : Nat) : Bool :=
  if kind = 0x01 then decide (offset = 5 ∨ 8 ≤ offset)
  else if kind = 0x02 then decide (8 ≤ offset)
  else if kind = 0x03 then decide (offset = 9 ∨ 12 ≤ offset)
  else if kind = 0x04 ∨ kind = 0x13 then decide (offset = 4 ∨ offset = 5 ∨ 8 ≤ offset)
  else if kind = 0x10 then decide (5 ≤ offset)
  else if kind = 0x11 then decide (6 ≤ offset)
  else decide (4 ≤ offset)

/-! ## The frame event, as the statements name its results (05, 06) -/

/-- A value moved toward its goal, rising by at most `up` and falling by at most `down` (05 R97, R101). -/
def movedToward (v goal up down : Nat) : Nat := if v < goal then min goal (v + up) else max goal (v - down)

/-- A component of a colour at step `i` of a fade of `n` frames, rounded toward negative infinity (06 R111). -/
def fadePoint (start target i n : Nat) : Nat :=
  ((start : Int) + ((target : Int) - (start : Int)) * (i : Int) / (n : Int)).toNat

/-- The colour of a fade at step `i` of `n` (06 R111). -/
def fadePointOf (start target : Rgbw) (i n : Nat) : Rgbw :=
  ⟨fadePoint start.red target.red i n, fadePoint start.green target.green i n, fadePoint start.blue target.blue i n,
    fadePoint start.white target.white i n⟩

/-- A port has received a notice, or has lost one for want of room (10 R176). -/
def State.told (s : State) (p : Port) (n : Notice) : Prop := n ∈ (s.port p).notices ∨ (s.port p).lost = true

/-! ## The field link, as the statements name its results (07) -/

/-- The node whose transmission's end the record of a sweep counts, with an UPDATE or a SYNC UPDATE in flight (07 R120, R124). -/
def State.updating (s : State) (n : Fin 32) : Prop :=
  ∃ r ∈ s.sweep.running.toList, r.tx.node = n ∧ r.tx.counted = true ∧ r.tx.kind ≠ .probe

/-- The node whose transmission's end the record of a sweep counts, with a PROBE in flight (07 R120, R124). -/
def State.probed (s : State) (n : Fin 32) : Prop :=
  ∃ r ∈ s.sweep.running.toList, r.tx.node = n ∧ r.tx.counted = true ∧ r.tx.kind = .probe

/-- A sweep passes a node over: it is ABSENT, OFFLINE or LOST outside a probe sweep, or in BACKOFF with a skip count (07 R122). -/
def NodeRecord.passedOver (r : NodeRecord) (probing : Bool) : Prop :=
  r.state = .absent ∨ ((r.state = .offline ∨ r.state = .lost) ∧ probing = false) ∨ (r.state = .backoff ∧ 0 < r.skipCount)

/-- The frame a sweep sends a node it does not pass over (07 R120, R122). -/
def NodeRecord.sent (r : NodeRecord) : SentKind :=
  match r.state with
  | .online => .update
  | .syncing => .syncUpdate
  | .backoff => .syncUpdate
  | .offline => .probe
  | .lost => .probe
  | .absent => .probe

/-- The transmission that begins at a node: a PROBE has no body (07 R120, R123, R124). -/
def State.sending (s : State) (n : Fin 32) (kind : SentKind) : Transmission :=
  ⟨n, kind, if kind = .probe then [] else s.updateBody n, s.config.global.replyWindow, true⟩

/-- A node's record as a sweep leaves it in passing over: one off the skip count in BACKOFF (07 R122). -/
def NodeRecord.skipped (r : NodeRecord) : NodeRecord :=
  if r.state = .backoff then { r with skipCount := r.skipCount - 1 } else r

/-! ## The wind state, as the statements name its evaluation (08 R138) -/

/-- The wind state that an evaluation of a gust value makes of the one before it, by the configuration (08 R138). -/
def windOf (g : Global) (before : Wind) (gust : Nat) : Wind :=
  if before = .windStop then
    if g.wStop < gust + g.wHyst then .windStop else if gust ≤ g.wCalm then .calm else .derate
  else if g.wStop ≤ gust then .windStop
  else if gust ≤ g.wCalm then .calm
  else .derate

/-- The notice of a wind state entered (08 R136, R138). -/
def windNotice (w : Wind) (value : Nat) : Notice :=
  ⟨.safetyState, 255, if w = .calm then 10 else if w = .derate then 11 else 12, value, .none⟩

/-! ## The validation of the tables (09 R161) -/

/-- The requirement of a check of 09 R161 by its number. -/
def Tables.requires (t : Tables) : Nat → Prop
  | 1 => ∀ j : Fin 128, (t.jets.get j).enabled = true → (t.headers.get (t.jets.get j).header).enabled = true
  | 2 => ∀ j : Fin 128, (t.jets.get j).enabled = true → t.nodes.get (t.jets.get j).node = .valve8
  | 3 => ∀ i j : Fin 128, i ≠ j → (t.jets.get i).enabled = true → (t.jets.get j).enabled = true →
      ¬ ((t.jets.get i).node = (t.jets.get j).node ∧ (t.jets.get i).slot = (t.jets.get j).slot)
  | 4 => ∀ j : Fin 128, (t.jets.get j).enabled = true →
      (∀ k : Fin 8, (t.jets.get j).openings.get k.castSucc ≤ (t.jets.get j).openings.get k.succ
        ∧ (t.jets.get j).flows.get k.castSucc ≤ (t.jets.get j).flows.get k.succ)
      ∧ (t.jets.get j).openings.get 0 = 0 ∧ (t.jets.get j).flows.get 0 = 0 ∧ 1 ≤ (t.jets.get j).openings.get 8
  | 5 => ∀ h : Fin 16, (t.headers.get h).enabled = true → t.nodes.get (t.headers.get h).driveNode = .drive
  | 6 => ∀ f : Fin 48, (t.fixtures.get f).enabled = true → t.nodes.get (t.fixtures.get f).node = .lamp4
  | 7 => ∀ i j : Fin 48, i ≠ j → (t.fixtures.get i).enabled = true → (t.fixtures.get j).enabled = true →
      ¬ ((t.fixtures.get i).node = (t.fixtures.get j).node ∧ (t.fixtures.get i).slot = (t.fixtures.get j).slot)
  | 8 => ∀ f : Fin 48, (t.fixtures.get f).enabled = true →
      ∀ j ∈ (t.fixtures.get f).followJet.toList, (t.jets.get j).enabled = true
  | 9 => ∃ n : Fin 32, t.nodes.get n = .sense ∧ ∀ m : Fin 32, t.nodes.get m = .sense → m = n
  | 10 => ∀ p q : Port, p ≠ q → 0 < (t.rights.get p).length → 0 < (t.rights.get q).length →
      (t.rights.get p).base + (t.rights.get p).length ≤ (t.rights.get q).base
        ∨ (t.rights.get q).base + (t.rights.get q).length ≤ (t.rights.get p).base
  | _ => True

/-- The index that a check of 09 R161 reports, by its number: the lowest index at which it fails; for a clash of two entries the
higher index of the first pair, taken by its lower index and then its higher (log 31); for check 9 the second SENSE node, or 0
when there is none. -/
def Tables.reports (t : Tables) (check index : Nat) : Prop :=
  let clashes (n : Nat) (clash : Fin n → Fin n → Prop) :=
    ∃ i j : Fin n, i < j ∧ j.val = index ∧ clash i j ∧ (∀ k, i < k → k < j → ¬ clash i k)
      ∧ ∀ h k, h < i → h < k → ¬ clash h k
  let lowest (n : Nat) (ok : Fin n → Prop) := ∃ i : Fin n, i.val = index ∧ ¬ ok i ∧ ∀ k, k < i → ok k
  match check with
  | 1 => lowest 128 fun j => (t.jets.get j).enabled = true → (t.headers.get (t.jets.get j).header).enabled = true
  | 2 => lowest 128 fun j => (t.jets.get j).enabled = true → t.nodes.get (t.jets.get j).node = .valve8
  | 3 => clashes 128 fun i j => (t.jets.get i).enabled = true ∧ (t.jets.get j).enabled = true
      ∧ (t.jets.get i).node = (t.jets.get j).node ∧ (t.jets.get i).slot = (t.jets.get j).slot
  | 4 => lowest 128 fun j => (t.jets.get j).enabled = true →
      (∀ k : Fin 8, (t.jets.get j).openings.get k.castSucc ≤ (t.jets.get j).openings.get k.succ
        ∧ (t.jets.get j).flows.get k.castSucc ≤ (t.jets.get j).flows.get k.succ)
      ∧ (t.jets.get j).openings.get 0 = 0 ∧ (t.jets.get j).flows.get 0 = 0 ∧ 1 ≤ (t.jets.get j).openings.get 8
  | 5 => lowest 16 fun h => (t.headers.get h).enabled = true → t.nodes.get (t.headers.get h).driveNode = .drive
  | 6 => lowest 48 fun f => (t.fixtures.get f).enabled = true → t.nodes.get (t.fixtures.get f).node = .lamp4
  | 7 => clashes 48 fun i j => (t.fixtures.get i).enabled = true ∧ (t.fixtures.get j).enabled = true
      ∧ (t.fixtures.get i).node = (t.fixtures.get j).node ∧ (t.fixtures.get i).slot = (t.fixtures.get j).slot
  | 8 => lowest 48 fun f => (t.fixtures.get f).enabled = true →
      ∀ j ∈ (t.fixtures.get f).followJet.toList, (t.jets.get j).enabled = true
  | 9 => (index = 0 ∧ ∀ n : Fin 32, t.nodes.get n ≠ .sense)
      ∨ ∃ n m : Fin 32, n < m ∧ m.val = index ∧ t.nodes.get n = .sense ∧ t.nodes.get m = .sense
        ∧ ∀ k, k < m → k ≠ n → t.nodes.get k ≠ .sense
  | 10 => clashes 3 fun i j =>
      let x := t.rights.get (portOfIndex i)
      let y := t.rights.get (portOfIndex j)
      0 < x.length ∧ 0 < y.length ∧ x.base < y.base + y.length ∧ y.base < x.base + x.length
  | _ => False

/-- The body lengths of the table of 10 R172 that depend on no field of the body; absent for CUE_LOAD, AUDIO_BLOCK and CONFIG_WRITE
and for a kind the table does not list. -/
def fixedLength (kind : Nat) : Option Nat :=
  if kind ∈ [0x11, 0x12, 0x31, 0x33, 0x50, 0x51, 0x52, 0x53, 0x54, 0x62, 0x64, 0x70, 0x71, 0x72, 0x73] then some 0
  else if kind ∈ [0x02, 0x04, 0x05, 0x06, 0x23, 0x24, 0x25, 0x26, 0x27, 0x40, 0x41, 0x42, 0x43, 0x63] then some 1
  else if kind = 0x61 then some 2
  else if kind ∈ [0x01, 0x21, 0x22] then some 3
  else if kind = 0x30 then some 5
  else if kind = 0x03 then some 7
  else if kind = 0x10 then some 10
  else none

/-- A body passes checks 3 and 4 of 10 R171 under a kind: the table of 10 R172 lists the kind, and the body has the length it
gives, worked out from the count for CUE_LOAD and AUDIO_BLOCK and from the table code for CONFIG_WRITE, of which a table code
outside 1 to 6 passes. -/
def bodyPasses (kind : Nat) (body : List Byte) : Prop :=
  fixedLength kind = some body.length
  ∨ (kind = 0x20 ∧ ∃ count ∈ body[2]?.toList, count.toNat ≤ 16
    ∧ body.length = 3 + 16 * (if count.toNat = 0 then 16 else count.toNat))
  ∨ (kind = 0x32 ∧ ∃ count ∈ body[4]?.toList,
    body.length = 16 + 4 * (if count.toNat = 0 then 256 else count.toNat))
  ∨ (kind = 0x60 ∧ ∃ table ∈ body[0]?.toList,
    (table.toNat = 0 ∨ 6 < table.toNat)
    ∨ body.length = 2 + (if table.toNat = 1 then 6 else if table.toNat = 2 then 47 else if table.toNat = 3 then 8
      else if table.toNat = 4 then 4 else if table.toNat = 5 then 1 else 17))

/-- The code of the table a check of 09 R161 reports its entry under. -/
def checkedTable (check : Nat) : Nat :=
  if check ≤ 4 then 2 else if check = 5 then 3 else if check ≤ 8 then 4 else if check = 9 then 5 else 1

end Sys2Proof.Machine
end

