-- ==== Sys2Proof/WellFormed.lean ====
section
/-!
DEFINITION. Which commands can be sent: a request is well formed when its operands fill the body its kind has
(10 R171, R172), and a BAD_FRAME is one whose bytes the checks of R171 refuse.
-/

namespace Sys2Proof

/-- CUE_LOAD carries as many records as its count says, at most 16 (03 R48, 10 R172). -/
def cueLoadWellFormed (count : U8) (records : List CueRecord) : Bool :=
  cueLoadFits count (16 * records.length)

/-- AUDIO_BLOCK carries nine reserved bytes and as many frames as its count says (04 R74). -/
def audioBlockWellFormed (count : U8) (reserved : List Byte) (frames : List (Sample × Sample)) : Bool :=
  reserved.length == 9 && frames.length == resolveCount 256 count

/-- CONFIG_WRITE carries an entry of its table's length; an entry under a code outside 1 to 6 has any length a body can
have (10 R171, R172). -/
def configWriteWellFormed (table : U8) (entry : List Byte) : Bool :=
  configWriteFits table entry.length && entry.length ≤ maxBody - 2

/-- BAD_FRAME carries a selection that forms a frame (its first byte is not 0) and fails checks 1 to 4 of 10 R171. -/
def badFrameWellFormed (p : Port) (bytes : List Byte) : Bool :=
  match bytes with
  | [] => false
  | b :: _ =>
    b != 0 &&
      match checkFrame p bytes with
      | .ok _ => false
      | .error _ => true

/-- Whether a command can be sent as its row says. -/
def Instr.wellFormed : Instr → Bool
  | .claim .. => true
  | .release .. => true
  | .set .. => true
  | .watch .. => true
  | .unwatch .. => true
  | .inquire .. => true
  | .range .. => true
  | .rangeStop .. => true
  | .rangeStatus .. => true
  | .rclaimStep => true
  | .rreleaseStep => true
  | .rsetStep => true
  | .rwatchStep => true
  | .runwatchStep => true
  | .cueLoad _ _ _ count records => cueLoadWellFormed count records
  | .cueRead .. => true
  | .trackArm .. => true
  | .trackStart .. => true
  | .trackPause .. => true
  | .trackResume .. => true
  | .trackStop .. => true
  | .trackStatus .. => true
  | .dueEvent _ => true
  | .clockRun .. => true
  | .clockStop .. => true
  | .clockStatus .. => true
  | .audioBlock _ _ _ count _ _ reserved frames => audioBlockWellFormed count reserved frames
  | .clockTick => true
  | .audioFrame => true
  | .coastTick => true
  | .frameEvent => true
  | .ack _ => true
  | .busy => true
  | .ident _ => true
  | .badCheckReply => true
  | .replyWindowExpiry => true
  | .strayReply => true
  | .holdTimerExpiry => true
  | .recallExpiry _ => true
  | .jetStatus .. => true
  | .headerStatus .. => true
  | .fixtureStatus .. => true
  | .nodeStatus .. => true
  | .safetyStop .. => true
  | .safetyAck .. => true
  | .estopAsserted => true
  | .estopReleased => true
  | .intrusionEdge => true
  | .freeze .. => true
  | .thaw .. => true
  | .safetyStatus .. => true
  | .configWrite _ _ table _ entry => configWriteWellFormed table entry
  | .configRead .. => true
  | .configSave .. => true
  | .saveEnd _ => true
  | .mode .. => true
  | .idleTimerExpiry => true
  | .showReset .. => true
  | .showResetLine => true
  | .powerOnReset .. => true
  | .linkReset _ => true
  | .errorDetail .. => true
  | .noticeRead .. => true
  | .identify .. => true
  | .showStatus .. => true
  | .badFrame p bytes => badFrameWellFormed p bytes
  | .responseCollect .. => true
  | .linkResetReleased _ => true

end Sys2Proof
end

