-- ==== Sys2Proof/Certificates/Slice0/Obligations.lean ====
section
/-!
DEFINITION. The statements for the provers. Each says what a command of the FS-620 does, what it leaves, or what every step
keeps; the docstring names the rules of spec/ it rests on.
-/

open Sys2Proof Sys2Proof.Machine

/-! ## The machine -/

/-- A step executes the command at the front of the queue with the queue's rest. The queue, first in first out, is the model's own
(log 1). -/
def Obligations.StepRunsFrontCommand : Prop :=
  ∀ (s : State) (c : Instr) (rest : List Instr), s.pending = c :: rest → step s = exec c { s with pending := rest }

/-- Every command completes, and leaves the queue as it stands. The model's choice: that every command completes, the spec naming no
stop of the part (log 27); that there is one queue of whole commands (log 1); and that POWER_ON_RESET leaves it (log 17). -/
def Obligations.CommandsCompleteAndKeepTheQueue : Prop :=
  ∀ (s : State) (c : Instr), ∃ t, exec c s = .next t ∧ t.pending = s.pending

/-- On an empty queue one millisecond passes exactly where no deadline is reached, with the clock's tick and the step of an active
range operation queued for it; with one reached no time passes and the event queued is that of a reached deadline: a due event of a
RUNNING track, a recall expiry, the hold timer's, the idle timer's or the frame timer's expiry. The model's choice (log 2). -/
def Obligations.TimeWaitsForDeadlines : Prop :=
  ∀ (s : State), s.pending = [] →
    (s.owed = none → step s = .next { s with
      now := s.now + 1
      pending := (if s.clock.run = .running ∧ s.clock.source = .internal then [Instr.clockTick] else [])
        ++ (if s.clock.run = .running ∧ s.clock.source = .audio ∧ s.clock.coasting = true then [Instr.coastTick] else [])
        ++ s.range.active.toList.map fun r => if r.op.isClaim then Instr.rclaimStep
          else if r.op = .release then Instr.rreleaseStep else if r.op.isSet then Instr.rsetStep
          else if r.op = .watch then Instr.rwatchStep else Instr.runwatchStep })
    ∧ (s.owed = none ↔ s.now < s.shaper.frameDue
        ∧ (∀ d ∈ s.safety.holdDeadline.toList, s.now < d)
        ∧ (∀ d ∈ s.unit.idleDeadline.toList, s.now < d)
        ∧ (∀ ch : Fin 177, ∀ d ∈ (s.entry ch).hold.deadline.toList, s.now < d)
        ∧ (s.clock.run = .running → ∀ t : Fin 4, ∀ b ∈ (s.track t).toList, ∀ at_ ∈ b.phase.dueAt.toList,
            s.clock.value < at_))
    ∧ (∀ c ∈ s.owed.toList, step s = .next { s with pending := [c] }
        ∧ ((∃ t : Fin 4, c = .dueEvent t ∧ s.clock.run = .running
              ∧ ∃ b ∈ (s.track t).toList, ∃ at_ ∈ b.phase.dueAt.toList, at_ ≤ s.clock.value)
          ∨ (∃ ch : Fin 177, c = .recallExpiry ch ∧ ∃ d ∈ (s.entry ch).hold.deadline.toList, d ≤ s.now)
          ∨ (c = .holdTimerExpiry ∧ ∃ d ∈ s.safety.holdDeadline.toList, d ≤ s.now)
          ∨ (c = .idleTimerExpiry ∧ ∃ d ∈ s.unit.idleDeadline.toList, d ≤ s.now)
          ∨ (c = .frameEvent ∧ s.shaper.frameDue ≤ s.now)))

/-! ## Reset -/

/-- The machine after reset has every standing property of Safety.lean. -/
def Obligations.ResetIsSound : Prop :=
  State.reset.SlotsSound ∧ State.reset.WaitersSound ∧ State.reset.RecallsSound ∧ State.reset.StoreSound
    ∧ State.reset.TracksSound ∧ State.reset.ClockSound ∧ State.reset.safety.CausesSound ∧ State.reset.SafedSound
    ∧ State.reset.OutputsSound ∧ State.reset.IdleSound ∧ State.reset.SetupSound ∧ State.reset.NodesSound
    ∧ State.reset.ConfigSound ∧ State.reset.NoticesSound ∧ State.reset.StallsSound ∧ State.reset.DueSound

/-- POWER_ON_RESET. With the emergency stop line released: every block at its values for power-on reset (01 R28, 02 R41, 03
R65, 04 R84, 05 R90, R91, 06 R108, 07 R133, 08 R153, 10 R169), and the tables, the mode and the start-up outcome by the image,
judged by its format code, its CRC-16, its ranges and its SAFETY rights (09 R166, R167; the format code is a constant of the
part and the image's bytes are laid out by log 18). With the line asserted: the Supervisor is in STOPPING with ESTOP, every
jet and fixture entry is SAFED with nothing in it, and SAFETY_STATE detail 1 is the one notice at each port (01 R28, 08 R141,
R153). The queue and the model's counter stand (log 17). -/
def Obligations.PowerOnReset : Prop :=
  ∀ (s : State) (held : PerPort Bool), (∃ t, exec (.powerOnReset false held) s = .next t
    ∧ (t.now = 0 ∧ t.pending = s.pending ∧ t.freeCount = s.freeCount)
    ∧ (∀ ch : Fin 177, t.entry ch = ⟨.free, ⟨false, false, false⟩, none⟩)
    ∧ (t.directory.waiters = [] ∧ t.directory.arrivals = 1 ∧ t.range = ⟨none, none⟩)
    ∧ (t.cues = [] ∧ ∀ k : Fin 4, t.track k = none)
    ∧ t.clock = { value := 0, run := .stopped, source := .internal, underrun := false, freeze := false, coasting := false
                  position := 0, queue := [], log := [], gain := 256, output := ⟨0, 0⟩ }
    ∧ (∀ j : Fin 128, t.jets.get j = ⟨0, 0, 0, 0, 0, 0, 0, 0⟩)
    ∧ (∀ h : Fin 16, t.headers.get h = ⟨0, 0, 0, 0, 0, 0, 0, .normal⟩)
    ∧ t.shaper = ⟨t.config.global.framePeriod, true, true, true⟩
    ∧ (∀ f : Fin 48, t.fixtures.get f =
        ⟨⟨0, 0, 0, 0⟩, ⟨0, 0, 0, 0⟩, ⟨0, 0, 0, 0⟩, 0, 0, ⟨0, 0, 0, 0⟩, none, .mode⟩)
    ∧ (∀ n : Fin 32, t.node n = ⟨if t.config.nodes.get n = .none then .absent else .offline, 0, 0, 0, none, none⟩)
    ∧ t.sweep = ⟨none, false, false, 0⟩
    ∧ t.safety = { state := .normal, causes := [], first := none, further := false, intrusionPending := false
                   estopAsserted := false, levelLow := false, standing := .unseen, gust := 0, holdDeadline := none
                   wind := .calm, freeze := .none }
    ∧ (∀ p : Port, t.port p = ⟨.ready, none, [], false, held.get p⟩)
    ∧ (t.unit.idleDeadline = none ∧ t.unit.saving = none)
    ∧ (s.unit.saving = none → t.image = s.image)
    ∧ (s.unit.saving ≠ none → t.config = Tables.factory ∧ t.unit.mode = .setup ∧ t.unit.outcome = .bad)
    ∧ (s.unit.saving = none → s.image = .blank →
        t.config = Tables.factory ∧ t.unit.mode = .setup ∧ t.unit.outcome = .blank)
    ∧ (s.unit.saving = none → s.image = .spoiled →
        t.config = Tables.factory ∧ t.unit.mode = .setup ∧ t.unit.outcome = .bad)
    ∧ (∀ (format : Byte) (g : Tables) (crc : BitVec 16), s.unit.saving = none → s.image = .written format g crc →
        (format ≠ Config.formatCode ∨ crc ≠ crc16 (format :: g.bytes) ∨ g.inRange = false ∨ g.keepsSafety = false →
          t.config = Tables.factory ∧ t.unit.mode = .setup ∧ t.unit.outcome = .bad)
        ∧ (format = Config.formatCode → crc = crc16 (format :: g.bytes) → g.inRange = true → g.keepsSafety = true →
          (g.validate = none → t.config = g ∧ t.unit.mode = .dark ∧ t.unit.outcome = .loaded)
          ∧ (g.validate ≠ none → t.config = Tables.factory ∧ t.unit.mode = .setup ∧ t.unit.outcome = .invalid))))
    ∧ (∃ t, exec (.powerOnReset true held) s = .next t
    ∧ t.safety = { state := .stopping, causes := [.estop], first := some .estop, further := false
                   intrusionPending := false, estopAsserted := true, levelLow := false, standing := .unseen, gust := 0
                   holdDeadline := none, wind := .calm, freeze := .none }
    ∧ (∀ ch : Fin 177, t.entry ch = ⟨if ch.val < 176 then .safed else .free, ⟨false, false, false⟩, none⟩)
    ∧ (∀ p : Port, t.port p = ⟨.ready, none, [⟨.safetyState, 255, 1, 0, .none⟩], false, held.get p⟩)
    ∧ (∃ u, exec (.powerOnReset false held) s = .next u
      ∧ t = { u with safety := t.safety, directory := ⟨t.directory.entries, [], 1⟩, ports := t.ports }))

/-! ## The Channel Directory (01) -/

/-- The checks of R8 in order, on CLAIM, RELEASE, SET, WATCH, UNWATCH and INQUIRE, with the field each names (the priority or
the wait flag where a CLAIM fails in both); the three last are taken in every mode. -/
def Obligations.DirectoryChecks : Prop :=
  ∀ (s : State) (p : Port) (tag channel pr w : U8) (v : SetValue), s.portReady p →
    (177 ≤ channel.val →
      exec (.claim p tag channel pr w) s = .next (s.refusal p 0x01 tag .outOfRange 1 0 0)
      ∧ exec (.release p tag channel) s = .next (s.refusal p 0x02 tag .outOfRange 1 0 0)
      ∧ exec (.set p tag channel v) s = .next (s.refusal p 0x03 tag .outOfRange 1 0 0)
      ∧ exec (.watch p tag channel) s = .next (s.refusal p 0x04 tag .outOfRange 1 0 0)
      ∧ exec (.unwatch p tag channel) s = .next (s.refusal p 0x05 tag .outOfRange 1 0 0)
      ∧ exec (.inquire p tag channel) s = .next (s.refusal p 0x06 tag .outOfRange 1 0 0))
    ∧ (channel.val < 177 →
      (3 < pr.val → w.val ≤ 1 → exec (.claim p tag channel pr w) s = .next (s.refusal p 0x01 tag .outOfRange 2 0 0))
      ∧ (3 < pr.val → 1 < w.val → exec (.claim p tag channel pr w) s = .next (s.refusal p 0x01 tag .outOfRange 2 0 0)
        ∨ exec (.claim p tag channel pr w) s = .next (s.refusal p 0x01 tag .outOfRange 3 0 0))
      ∧ (pr.val ≤ 3 → 1 < w.val → exec (.claim p tag channel pr w) s = .next (s.refusal p 0x01 tag .outOfRange 3 0 0))
      ∧ (s.unit.mode = .setup →
        (pr.val ≤ 3 → w.val ≤ 1 → exec (.claim p tag channel pr w) s = .next (s.refused p 0x01 tag .wrongMode))
        ∧ exec (.release p tag channel) s = .next (s.refused p 0x02 tag .wrongMode)
        ∧ exec (.set p tag channel v) s = .next (s.refused p 0x03 tag .wrongMode))
      ∧ (s.unit.mode ≠ .setup → pr.val ≤ 3 → w.val ≤ 1 → (s.rights p).ceiling < pr.val →
        exec (.claim p tag channel pr w) s = .next (s.refusal p 0x01 tag .noRight 2 0 0))
      ∧ (∃ t, exec (.watch p tag channel) s = .next t ∧ (t.port p).error = none)
      ∧ (∃ t, exec (.unwatch p tag channel) s = .next t ∧ (t.port p).error = none)
      ∧ (∃ t, exec (.inquire p tag channel) s = .next t ∧ (t.port p).error = none))

/-- A CLAIM on a FREE channel, and a CLAIM by the channel's own holder in HELD and in RECALLING (R10). -/
def Obligations.ClaimOfFreeOrOwnChannel : Prop :=
  ∀ (s : State) (p : Port) (tag pr w : U8) (ch : Fin 177) (q d : Nat), s.portReady p → s.unit.mode ≠ .setup →
    pr.val ≤ 3 → pr.val ≤ (s.rights p).ceiling → w.val ≤ 1 →
    ((s.entry ch).hold = .free → exec (.claim p tag (channelByte ch) pr w) s = .next
        (((s.setHold ch (.held p pr)).postTo (s.entry ch).watchers .holderChanged ch (holderDetail p)).ok p 0x01 tag))
    ∧ ((s.entry ch).hold = .held p q →
        (¬ s.outranked ch pr →
          exec (.claim p tag (channelByte ch) pr w) s = .next ((s.setHold ch (.held p pr)).ok p 0x01 tag))
        ∧ (s.outranked ch pr → exec (.claim p tag (channelByte ch) pr w) s = .next
          (((s.setHold ch (.recalling p pr (s.now + s.config.global.recallTimeout))).post p .recall ch 1).ok p 0x01 tag)))
    ∧ ((s.entry ch).hold = .recalling p q d →
        (¬ s.outranked ch pr → exec (.claim p tag (channelByte ch) pr w) s = .next
          (((s.setHold ch (.held p pr)).post p .recall ch 0).ok p 0x01 tag))
        ∧ (s.outranked ch pr → exec (.claim p tag (channelByte ch) pr w) s = .next
          ((s.setHold ch (.recalling p pr d)).ok p 0x01 tag)))

/-- A CLAIM on a channel held by another port, by its state, the priorities, the wait flag and the room in the wait queue
(R11 to R13), and a CLAIM on a SAFED channel (R14). -/
def Obligations.ClaimOfContestedChannel : Prop :=
  ∀ (s : State) (p x : Port) (tag pr w : U8) (ch : Fin 177) (q d : Nat), s.portReady p → s.unit.mode ≠ .setup →
    pr.val ≤ 3 → pr.val ≤ (s.rights p).ceiling → w.val ≤ 1 → x ≠ p →
    ((s.entry ch).hold = .held x q ∨ (s.entry ch).hold = .recalling x q d →
      (pr.val ≤ q → w.val = 0 →
        exec (.claim p tag (channelByte ch) pr w) s = .next (s.refused p 0x01 tag .heldHigher))
      ∧ (q < pr.val ∨ w.val = 1 → ¬ s.waitsFor p ch → 16 ≤ s.directory.waiters.length →
        exec (.claim p tag (channelByte ch) pr w) s = .next (s.refused p 0x01 tag .waitFull)))
    ∧ ((s.entry ch).hold = .held x q →
      (pr.val ≤ q → w.val = 1 → s.waitsFor p ch → exec (.claim p tag (channelByte ch) pr w) s = .next
        ((s.reprioritise p ch pr).answered p 0x01 tag .queued .empty))
      ∧ (pr.val ≤ q → w.val = 1 → ¬ s.waitsFor p ch → s.directory.waiters.length < 16 →
        exec (.claim p tag (channelByte ch) pr w) s = .next ((s.addWaiter p ch pr).answered p 0x01 tag .queued .empty))
      ∧ (q < pr.val → s.waitsFor p ch → exec (.claim p tag (channelByte ch) pr w) s = .next
        ((((s.reprioritise p ch pr).setHold ch (.recalling x q (s.now + s.config.global.recallTimeout))).post
          x .recall ch 1).answered p 0x01 tag .queued .empty))
      ∧ (q < pr.val → ¬ s.waitsFor p ch → s.directory.waiters.length < 16 →
        exec (.claim p tag (channelByte ch) pr w) s = .next
          ((((s.addWaiter p ch pr).setHold ch (.recalling x q (s.now + s.config.global.recallTimeout))).post
            x .recall ch 1).answered p 0x01 tag .queued .empty)))
    ∧ ((s.entry ch).hold = .recalling x q d →
      (q < pr.val → ¬ s.waitsFor p ch → s.directory.waiters.length < 16 →
        exec (.claim p tag (channelByte ch) pr w) s = .next ((s.addWaiter p ch pr).answered p 0x01 tag .queued .empty))
      ∧ (q < pr.val → s.waitsFor p ch →
        exec (.claim p tag (channelByte ch) pr w) s = .next ((s.reprioritise p ch pr).answered p 0x01 tag .queued .empty))
      ∧ (pr.val ≤ q → w.val = 1 → ¬ s.waitsFor p ch → s.directory.waiters.length < 16 → s.outranked ch q →
        exec (.claim p tag (channelByte ch) pr w) s = .next ((s.addWaiter p ch pr).answered p 0x01 tag .queued .empty))
      ∧ (pr.val ≤ q → w.val = 1 → s.waitsFor p ch →
        ((s.reprioritise p ch pr).outranked ch q → exec (.claim p tag (channelByte ch) pr w) s = .next
          ((s.reprioritise p ch pr).answered p 0x01 tag .queued .empty))
        ∧ (¬ (s.reprioritise p ch pr).outranked ch q → exec (.claim p tag (channelByte ch) pr w) s = .next
          ((((s.reprioritise p ch pr).setHold ch (.held x q)).post x .recall ch 0).answered p 0x01 tag .queued .empty))))
    ∧ ((s.entry ch).hold = .safed →
        exec (.claim p tag (channelByte ch) pr w) s = .next (s.refused p 0x01 tag .safed))

/-- The wait queue (R5): a new entry joins the tail with the counter's value, and after 65535 the entries are renumbered 1, 2,
3 and so on; an updated entry takes its new priority and keeps its place and its arrival number, and every other entry stands;
an entry removed leaves the others in their order; and the counter restarts at 1 when the list becomes empty. -/
def Obligations.WaitQueueOrder : Prop :=
  ∀ (s : State) (p : Port) (ch : Fin 177) (pr : Nat),
    (s.directory.arrivals ≠ 65535 → (s.addWaiter p ch pr).directory =
      ⟨s.directory.entries, s.directory.waiters ++ [⟨p, ch, pr, s.directory.arrivals⟩], s.directory.arrivals + 1⟩)
    ∧ (s.directory.arrivals = 65535 →
      (s.addWaiter p ch pr).directory.waiters.map WaitEntry.arrival = List.range' 1 (s.directory.waiters.length + 1)
      ∧ (s.addWaiter p ch pr).directory.waiters.map (fun w => (w.port, w.channel, w.priority))
          = s.directory.waiters.map (fun w => (w.port, w.channel, w.priority)) ++ [(p, ch, pr)]
      ∧ (s.addWaiter p ch pr).directory.arrivals = s.directory.waiters.length + 2)
    ∧ (s.waitsFor p ch → s.reprioritise p ch pr = { s with directory := ⟨s.directory.entries,
        s.directory.waiters.map (fun w => if w.port = p ∧ w.channel = ch then ⟨p, ch, pr, w.arrival⟩ else w),
        s.directory.arrivals⟩ })
    ∧ (s.dropWaiter p ch).directory.entries = s.directory.entries
    ∧ (s.dropWaiter p ch).directory.waiters = s.directory.waiters.filter (fun w => decide (w.port ≠ p ∨ w.channel ≠ ch))
    ∧ (s.dropWaiter p ch).directory.arrivals
        = (if ∀ w ∈ s.directory.waiters, w.port = p ∧ w.channel = ch then 1 else s.directory.arrivals)
    ∧ s.dropWaiter p ch = { s with directory := (s.dropWaiter p ch).directory }

/-- A RELEASE by the holder transfers the channel to the winner of its waiters or frees it (R15, R16); by a waiter it is a
withdrawal, which ends a recall no longer owed (R17); by any other port it is refused NOT_HOLDER (R16, R18). RECALL_EXPIRY at
the deadline transfers the channel to the winner, LOST detail 1 going to the holder (R15, R19); before the deadline and
outside RECALLING it has no effect: the model's choice (log 3). -/
def Obligations.ReleaseAndRecallExpiry : Prop :=
  ∀ (s : State) (p x : Port) (tag : U8) (ch : Fin 177) (w : WaitEntry) (q d : Nat),
    ((s.entry ch).hold = .recalling x q d → d ≤ s.now → s.wins w → w.channel = ch →
      exec (.recallExpiry ch) s = .next ((s.post x .lost ch 1).passedTo ch w))
    ∧ ((s.entry ch).hold = .recalling x q d → s.now < d → exec (.recallExpiry ch) s = .next s)
    ∧ ((s.entry ch).hold = .held x q ∨ (s.entry ch).hold = .free ∨ (s.entry ch).hold = .safed →
      exec (.recallExpiry ch) s = .next s)
    ∧ (s.portReady p → s.unit.mode ≠ .setup →
    ((s.entry ch).hold.holder = some p → s.waitersOf ch = [] →
      exec (.release p tag (channelByte ch)) s = .next ((s.freed ch).ok p 0x02 tag))
    ∧ ((s.entry ch).hold.holder = some p → s.wins w → w.channel = ch →
      exec (.release p tag (channelByte ch)) s = .next ((s.passedTo ch w).ok p 0x02 tag))
    ∧ ((s.entry ch).hold.holder ≠ some p → s.waitsFor p ch →
      ((s.entry ch).hold = .recalling x q d → ¬ (s.dropWaiter p ch).outranked ch q →
        exec (.release p tag (channelByte ch)) s = .next
          ((((s.dropWaiter p ch).setHold ch (.held x q)).post x .recall ch 0).ok p 0x02 tag))
      ∧ (((s.entry ch).hold = .recalling x q d → (s.dropWaiter p ch).outranked ch q) →
        ((s.entry ch).hold = .recalling x q d ∨ (s.entry ch).hold = .held x q) →
        exec (.release p tag (channelByte ch)) s = .next ((s.dropWaiter p ch).ok p 0x02 tag)))
    ∧ ((s.entry ch).hold.holder ≠ some p → ¬ s.waitsFor p ch →
      exec (.release p tag (channelByte ch)) s = .next (s.refused p 0x02 tag .notHolder)))

/-- A SET by the holder fills the slot with the setpoint of the channel's class brought within its range, answered OK or
CLAMPED; on a SAFED channel it is refused SAFED and for any other port NOT_HOLDER, the slot unchanged (R21, R22). -/
def Obligations.SetStagesTheHoldersSetpoint : Prop :=
  ∀ (s : State) (p : Port) (tag : U8) (ch : Fin 177) (j : Fin 128) (f : Fin 48) (v : SetValue), s.portReady p →
    s.unit.mode ≠ .setup →
    ((s.entry (jetChannel j)).hold.holder = some p → exec (.set p tag (channelByte (jetChannel j)) v) s = .next
      ((s.setSlot (jetChannel j) (some (.height (min (v.b0.val * 256 + v.b1.val) (s.config.jets.get j).hMax)))).answered
        p 0x03 tag (if v.b0.val * 256 + v.b1.val ≤ (s.config.jets.get j).hMax then .ok else .clamped) .empty))
    ∧ ((s.entry (fixtureChannel f)).hold.holder = some p → exec (.set p tag (channelByte (fixtureChannel f)) v) s = .next
      ((s.setSlot (fixtureChannel f)
          (some (.colour ⟨v.b0, v.b1, v.b2, v.b3⟩ (min (v.b4.val * 256 + v.b5.val) 1000)))).answered
        p 0x03 tag (if v.b4.val * 256 + v.b5.val ≤ 1000 then .ok else .clamped) .empty))
    ∧ ((s.entry audChannel).hold.holder = some p → exec (.set p tag (channelByte audChannel) v) s = .next
      ((s.setSlot audChannel (some (.gain (min (v.b0.val * 256 + v.b1.val) 256)))).answered
        p 0x03 tag (if v.b0.val * 256 + v.b1.val ≤ 256 then .ok else .clamped) .empty))
    ∧ ((s.entry ch).hold = .safed → exec (.set p tag (channelByte ch) v) s = .next (s.refused p 0x03 tag .safed))
    ∧ ((s.entry ch).hold ≠ .safed → (s.entry ch).hold.holder ≠ some p →
      exec (.set p tag (channelByte ch) v) s = .next (s.refused p 0x03 tag .notHolder))

/-- WATCH adds the requesting port to the watchers and UNWATCH removes it, in every channel state and mode, and neither
changes anything else (R23). INQUIRE answers OK with the entry, the time to the recall deadline in RECALLING, and the waiters
in queue order, and changes nothing else (R24). -/
def Obligations.WatchUnwatchAndInquire : Prop :=
  ∀ (s : State) (p x : Port) (tag : U8) (ch : Fin 177) (q d : Nat), s.portReady p →
    exec (.watch p tag (channelByte ch)) s = .next
      ((s.setEntry ch ⟨(s.entry ch).hold, (s.entry ch).watchers.set p true, (s.entry ch).slot⟩).ok p 0x04 tag)
    ∧ exec (.unwatch p tag (channelByte ch)) s = .next
      ((s.setEntry ch ⟨(s.entry ch).hold, (s.entry ch).watchers.set p false, (s.entry ch).slot⟩).ok p 0x05 tag)
    ∧ ((s.entry ch).hold = .recalling x q d → exec (.inquire p tag (channelByte ch)) s = .next
      (s.answered p 0x06 tag .ok (.inquire (s.entry ch) (some (d - s.now))
        ((s.directory.waiters.filter fun w => w.channel = ch).map fun w => (w.port, w.priority)))))
    ∧ ((s.entry ch).hold = .free ∨ (s.entry ch).hold = .held x q ∨ (s.entry ch).hold = .safed →
      exec (.inquire p tag (channelByte ch)) s = .next (s.answered p 0x06 tag .ok (.inquire (s.entry ch) none
        ((s.directory.waiters.filter fun w => w.channel = ch).map fun w => (w.port, w.priority)))))

/-- Every step keeps every staged slot empty whose channel no port holds (R3), and keeps the wait queue within 16 entries, with no
port and channel twice, none naming the channel's holder and none naming a channel without a holder, each entry in RECALLING
exactly while a recall is owed (R5, R6). -/
def Obligations.StepKeepsDirectorySound : Prop :=
  ∀ (s t : State), step s = .next t →
    (s.SlotsSound → t.SlotsSound) ∧ (s.WaitersSound → s.RecallsSound → t.WaitersSound ∧ t.RecallsSound)

/-! ## The Range Engine (02) -/

/-- A RANGE request: the op code (1 RCLAIM, 2 RRELEASE, 3 RSET, 4 RWATCH, 5 RUNWATCH), then the checks of R31 in order with
the field each names, then the record becomes active with the count resolved. Field 3 at a run past its class is the model's
reading (log 8). RANGE_STOP ends the issuer's own operation STOPPED with RANGE_DONE, is refused NO_RIGHT to another port and
WRONG_STATE with the record idle (R37, R38). RANGE_STATUS reports the engine as it stands and changes nothing (R42). -/
def Obligations.RangeRequests : Prop :=
  ∀ (s : State) (p : Port) (tag op first count pr : U8) (v : SetValue) (o : RangeOp) (r : RangeRecord), s.portReady p →
    (op.val = 0 ∨ 5 < op.val →
      exec (.range p tag op first count pr v) s = .next (s.refusal p 0x10 tag .outOfRange 1 0 0))
    ∧ rangeOpOf 1 pr.val v = some (.claim pr.val) ∧ rangeOpOf 2 pr.val v = some .release
    ∧ rangeOpOf 3 pr.val v = some (.set v) ∧ rangeOpOf 4 pr.val v = some .watch ∧ rangeOpOf 5 pr.val v = some .unwatch
    ∧ (rangeOpOf op.val pr.val v = some o →
      (175 < first.val → exec (.range p tag op first count pr v) s = .next (s.refusal p 0x10 tag .outOfRange 2 0 0))
      ∧ (first.val ≤ 175 → 0 < count.val → (if first.val < 128 then 128 else 176) < first.val + count.val →
        exec (.range p tag op first count pr v) s = .next (s.refusal p 0x10 tag .outOfRange 3 0 0))
      ∧ (first.val ≤ 175 → (count.val = 0 ∨ first.val + count.val ≤ if first.val < 128 then 128 else 176) →
        (op.val = 1 → 3 < pr.val →
          exec (.range p tag op first count pr v) s = .next (s.refusal p 0x10 tag .outOfRange 4 0 0))
        ∧ ((op.val = 1 → pr.val ≤ 3) → op.val ≤ 3 → s.unit.mode = .setup →
          exec (.range p tag op first count pr v) s = .next (s.refused p 0x10 tag .wrongMode))
        ∧ (op.val = 1 → pr.val ≤ 3 → s.unit.mode ≠ .setup → (s.rights p).ceiling < pr.val →
          exec (.range p tag op first count pr v) s = .next (s.refusal p 0x10 tag .noRight 4 0 0))
        ∧ ((op.val = 1 → pr.val ≤ 3 ∧ pr.val ≤ (s.rights p).ceiling) → (op.val ≤ 3 → s.unit.mode ≠ .setup) →
          (s.range.active ≠ none →
            exec (.range p tag op first count pr v) s = .next (s.refused p 0x10 tag .busy))
          ∧ (s.range.active = none → exec (.range p tag op first count pr v) s = .next
            (State.answered { s with range := ⟨some ⟨p, o, first.val,
                if count.val = 0 then (if first.val < 128 then 128 else 176) - first.val else count.val, 0, 0, none⟩,
                s.range.last⟩ }
              p 0x10 tag .accepted .empty)))))
    ∧ (s.range.active = none → exec (.rangeStop p tag) s = .next (s.refused p 0x11 tag .wrongState))
    ∧ (s.range.active = some r → r.issuer ≠ p → exec (.rangeStop p tag) s = .next (s.refused p 0x11 tag .noRight))
    ∧ (s.range.active = some r → r.issuer = p → exec (.rangeStop p tag) s = .next
      ((State.post { s with range := ⟨none, some ⟨p, r.op, r.first, r.count, r.done, r.skipped, r.firstSkipped,
          r.count - r.done - r.skipped, .stopped⟩⟩ }
        p .rangeDone r.first 1 (.range r.done r.skipped r.firstSkipped (r.count - r.done - r.skipped))).ok p 0x11 tag))
    ∧ exec (.rangeStatus p tag) s = .next (s.answered p 0x12 tag .ok (.rangeStatus s.range.active s.range.last))

/-- A step of each range op on the next channel: RCLAIM by the table of R33, RRELEASE, RSET, RWATCH and RUNWATCH (R34 to R36).
Each counts itself done or skipped, and the step that leaves no channel ends the operation COMPLETE (R32, R37). A step whose
op the record does not hold has no effect: the model's choice (log 3). -/
def Obligations.RangeSteps : Prop :=
  ∀ (s : State) (r : RangeRecord) (ch : Fin 177) (x : Port) (p q d : Nat) (j : Fin 128) (f : Fin 48)
    (w : WaitEntry) (v : SetValue),
    (s.range.active = none → exec .rclaimStep s = .next s)
    ∧ (s.range.active = some r → r.op.isClaim = false → exec .rclaimStep s = .next s)
    ∧ (s.range.active = some r → r.op = .claim p → r.first + r.done + r.skipped = ch.val →
      ((s.entry ch).hold = .free → exec .rclaimStep s = .next
        (((s.setHold ch (.held r.issuer p)).postTo (s.entry ch).watchers .holderChanged ch
          (holderDetail r.issuer)).rangeStepped r true))
      ∧ ((s.entry ch).hold = .held x q →
        (x = r.issuer → q ≤ p → exec .rclaimStep s = .next ((s.setHold ch (.held x p)).rangeStepped r true))
        ∧ (x ≠ r.issuer ∨ p < q → exec .rclaimStep s = .next (s.rangeStepped r false)))
      ∧ ((s.entry ch).hold = .recalling x q d →
        (x = r.issuer → q ≤ p → ¬ s.outranked ch p →
          exec .rclaimStep s = .next (((s.setHold ch (.held x p)).post x .recall ch 0).rangeStepped r true))
        ∧ (x = r.issuer → q ≤ p → s.outranked ch p →
          exec .rclaimStep s = .next ((s.setHold ch (.recalling x p d)).rangeStepped r true))
        ∧ (x ≠ r.issuer ∨ p < q → exec .rclaimStep s = .next (s.rangeStepped r false)))
      ∧ ((s.entry ch).hold = .safed → exec .rclaimStep s = .next (s.rangeStepped r false)))
    ∧ (s.range.active = none → exec .rreleaseStep s = .next s ∧ exec .rsetStep s = .next s ∧ exec .rwatchStep s = .next s
      ∧ exec .runwatchStep s = .next s)
    ∧ (s.range.active = some r →
      (r.op ≠ .release → exec .rreleaseStep s = .next s) ∧ (r.op.isSet = false → exec .rsetStep s = .next s)
      ∧ (r.op ≠ .watch → exec .rwatchStep s = .next s) ∧ (r.op ≠ .unwatch → exec .runwatchStep s = .next s)
      ∧ (r.op = .set v →
        (r.first + r.done + r.skipped = (jetChannel j).val → (s.entry (jetChannel j)).hold.holder = some r.issuer →
          exec .rsetStep s = .next ((s.setSlot (jetChannel j)
            (some (.height (min (v.b0.val * 256 + v.b1.val) (s.config.jets.get j).hMax)))).rangeStepped r true))
        ∧ (r.first + r.done + r.skipped = (fixtureChannel f).val →
          (s.entry (fixtureChannel f)).hold.holder = some r.issuer →
          exec .rsetStep s = .next ((s.setSlot (fixtureChannel f)
            (some (.colour ⟨v.b0, v.b1, v.b2, v.b3⟩ (min (v.b4.val * 256 + v.b5.val) 1000)))).rangeStepped r true))
        ∧ (r.first + r.done + r.skipped = ch.val → (s.entry ch).hold.holder ≠ some r.issuer →
          exec .rsetStep s = .next (s.rangeStepped r false)))
      ∧ (r.first + r.done + r.skipped = ch.val →
        (r.op = .release →
          ((s.entry ch).hold.holder ≠ some r.issuer → exec .rreleaseStep s = .next (s.rangeStepped r false))
          ∧ ((s.entry ch).hold.holder = some r.issuer → s.waitersOf ch = [] →
            exec .rreleaseStep s = .next ((s.freed ch).rangeStepped r true))
          ∧ ((s.entry ch).hold.holder = some r.issuer → s.wins w → w.channel = ch →
            exec .rreleaseStep s = .next ((s.passedTo ch w).rangeStepped r true)))
        ∧ (r.op = .watch → exec .rwatchStep s = .next ((s.setEntry ch
            ⟨(s.entry ch).hold, (s.entry ch).watchers.set r.issuer true, (s.entry ch).slot⟩).rangeStepped r true))
        ∧ (r.op = .unwatch → exec .runwatchStep s = .next ((s.setEntry ch
            ⟨(s.entry ch).hold, (s.entry ch).watchers.set r.issuer false, (s.entry ch).slot⟩).rangeStepped r true))))

/-! ## The cue store (03) -/

/-- CUE_LOAD writes its records in order up to the first that lies outside the port's window or is invalid, and answers with
that index and the records left; every byte of the store outside the records written reads as before (R48). CUE_READ answers OK with
the records at the indices asked for, byte for byte, and refuses a run past index 2047 with OUT_OF_RANGE (R50). What a load leaves
in the store is said of a store in its canonical form, the first half of StoreSound, which StepKeepsStoreAndTracksSound keeps. A
count above 16 is refused: the model's choice (log 7). -/
def Obligations.CueLoadAndRead : Prop :=
  ∀ (s : State) (p : Port) (tag count : U8) (start : U16) (records : List CueRecord) (k a offset : Nat), s.portReady p →
    (count.val ≤ 16 → start.val + (if count.val = 0 then 16 else count.val) ≤ 2048 →
      exec (.cueRead p tag start count) s = .next (s.answered p 0x21 tag .ok (.cueRecords
        ((List.range (if count.val = 0 then 16 else count.val)).map fun i =>
          Table.build fun b => Memory.read s.cues (16 * (start.val + i) + b.val)))))
    ∧ (16 < count.val ∨ 2048 < start.val + (if count.val = 0 then 16 else count.val) →
      exec (.cueRead p tag start count) s = .next (s.refused p 0x21 tag .outOfRange))
    ∧ (16 < count.val ∨ records.length ≠ (if count.val = 0 then 16 else count.val) →
      exec (.cueLoad p tag start count records) s = .next (s.refused p 0x20 tag .badRequest))
    ∧ (count.val ≤ 16 → records.length = (if count.val = 0 then 16 else count.val) →
    (2047 < start.val →
      exec (.cueLoad p tag start count records) s = .next (s.refusal p 0x20 tag .outOfRange 1 0 0))
    ∧ (Memory.wf s.cues = true → start.val ≤ 2047 → (∀ i, i < k → (s.rights p).base ≤ start.val + i
          ∧ start.val + i < (s.rights p).base + (s.rights p).length) →
      (∀ r ∈ records.take k, CueRecord.fault r = none) →
      (records.length = k → ∃ t, exec (.cueLoad p tag start count records) s = .next t
        ∧ t = State.ok { s with cues := t.cues } p 0x20 tag
        ∧ Memory.read t.cues a = if 16 * start.val ≤ a ∧ a < 16 * (start.val + k)
            then (records.map Table.rows).flatten.getD (a - 16 * start.val) 0 else Memory.read s.cues a)
      ∧ (k < records.length → ¬ ((s.rights p).base ≤ start.val + k
          ∧ start.val + k < (s.rights p).base + (s.rights p).length) →
        ∃ t, exec (.cueLoad p tag start count records) s = .next t
        ∧ t = State.refusal { s with cues := t.cues } p 0x20 tag .noRight 1 (start.val + k) (records.length - k)
        ∧ Memory.read t.cues a = if 16 * start.val ≤ a ∧ a < 16 * (start.val + k)
            then (records.map Table.rows).flatten.getD (a - 16 * start.val) 0 else Memory.read s.cues a)
      ∧ ((s.rights p).base ≤ start.val + k → start.val + k < (s.rights p).base + (s.rights p).length →
        records[k]?.bind CueRecord.fault = some offset →
        ∃ t, exec (.cueLoad p tag start count records) s = .next t
        ∧ t = State.refusal { s with cues := t.cues } p 0x20 tag .cueInvalid offset (start.val + k) (records.length - k)
        ∧ Memory.read t.cues a = if 16 * start.val ≤ a ∧ a < 16 * (start.val + k)
            then (records.map Table.rows).flatten.getD (a - 16 * start.val) 0 else Memory.read s.cues a)))

/-- The validation of a cue record (R46): the checks in their order, and the byte offset of the first byte of the field that
fails first; a record that passes them all is valid. The fields and their ranges are those of R44 and R45. Byte 5, the count,
for a run past jet 127 is the model's reading, and so is the byte itself for one that check 5 finds not 0, however many of them the
table of R45 gives together (log 8). -/
def Obligations.CueRecordFault : Prop :=
  ∀ (r : CueRecord), CueRecord.fault r =
    if CueRecord.byte r 0 ∉ [0x00, 0x01, 0x02, 0x03, 0x04, 0x10, 0x11, 0x12, 0x13, 0x14, 0x1F] then some 0
    else if 1 < CueRecord.byte r 1 ∨ (CueRecord.byte r 1 = 1 ∧ CueRecord.byte r 0 ≠ 0x11) then some 1
    else if (CueRecord.byte r 0 = 0x01 ∨ CueRecord.byte r 0 = 0x02) ∧ 127 < CueRecord.byte r 4 then some 4
    else if CueRecord.byte r 0 = 0x02 ∧ (CueRecord.byte r 5 = 0 ∨ 16 < CueRecord.byte r 5
      ∨ 128 < CueRecord.byte r 4 + CueRecord.byte r 5) then some 5
    else if CueRecord.byte r 0 = 0x03 ∧ (CueRecord.byte r 4 < 128 ∨ 175 < CueRecord.byte r 4) then some 4
    else if CueRecord.byte r 0 = 0x10 ∧ CueRecord.byte r 4 = 0 then some 4
    else if CueRecord.byte r 0 = 0x13 ∧ 2047 < CueRecord.byte r 6 * 256 + CueRecord.byte r 7 then some 6
    else if CueRecord.byte r 0 = 0x11 ∧ (CueRecord.byte r 1 = 1 ∧ CueRecord.byte r 5 = 0
      ∨ CueRecord.byte r 1 = 0 ∧ CueRecord.byte r 5 ≠ 0) then some 5
    else match (Table.indices 16).find? fun (k : Fin 16) => unusedByte (CueRecord.byte r 0) k.val && CueRecord.byte r k != 0 with
      | some k => some k.val
      | none => if CueRecord.byte r 0 = 0 ∧ (CueRecord.byte r 2 ≠ 0 ∨ CueRecord.byte r 3 ≠ 0) then some 2 else none

/-! ## The tracks (03) -/

/-- The checks of R53 in order on the five requests that change a track, with the field each names; the admitted states are
those of R54 to R56. -/
def Obligations.TrackChecks : Prop :=
  ∀ (s : State) (p : Port) (tag track : U8) (cue : U16) (t : Fin 4) (b : TrackBody), s.portReady p →
    (4 ≤ track.val →
      exec (.trackArm p tag track cue) s = .next (s.refusal p 0x22 tag .outOfRange 1 0 0)
      ∧ exec (.trackStart p tag track) s = .next (s.refusal p 0x23 tag .outOfRange 1 0 0)
      ∧ exec (.trackPause p tag track) s = .next (s.refusal p 0x24 tag .outOfRange 1 0 0)
      ∧ exec (.trackResume p tag track) s = .next (s.refusal p 0x25 tag .outOfRange 1 0 0)
      ∧ exec (.trackStop p tag track) s = .next (s.refusal p 0x26 tag .outOfRange 1 0 0))
    ∧ (2047 < cue.val →
      exec (.trackArm p tag (trackByte t) cue) s = .next (s.refusal p 0x22 tag .outOfRange 2 0 0))
    ∧ (s.track t = some b → b.owner ≠ p →
      (cue.val ≤ 2047 → exec (.trackArm p tag (trackByte t) cue) s = .next (s.refusal p 0x22 tag .noRight 1 0 0))
      ∧ exec (.trackStart p tag (trackByte t)) s = .next (s.refusal p 0x23 tag .noRight 1 0 0)
      ∧ exec (.trackPause p tag (trackByte t)) s = .next (s.refusal p 0x24 tag .noRight 1 0 0)
      ∧ exec (.trackResume p tag (trackByte t)) s = .next (s.refusal p 0x25 tag .noRight 1 0 0)
      ∧ ((s.rights p).safety = false →
        exec (.trackStop p tag (trackByte t)) s = .next (s.refusal p 0x26 tag .noRight 1 0 0)))
    ∧ ((∀ c ∈ (s.track t).toList, c.owner = p) →
      (cue.val ≤ 2047 → s.unit.mode = .setup →
        exec (.trackArm p tag (trackByte t) cue) s = .next (s.refused p 0x22 tag .wrongMode))
      ∧ (s.unit.mode ≠ .live →
        exec (.trackStart p tag (trackByte t)) s = .next (s.refused p 0x23 tag .wrongMode)
        ∧ exec (.trackResume p tag (trackByte t)) s = .next (s.refused p 0x25 tag .wrongMode))
      ∧ (cue.val ≤ 2047 → s.unit.mode ≠ .setup → trackName (s.track t) ∈ [.running, .waiting, .paused] →
        exec (.trackArm p tag (trackByte t) cue) s = .next (s.refusal p 0x22 tag .wrongState 1 0 0))
      ∧ (s.unit.mode = .live → trackName (s.track t) ≠ .armed →
        exec (.trackStart p tag (trackByte t)) s = .next (s.refusal p 0x23 tag .wrongState 1 0 0))
      ∧ (trackName (s.track t) ∈ [.idle, .armed, .faulted] →
        exec (.trackPause p tag (trackByte t)) s = .next (s.refusal p 0x24 tag .wrongState 1 0 0)
        ∧ (s.unit.mode = .live →
          exec (.trackResume p tag (trackByte t)) s = .next (s.refusal p 0x25 tag .wrongState 1 0 0)))
      ∧ (trackName (s.track t) = .idle →
        exec (.trackStop p tag (trackByte t)) s = .next (s.refusal p 0x26 tag .wrongState 1 0 0))
      ∧ (cue.val ≤ 2047 → s.unit.mode ≠ .setup → trackName (s.track t) ∈ [.idle, .armed, .faulted] →
        ¬ ((s.rights p).base ≤ cue.val ∧ cue.val < (s.rights p).base + (s.rights p).length) →
        exec (.trackArm p tag (trackByte t) cue) s = .next (s.refusal p 0x22 tag .noRight 2 0 0))
      ∧ (s.unit.mode = .live → s.safety.state ≠ .normal ∨ s.clock.run = .stopped →
        (trackName (s.track t) = .armed →
          exec (.trackStart p tag (trackByte t)) s = .next (s.refused p 0x23 tag .wrongState))
        ∧ (trackName (s.track t) ∈ [.running, .waiting, .paused] →
          exec (.trackResume p tag (trackByte t)) s = .next (s.refused p 0x25 tag .wrongState))))

/-- TRACK_ARM, TRACK_START, TRACK_PAUSE and TRACK_RESUME once their checks pass, by the track's state (R52, R54, R55), and
TRACK_STOP from the owner and from a port with the SAFETY right (R56). A track made RUNNING has its due event directly after
where the delta or the time left is 0 and the clock is RUNNING (R57); with the clock STALLED the event falls at its next
advance, by the model's own field dueAt (log 4). A next_due below the clock's value leaves a paused track 0 to run: the model's
reading (log 35). The idle condition is evaluated once after the change: the model's reading (log 23). -/
def Obligations.TrackRequests : Prop :=
  ∀ (s : State) (p : Port) (tag : U8) (cue : U16) (t : Fin 4) (b : TrackBody) (f : TrackFault)
    (due at_ m n : Nat), s.portReady p →
    (s.unit.mode ≠ .setup → cue.val ≤ 2047 → (s.rights p).base ≤ cue.val →
      cue.val < (s.rights p).base + (s.rights p).length →
      (s.track t = none → exec (.trackArm p tag (trackByte t) cue) s = .next
        ((settleIdle s ((s.setTrack t (some ⟨p, cue, [], ⟨false, false, false⟩, .armed⟩)).post p .trackState t 1)).ok
          p 0x22 tag))
      ∧ (s.track t = some b → b.owner = p →
        (b.phase = .faulted f → exec (.trackArm p tag (trackByte t) cue) s = .next
          ((settleIdle s ((s.setTrack t (some ⟨p, cue, [], ⟨false, false, false⟩, .armed⟩)).post p .trackState t 1)).ok
            p 0x22 tag))
        ∧ (b.phase = .armed → exec (.trackArm p tag (trackByte t) cue) s = .next
          ((s.setTrack t (some ⟨p, cue, [], ⟨false, false, false⟩, .armed⟩)).ok p 0x22 tag))))
    ∧ (s.track t = some b → b.owner = p → b.phase = .armed → s.unit.mode = .live → s.safety.state = .normal →
      s.clock.run ≠ .stopped → (s.clock.run = .running → CueRecord.delta (Memory.record s.cues b.cue) = 0 →
        exec (.trackStart p tag (trackByte t)) s = exec (.dueEvent t)
        ((settleIdle s ((s.setTrack t (some ⟨p, b.cue, b.stack, ⟨false, false, false⟩,
          s.runningAt (s.clock.value + CueRecord.delta (Memory.record s.cues b.cue))⟩)).post p .trackState t 2)).ok
          p 0x23 tag))
      ∧ (s.clock.run ≠ .running ∨ 0 < CueRecord.delta (Memory.record s.cues b.cue) →
        exec (.trackStart p tag (trackByte t)) s = .next
        ((settleIdle s ((s.setTrack t (some ⟨p, b.cue, b.stack, ⟨false, false, false⟩,
          s.runningAt (s.clock.value + CueRecord.delta (Memory.record s.cues b.cue))⟩)).post p .trackState t 2)).ok
          p 0x23 tag)))
    ∧ (s.track t = some b →
    (b.owner = p →
      (b.phase = .running due at_ → exec (.trackPause p tag (trackByte t)) s = .next
        ((settleIdle s ((s.setTrack t (some ⟨p, b.cue, b.stack, ⟨true, b.reasons.freeze, b.reasons.safety⟩,
          .paused (due - s.clock.value)⟩)).post p .trackState t 4)).ok p 0x24 tag))
      ∧ (b.phase = .waiting m ∨ b.phase = .paused n → exec (.trackPause p tag (trackByte t)) s = .next
        ((s.setTrack t (some ⟨p, b.cue, b.stack, ⟨true, b.reasons.freeze, b.reasons.safety⟩, b.phase⟩)).ok p 0x24 tag))
      ∧ (s.unit.mode = .live → s.safety.state = .normal → s.clock.run ≠ .stopped →
        (b.phase = .running due at_ → exec (.trackResume p tag (trackByte t)) s = .next (s.ok p 0x25 tag))
        ∧ (b.phase = .paused n →
          (b.reasons.freeze = false → s.clock.run = .running → n = 0 →
            exec (.trackResume p tag (trackByte t)) s = exec (.dueEvent t)
            ((settleIdle s ((s.setTrack t (some ⟨p, b.cue, b.stack, ⟨false, false, false⟩,
              s.runningAt s.clock.value⟩)).post p .trackState t 2)).ok p 0x25 tag))
          ∧ (b.reasons.freeze = false → s.clock.run ≠ .running ∨ 0 < n →
            exec (.trackResume p tag (trackByte t)) s = .next
            ((settleIdle s ((s.setTrack t (some ⟨p, b.cue, b.stack, ⟨false, false, false⟩,
              s.runningAt (s.clock.value + n)⟩)).post p .trackState t 2)).ok p 0x25 tag))
          ∧ (b.reasons.freeze = true → exec (.trackResume p tag (trackByte t)) s = .next
            ((s.setTrack t (some ⟨p, b.cue, b.stack, ⟨false, true, false⟩, .paused n⟩)).ok p 0x25 tag)))
        ∧ (b.phase = .waiting m →
          (b.reasons.freeze = false → s.clock.run = .running → CueRecord.delta (Memory.record s.cues b.cue) = 0 →
            exec (.trackResume p tag (trackByte t)) s = exec (.dueEvent t)
            ((settleIdle s ((s.setTrack t (some ⟨p, b.cue, b.stack, ⟨false, false, false⟩,
              s.runningAt s.clock.value⟩)).post p .trackState t 2)).ok p 0x25 tag))
          ∧ (b.reasons.freeze = false → s.clock.run ≠ .running ∨ 0 < CueRecord.delta (Memory.record s.cues b.cue) →
            exec (.trackResume p tag (trackByte t)) s = .next
            ((settleIdle s ((s.setTrack t (some ⟨p, b.cue, b.stack, ⟨false, false, false⟩,
              s.runningAt (s.clock.value + CueRecord.delta (Memory.record s.cues b.cue))⟩)).post p .trackState t 2)).ok
              p 0x25 tag))
          ∧ (b.reasons.freeze = true → exec (.trackResume p tag (trackByte t)) s = .next
            ((settleIdle s ((s.setTrack t (some ⟨p, b.cue, b.stack, ⟨false, true, false⟩,
              .paused (CueRecord.delta (Memory.record s.cues b.cue))⟩)).post p .trackState t 4)).ok p 0x25 tag)))))
    ∧ (b.owner = p ∨ (s.rights p).safety = true → exec (.trackStop p tag (trackByte t)) s = .next
        ((settleIdle s ((s.setTrack t none).post b.owner .trackState t 0)).ok p 0x26 tag)))

/-- What a due event makes of an END, EMPTY, WAIT_MARKER, SET_JET, LOOP, LOOP_END, CALL or RETURN record at the cue index,
where the track faults, waits or ends, and where it goes on to a record whose delta is not 0: next_due is then the due time
reached and that delta, and a due event that is due by it already follows directly (R57 to R62). A record of delta 0 is part of the
same due event: whatever record led to it, what that record makes of the state is followed by the due event from the next on, where
the 32 records of one due event suffice. The value at which a due event falls due is the model's own field (log 4), an EMPTY record
is BAD_RECORD as a kind no load admits is (log 24), and the idle condition is evaluated once (log 23). -/
def Obligations.DueEventTakesTheRecord : Prop :=
  ∀ (s : State) (t : Fin 4) (b : TrackBody) (j : Fin 128) (until_ : Option Nat) (seen : Bool) (rest : List StackFrame)
    (due at_ m n back : Nat), s.track t = some b → b.phase = .running due at_ → s.clock.run = .running →
    at_ ≤ s.clock.value →
    (∀ c ∈ ((s.takeRecord t b).runningBody t).toList, CueRecord.delta (Memory.record s.cues c.cue) = 0 →
      (s.takeRecord t b).eventEnds 31 t → exec (.dueEvent t) s = exec (.dueEvent t) (s.takeRecord t b))
    ∧ (CueRecord.cue (Memory.record s.cues b.cue) = .end_ →
      exec (.dueEvent t) s = .next (settleIdle s ((s.setTrack t none).post b.owner .trackState t 5)))
    ∧ (CueRecord.cue (Memory.record s.cues b.cue) = .empty →
      exec (.dueEvent t) s = .next (settleIdle s (s.trackFaulted t b .badRecord 8)))
    ∧ (CueRecord.cue (Memory.record s.cues b.cue) = .waitMarker m →
      ((s.rights b.owner).inWindow (b.cue + 1) = true → exec (.dueEvent t) s = .next (settleIdle s
        ((s.setTrack t (some ⟨b.owner, b.cue + 1, b.stack, b.reasons, .waiting m⟩)).post b.owner .trackState t 3)))
      ∧ ((s.rights b.owner).inWindow (b.cue + 1) = false →
        exec (.dueEvent t) s = .next (settleIdle s (s.trackFaulted t b .windowEnd 13))))
    ∧ (CueRecord.cue (Memory.record s.cues b.cue) = .setJet j n → s.pausesAt b (b.cue + 1) →
      ((s.entry (jetChannel j)).hold.holder = some b.owner → exec (.dueEvent t) s = exec (.dueEvent t)
        ((s.setSlot (jetChannel j) (some (.height (min n (s.config.jets.get j).hMax)))).trackGoesOn
          t b due (b.cue + 1) b.stack))
      ∧ ((s.entry (jetChannel j)).hold.holder ≠ some b.owner → exec (.dueEvent t) s = exec (.dueEvent t)
        ((s.post b.owner .cueSkipped t 1 (.cue b.cue)).trackGoesOn t b due (b.cue + 1) b.stack)))
    ∧ (CueRecord.cue (Memory.record s.cues b.cue) = .setJet j n → (s.rights b.owner).inWindow (b.cue + 1) = true →
      s.takeRecord t b = (if (s.entry (jetChannel j)).hold.holder = some b.owner
        then s.setSlot (jetChannel j) (some (.height (min n (s.config.jets.get j).hMax)))
        else s.tellSkipped t b 1).takesAlong t b (b.cue + 1) b.stack)
    ∧ (CueRecord.cue (Memory.record s.cues b.cue) = .loop n until_ →
      (b.stack.length < 6 → s.pausesAt b (b.cue + 1) → exec (.dueEvent t) s = exec (.dueEvent t)
        (s.trackGoesOn t b due (b.cue + 1) (.loop (b.cue + 1) n until_ false :: b.stack)))
      ∧ (b.stack.length < 6 → (s.rights b.owner).inWindow (b.cue + 1) = true →
        s.takeRecord t b = s.takesAlong t b (b.cue + 1) (.loop (b.cue + 1) n until_ false :: b.stack))
      ∧ (6 ≤ b.stack.length → exec (.dueEvent t) s = .next (settleIdle s (s.trackFaulted t b .stackFull 9))))
    ∧ (CueRecord.cue (Memory.record s.cues b.cue) = .loopEnd →
      (b.stack = .loop back n until_ seen :: rest →
        (n ≤ 1 ∨ (until_.isSome = true ∧ seen = true) → s.pausesAt b (b.cue + 1) →
          exec (.dueEvent t) s = exec (.dueEvent t) (s.trackGoesOn t b due (b.cue + 1) rest))
        ∧ (1 < n → until_.isNone = true ∨ seen = false → s.pausesAt b back →
          exec (.dueEvent t) s = exec (.dueEvent t) (s.trackGoesOn t b due back (.loop back (n - 1) until_ false :: rest)))
        ∧ (n ≤ 1 ∨ (until_.isSome = true ∧ seen = true) → (s.rights b.owner).inWindow (b.cue + 1) = true →
          s.takeRecord t b = s.takesAlong t b (b.cue + 1) rest)
        ∧ (1 < n → until_.isNone = true ∨ seen = false → (s.rights b.owner).inWindow back = true →
          s.takeRecord t b = s.takesAlong t b back (.loop back (n - 1) until_ false :: rest)))
      ∧ (b.stack = [] ∨ b.stack = .call back :: rest →
        exec (.dueEvent t) s = .next (settleIdle s (s.trackFaulted t b .nesting 11))))
    ∧ (CueRecord.cue (Memory.record s.cues b.cue) = .call n →
      (s.pausesAt b n → b.stack.length < 6 →
        exec (.dueEvent t) s = exec (.dueEvent t) (s.trackGoesOn t b due n (.call (b.cue + 1) :: b.stack)))
      ∧ ((s.rights b.owner).inWindow n = true → b.stack.length < 6 →
        s.takeRecord t b = s.takesAlong t b n (.call (b.cue + 1) :: b.stack))
      ∧ ((s.rights b.owner).inWindow n = false →
        exec (.dueEvent t) s = .next (settleIdle s (s.trackFaulted t b .callRange 12)))
      ∧ ((s.rights b.owner).inWindow n = true → 6 ≤ b.stack.length →
        exec (.dueEvent t) s = .next (settleIdle s (s.trackFaulted t b .stackFull 9))))
    ∧ (CueRecord.cue (Memory.record s.cues b.cue) = .return_ →
      (b.stack = .call back :: rest → s.pausesAt b back →
        exec (.dueEvent t) s = exec (.dueEvent t) (s.trackGoesOn t b due back rest))
      ∧ (b.stack = .call back :: rest → (s.rights b.owner).inWindow back = true →
        s.takeRecord t b = s.takesAlong t b back rest)
      ∧ (b.stack = [] → exec (.dueEvent t) s = .next (settleIdle s (s.trackFaulted t b .stackEmpty 10)))
      ∧ (b.stack = .loop back n until_ seen :: rest →
        exec (.dueEvent t) s = .next (settleIdle s (s.trackFaulted t b .nesting 11))))

/-- The records of a due event that stage setpoints: SET_JETS on each jet of its run, clamped to each jet's own h_max, SET_FIX
and SET_GAIN, each channel the owner holds written and each other skipped, with one CUE_SKIPPED for the number skipped (R58);
what such a record makes of the state where the next lies in the window, which DueEventTakesTheRecord takes on from a next
record of delta 0 (R57); and WINDOW_END, with the record's action standing, where the next index lies outside the owner's
window after a SET, a LOOP, a LOOP_END or a RETURN (R62). The value at which a due event falls due is the model's own field
(log 4), and the idle condition is evaluated once (log 23). -/
def Obligations.DueEventStagesAndMeetsTheWindow : Prop :=
  ∀ (s : State) (t : Fin 4) (b : TrackBody) (f : Fin 48) (j : Fin 128) (levels : Rgbw) (until_ : Option Nat) (seen : Bool)
    (rest : List StackFrame) (due at_ first count n back : Nat), s.track t = some b → b.phase = .running due at_ →
    s.clock.run = .running → at_ ≤ s.clock.value →
    (CueRecord.cue (Memory.record s.cues b.cue) = .setJets first count n → first + count ≤ 128 →
      (s.pausesAt b (b.cue + 1) → exec (.dueEvent t) s = exec (.dueEvent t)
        (((s.stagedRun b.owner first count n).tellSkipped t b (s.runOf b.owner first count false).length).trackGoesOn
          t b due (b.cue + 1) b.stack))
      ∧ ((s.rights b.owner).inWindow (b.cue + 1) = true → s.takeRecord t b = ((s.stagedRun b.owner first count n).tellSkipped
        t b (s.runOf b.owner first count false).length).takesAlong t b (b.cue + 1) b.stack)
      ∧ ((s.rights b.owner).inWindow (b.cue + 1) = false → exec (.dueEvent t) s = .next (settleIdle s
        (((s.stagedRun b.owner first count n).tellSkipped t b (s.runOf b.owner first count false).length).trackFaulted
          t b .windowEnd 13))))
    ∧ (CueRecord.cue (Memory.record s.cues b.cue) = .setFix (fixtureChannel f) levels n →
      (s.pausesAt b (b.cue + 1) →
        ((s.entry (fixtureChannel f)).hold.holder = some b.owner → exec (.dueEvent t) s = exec (.dueEvent t)
          ((s.setSlot (fixtureChannel f) (some (.colour levels (min n 1000)))).trackGoesOn t b due (b.cue + 1) b.stack))
        ∧ ((s.entry (fixtureChannel f)).hold.holder ≠ some b.owner → exec (.dueEvent t) s = exec (.dueEvent t)
          ((s.tellSkipped t b 1).trackGoesOn t b due (b.cue + 1) b.stack)))
      ∧ ((s.rights b.owner).inWindow (b.cue + 1) = true → s.takeRecord t b
        = (if (s.entry (fixtureChannel f)).hold.holder = some b.owner
          then s.setSlot (fixtureChannel f) (some (.colour levels (min n 1000))) else s.tellSkipped t b 1).takesAlong
            t b (b.cue + 1) b.stack)
      ∧ ((s.rights b.owner).inWindow (b.cue + 1) = false →
        ((s.entry (fixtureChannel f)).hold.holder = some b.owner → exec (.dueEvent t) s = .next (settleIdle s
          ((s.setSlot (fixtureChannel f) (some (.colour levels (min n 1000)))).trackFaulted t b .windowEnd 13)))
        ∧ ((s.entry (fixtureChannel f)).hold.holder ≠ some b.owner → exec (.dueEvent t) s = .next (settleIdle s
          ((s.tellSkipped t b 1).trackFaulted t b .windowEnd 13)))))
    ∧ (CueRecord.cue (Memory.record s.cues b.cue) = .setGain n →
      (s.pausesAt b (b.cue + 1) →
        ((s.entry audChannel).hold.holder = some b.owner → exec (.dueEvent t) s = exec (.dueEvent t)
          ((s.setSlot audChannel (some (.gain (min n 256)))).trackGoesOn t b due (b.cue + 1) b.stack))
        ∧ ((s.entry audChannel).hold.holder ≠ some b.owner → exec (.dueEvent t) s = exec (.dueEvent t)
          ((s.tellSkipped t b 1).trackGoesOn t b due (b.cue + 1) b.stack)))
      ∧ ((s.rights b.owner).inWindow (b.cue + 1) = true → s.takeRecord t b
        = (if (s.entry audChannel).hold.holder = some b.owner then s.setSlot audChannel (some (.gain (min n 256)))
          else s.tellSkipped t b 1).takesAlong t b (b.cue + 1) b.stack)
      ∧ ((s.rights b.owner).inWindow (b.cue + 1) = false →
        ((s.entry audChannel).hold.holder = some b.owner → exec (.dueEvent t) s = .next (settleIdle s
          ((s.setSlot audChannel (some (.gain (min n 256)))).trackFaulted t b .windowEnd 13)))
        ∧ ((s.entry audChannel).hold.holder ≠ some b.owner → exec (.dueEvent t) s = .next (settleIdle s
          ((s.tellSkipped t b 1).trackFaulted t b .windowEnd 13)))))
    ∧ (CueRecord.cue (Memory.record s.cues b.cue) = .setJet j n → (s.rights b.owner).inWindow (b.cue + 1) = false →
      ((s.entry (jetChannel j)).hold.holder = some b.owner → exec (.dueEvent t) s = .next (settleIdle s
        ((s.setSlot (jetChannel j) (some (.height (min n (s.config.jets.get j).hMax)))).trackFaulted t b .windowEnd 13)))
      ∧ ((s.entry (jetChannel j)).hold.holder ≠ some b.owner → exec (.dueEvent t) s = .next (settleIdle s
        ((s.tellSkipped t b 1).trackFaulted t b .windowEnd 13))))
    ∧ (CueRecord.cue (Memory.record s.cues b.cue) = .loop n until_ → b.stack.length < 6 →
      (s.rights b.owner).inWindow (b.cue + 1) = false → exec (.dueEvent t) s = .next (settleIdle s
        (s.trackFaulted t { b with stack := .loop (b.cue + 1) n until_ false :: b.stack } .windowEnd 13)))
    ∧ (CueRecord.cue (Memory.record s.cues b.cue) = .loopEnd → b.stack = .loop back n until_ seen :: rest →
      (n ≤ 1 ∨ (until_.isSome = true ∧ seen = true) → (s.rights b.owner).inWindow (b.cue + 1) = false →
        exec (.dueEvent t) s = .next (settleIdle s (s.trackFaulted t { b with stack := rest } .windowEnd 13)))
      ∧ (1 < n → until_.isNone = true ∨ seen = false → (s.rights b.owner).inWindow back = false →
        exec (.dueEvent t) s = .next (settleIdle s
          (s.trackFaulted t { b with stack := .loop back (n - 1) until_ false :: rest } .windowEnd 13))))
    ∧ (CueRecord.cue (Memory.record s.cues b.cue) = .return_ → b.stack = .call back :: rest →
      (s.rights b.owner).inWindow back = false →
      exec (.dueEvent t) s = .next (settleIdle s (s.trackFaulted t { b with stack := rest } .windowEnd 13)))

/-- Which due events are taken, and when: a RUNNING track owes one where the clock is RUNNING and has reached the value at
which it falls due; DUE_EVENT takes it, and directly after it each one whose next_due the event before set at or below the
clock's value, so that none is then owed (R57). An action that advances the clock takes first what the tracks owe, in
ascending track number. That an owed due event waits for its command until then, and the order of the tracks, are the model's
choice (logs 2, 4); the idle condition is evaluated once (log 23). -/
def Obligations.DueEventsInTurn : Prop :=
  ∀ (s : State) (t k : Fin 4) (due : Nat),
    (s.dueNow t = some due ↔ s.clock.run = .running
      ∧ ∃ b ∈ (s.track t).toList, b.phase.items.1 = some due ∧ ∃ at_ ∈ b.phase.dueAt.toList, at_ ≤ s.clock.value)
    ∧ exec (.dueEvent t) s = .next (settleIdle s (s.takeDue t))
    ∧ (s.dueNow t = none → s.takeDue t = s)
    ∧ (s.dueNow t ≠ none → s.takeDue t = (s.dueEvent t).takeDue t)
    ∧ (s.takeDue t).dueNow t = none
    ∧ s.takeOwed = (((s.takeDue 0).takeDue 1).takeDue 2).takeDue 3
    ∧ s.takeOwed.dueNow k = none
    ∧ s.takeOwed.clock = s.clock

/-- A chain of SET_GAIN records of delta 0 longer than 32: the due event takes 32 of them and faults RUNAWAY at the 33rd, the
gain of the 32nd staged where the owner holds AUD (R57, R58). The value at which the due event falls due is the model's own field
(log 4). -/
def Obligations.DueEventStopsAt32Records : Prop :=
  ∀ (s : State) (t : Fin 4) (b : TrackBody) (g : Nat → Nat) (due at_ : Nat), s.track t = some b →
    b.phase = .running due at_ → s.clock.run = .running → at_ ≤ s.clock.value →
    (∀ i, i ≤ 32 → (s.rights b.owner).inWindow (b.cue + i) = true
      ∧ CueRecord.cue (Memory.record s.cues (b.cue + i)) = .setGain (g i)
      ∧ (0 < i → CueRecord.delta (Memory.record s.cues (b.cue + i)) = 0)) →
    ∃ u, exec (.dueEvent t) s = .next u
      ∧ u.track t = some ⟨b.owner, b.cue + 32, b.stack, ⟨false, false, false⟩, .faulted .runaway⟩
      ∧ (u.entry audChannel).slot = if (s.entry audChannel).hold.holder = some b.owner
          then some (.gain (min (g 31) 256)) else (s.entry audChannel).slot

/-- A due event touches its own track, the staged slots of channels the owner holds, the notices and lost-notice flags and the
idle timer, and nothing else; a track still RUNNING after it has a later next_due (R57, R58). The value at which it falls due
is the model's own field (log 4), and that nothing changes with no due event owed is the model's choice (log 3). -/
def Obligations.DueEventTouchesOwnHoldings : Prop :=
  ∀ (s : State) (p : Port) (t k : Fin 4) (b : TrackBody) (ch : Fin 177) (due at_ : Nat), s.track t = some b →
    (s.clock.run ≠ .running → exec (.dueEvent t) s = .next s)
    ∧ (trackName (s.track t) ≠ .running → exec (.dueEvent t) s = .next s)
    ∧ (b.phase = .running due at_ → s.clock.value < at_ → exec (.dueEvent t) s = .next s)
    ∧ (b.phase = .running due at_ → s.clock.run = .running → at_ ≤ s.clock.value →
      ∃ u, exec (.dueEvent t) s = .next u
        ∧ u = { s with
            directory := ⟨u.directory.entries, s.directory.waiters, s.directory.arrivals⟩
            tracks := u.tracks
            ports := u.ports
            unit := ⟨s.unit.mode, u.unit.idleDeadline, s.unit.saving, s.unit.outcome⟩ }
        ∧ (u.port p).state = (s.port p).state ∧ (u.port p).error = (s.port p).error
        ∧ (u.port p).resetHeld = (s.port p).resetHeld
        ∧ (k ≠ t → u.track k = s.track k)
        ∧ u.entry ch = ⟨(s.entry ch).hold, (s.entry ch).watchers, (u.entry ch).slot⟩
        ∧ ((s.entry ch).hold.holder ≠ some b.owner → u.entry ch = s.entry ch)
        ∧ (∀ c ∈ (u.track t).toList, ∀ d ∈ c.phase.items.1.toList, due < d))

/-- Every step keeps the cue store's bytes in canonical form and every record of it valid (R43, R46, R48), and keeps each track's
stack within 6 frames and its cue index within its owner's window, with every track IDLE in SETUP (R51, R65). -/
def Obligations.StepKeepsStoreAndTracksSound : Prop :=
  ∀ (s t : State), step s = .next t → (s.StoreSound → t.StoreSound) ∧ (s.TracksSound → t.TracksSound)

/-- Every step keeps a started clock STALLED exactly while it has a stall reason and FREEZE one exactly while a freeze is in
effect (04 R67); and with that no RUNNING track is due before its next_due, and none owes a due event while the clock stands
still, so that a stall loses none (R57, 04 R72). The value at which a due event falls due is the model's own field (log 4). -/
def Obligations.StepKeepsDueEventsSound : Prop :=
  ∀ (s t : State), s.StallsSound → step s = .next t → t.StallsSound ∧ (s.DueSound → t.DueSound)

/-! ## The show clock and the audio stream (04) -/

/-- CLOCK_RUN: the source code, the checks of R69 in order, then the clock starts from the source and the start point, meeting
the range end or an underrun where one stands (R67, R69, R70, R79 to R82). CLOCK_STOP (R71). That the audio output is silence
from the CLOCK_RUN to the next frame period is the model's choice (log 20), and the idle condition is evaluated once after the
change, the model's reading (log 23). -/
def Obligations.ClockRunAndStop : Prop :=
  ∀ (s : State) (p : Port) (tag src : U8) (start : U32), s.portReady p →
    (src.val = 0 ∨ 2 < src.val → exec (.clockRun p tag src start) s = .next (s.refusal p 0x30 tag .outOfRange 1 0 0))
    ∧ (src.val = 1 ∨ src.val = 2 →
      (s.audHolder ≠ some p → exec (.clockRun p tag src start) s = .next (s.refused p 0x30 tag .notHolder))
      ∧ (s.audHolder = some p →
        (s.unit.mode ≠ .live → exec (.clockRun p tag src start) s = .next (s.refused p 0x30 tag .wrongMode))
        ∧ (s.unit.mode = .live → s.safety.state ≠ .normal →
          exec (.clockRun p tag src start) s = .next (s.refused p 0x30 tag .wrongState))
        ∧ (s.unit.mode = .live → s.safety.state = .normal → s.anyTrackMoves = true →
          exec (.clockRun p tag src start) s = .next (s.refused p 0x30 tag .busy))))
    ∧ (s.audHolder = some p → s.unit.mode = .live → s.safety.state = .normal → s.anyTrackMoves = false →
      exec (.clockRun p tag 1 start) s = .next ((settleIdle s (s.setClock
        { s.clock with
          value := start, run := if s.clock.freeze then .stalled else .running, source := .internal
          underrun := false, coasting := false, output := ⟨0, 0⟩ })).ok p 0x30 tag)
      ∧ (s.clock.freeze = true → exec (.clockRun p tag 2 start) s = .next ((settleIdle s (s.setClock
        ({ s.clock with run := .stalled, source := .audio, underrun := false, coasting := false
                        output := ⟨0, 0⟩ }.atPosition start (queueFrom s.clock.queue start)))).ok p 0x30 tag))
      ∧ (s.clock.freeze = false →
        (start.val < 4294967295 → queueFrom s.clock.queue start ≠ [] →
          exec (.clockRun p tag 2 start) s = .next ((settleIdle s (s.setClock
            ({ s.clock with run := .running, source := .audio, underrun := false, coasting := false
                            output := ⟨0, 0⟩ }.atPosition start (queueFrom s.clock.queue start)))).ok p 0x30 tag))
        ∧ (start.val = 4294967295 →
          exec (.clockRun p tag 2 start) s = .next ((settleIdle s ((s.setClock
            ({ s.clock with source := .audio, output := ⟨0, 0⟩ }.heldUp.atPosition start (queueFrom s.clock.queue start))).post
              p .underrun 176 2)).ok p 0x30 tag))
        ∧ (start.val < 4294967295 → queueFrom s.clock.queue start = [] →
          (s.config.global.policy = .coast → exec (.clockRun p tag 2 start) s = .next ((settleIdle s ((s.setClock
            ({ s.clock with run := .running, source := .audio, underrun := false, output := ⟨0, 0⟩
                            }.goneCoasting.atPosition start [])).post p .underrun 176 0)).ok p 0x30 tag))
          ∧ (s.config.global.policy = .stall → exec (.clockRun p tag 2 start) s = .next ((settleIdle s ((s.setClock
            ({ s.clock with source := .audio, output := ⟨0, 0⟩ }.heldUp.atPosition start [])).post
              p .underrun 176 1)).ok p 0x30 tag)))))
    ∧ (s.audHolder ≠ some p → exec (.clockStop p tag) s = .next (s.refused p 0x31 tag .notHolder))
    ∧ (s.audHolder = some p → s.anyTrackMoves = true → exec (.clockStop p tag) s = .next (s.refused p 0x31 tag .busy))
    ∧ (s.audHolder = some p → s.anyTrackMoves = false → exec (.clockStop p tag) s = .next ((settleIdle s (s.setClock
        { s.clock with run := .stopped, underrun := false, coasting := false, output := ⟨0, 0⟩ })).ok p 0x31 tag))

/-- AUDIO_BLOCK: the length of its body (10 R171), the checks of R74 in order, the trim of a block that begins before the
bound of lateness (R75), the answer with the frames trimmed and whether the marker went, and the end of an underrun (R80,
R81). Coasting that ends with the block is the model's reading (log 13). -/
def Obligations.AudioBlock : Prop :=
  ∀ (s : State) (p : Port) (tag count marker offset : U8) (start : U32) (reserved : List Byte)
    (frames : List (Sample × Sample)), s.portReady p →
    (reserved.length ≠ 9 ∨ frames.length ≠ (if count.val = 0 then 256 else count.val) →
      exec (.audioBlock p tag start count marker offset reserved frames) s = .next (s.refused p 0x32 tag .badRequest))
    ∧ (reserved.length = 9 → frames.length = (if count.val = 0 then 256 else count.val) →
    ((marker.val = 0 ∧ offset.val ≠ 0 ∨ marker.val ≠ 0 ∧ frames.length ≤ offset.val ∨ (∃ b ∈ reserved, b ≠ 0)
        ∨ 4294967295 < start.val + frames.length →
      exec (.audioBlock p tag start count marker offset reserved frames) s = .next (s.refused p 0x32 tag .outOfRange))
    ∧ ((marker.val = 0 → offset.val = 0) → (marker.val ≠ 0 → offset.val < frames.length) → (∀ b ∈ reserved, b = 0) →
      start.val + frames.length ≤ 4294967295 →
      (s.unit.mode = .setup →
        exec (.audioBlock p tag start count marker offset reserved frames) s = .next (s.refused p 0x32 tag .wrongMode))
      ∧ (s.unit.mode ≠ .setup →
        (s.audHolder ≠ some p →
          exec (.audioBlock p tag start count marker offset reserved frames) s
            = .next (s.refused p 0x32 tag .notHolder))
        ∧ (s.audHolder = some p → 48 ≤ s.clock.queue.length →
          exec (.audioBlock p tag start count marker offset reserved frames) s = .next (s.refused p 0x32 tag .full))
        ∧ (s.audHolder = some p → s.clock.queue.length < 48 →
          (start.val + frames.length ≤ s.clock.lateBound →
            exec (.audioBlock p tag start count marker offset reserved frames) s = .next (s.refused p 0x32 tag .late))
          ∧ (s.clock.lateBound < start.val + frames.length →
            (s.clock.underrun = false → s.clock.coasting = false →
              exec (.audioBlock p tag start count marker offset reserved frames) s = .next
                ((s.setClock { s.clock with
                  queue := s.clock.queue ++ [arriving s.clock.lateBound start marker offset frames] }).answered p 0x32 tag
                  .ok (.audioTaken (s.clock.lateBound - start)
                    (decide (marker.val ≠ 0 ∧ start.val + offset.val < s.clock.lateBound)))))
            ∧ (s.clock.underrun = true →
              exec (.audioBlock p tag start count marker offset reserved frames) s = .next
                ((settleIdle s ((s.setClock { s.clock with
                  underrun := false
                  run := if s.clock.run = .stopped then .stopped else if s.clock.freeze then .stalled else .running
                  queue := s.clock.queue ++ [arriving s.clock.lateBound start marker offset frames] }).post
                    p .audioResumed 176 1)).answered p 0x32 tag .ok (.audioTaken (s.clock.lateBound - start)
                    (decide (marker.val ≠ 0 ∧ start.val + offset.val < s.clock.lateBound)))))
            ∧ (∀ h ∈ s.clock.queue.head?.toList, s.clock.underrun = false → s.clock.coasting = true →
              (s.clock.position < h.start →
                exec (.audioBlock p tag start count marker offset reserved frames) s = .next ((s.setClock { s.clock with
                  queue := s.clock.queue ++ [arriving s.clock.lateBound start marker offset frames] }).answered p 0x32 tag
                  .ok (.audioTaken (s.clock.lateBound - start)
                    (decide (marker.val ≠ 0 ∧ start.val + offset.val < s.clock.lateBound)))))
              ∧ (h.start ≤ s.clock.position →
                exec (.audioBlock p tag start count marker offset reserved frames) s = .next (((s.setClock { s.clock with
                  coasting := false
                  queue := s.clock.queue ++ [arriving s.clock.lateBound start marker offset frames] }).post
                    p .audioResumed 176 0).answered p 0x32 tag .ok (.audioTaken (s.clock.lateBound - start)
                    (decide (marker.val ≠ 0 ∧ start.val + offset.val < s.clock.lateBound))))))
            ∧ (s.clock.underrun = false → s.clock.coasting = true → s.clock.queue = [] →
              s.clock.position < start.val →
              exec (.audioBlock p tag start count marker offset reserved frames) s = .next
                ((s.setClock { s.clock with
                  queue := [arriving s.clock.position start marker offset frames] }).answered p 0x32 tag .ok
                  (.audioTaken 0 false)))
            ∧ (s.clock.underrun = false → s.clock.coasting = true → s.clock.queue = [] →
              start.val ≤ s.clock.position →
              exec (.audioBlock p tag start count marker offset reserved frames) s = .next
                (((s.setClock { s.clock with
                  coasting := false
                  queue := [arriving s.clock.position start marker offset frames] }).post p .audioResumed 176 0).answered
                    p 0x32 tag .ok (.audioTaken (s.clock.position - start)
                    (decide (marker.val ≠ 0 ∧ start.val + offset.val < s.clock.position)))))))))))

/-- The bound of lateness is the queue end, or the play position when the queue is empty (R73, R75). CLOCK_TICK advances a
RUNNING internal clock by 1, up to 4294967295 (R72). COAST_TICK moves the play position by 48 frames, drops and trims the
blocks passed, and ends coasting at a block, or stops at the range end (R72, R79, R80). The due events owed from an arrival
before come first, and those of the arrival at the range end before the stall (03 R57, R72): the model's reading (log 4).
Where the clock is not so, neither has an effect: the model's choice (log 3). -/
def Obligations.ClockTicks : Prop :=
  ∀ (s : State) (b : Block),
    (s.clock.queue = [] → s.clock.lateBound = s.clock.position)
    ∧ (s.clock.queue.getLast? = some b → s.clock.lateBound = b.start + b.frames.length)
    ∧ (s.clock.run = .running → s.clock.source = .internal →
      (s.clock.value < 4294967295 →
        exec .clockTick s = .next (settleIdle s (s.takeOwed.setClock { s.clock with value := s.clock.value + 1 })))
      ∧ (4294967295 ≤ s.clock.value → exec .clockTick s = .next s))
    ∧ (s.clock.run ≠ .running ∨ s.clock.source ≠ .internal → exec .clockTick s = .next s)
    ∧ (s.clock.run ≠ .running ∨ s.clock.source ≠ .audio ∨ s.clock.coasting = false → exec .coastTick s = .next s)
    ∧ (s.clock.run = .running → s.clock.source = .audio → s.clock.coasting = true →
      (4294967295 ≤ s.clock.position + 48 → exec .coastTick s = .next (settleIdle s
        (((s.takeOwed.setClock (s.clock.atPosition 4294967295 (queueFrom s.clock.queue 4294967295))).takeOwed.setClock
          (s.clock.heldUp.atPosition 4294967295 (queueFrom s.clock.queue 4294967295))).postAud .underrun 2)))
      ∧ (s.clock.position + 48 < 4294967295 →
        ((∀ x ∈ (queueFrom s.clock.queue (s.clock.position + 48)).head?.toList, s.clock.position + 48 < x.start) →
          exec .coastTick s = .next (settleIdle s (s.takeOwed.setClock (s.clock.atPosition (s.clock.position + 48)
            (queueFrom s.clock.queue (s.clock.position + 48))))))
        ∧ ((∃ x ∈ (queueFrom s.clock.queue (s.clock.position + 48)).head?.toList, x.start ≤ s.clock.position + 48) →
          exec .coastTick s = .next (settleIdle s ((s.takeOwed.setClock
            ({ s.clock with coasting := false }.atPosition (s.clock.position + 48)
              (queueFrom s.clock.queue (s.clock.position + 48)))).postAud .audioResumed 0)))))

/-- One frame period of the audio output (R76): silence while the clock is not playing or coasts; otherwise the frame at the
play position, scaled by the active gain, or silence in a gap, and then the play position moved on by 1. AUD's staged gain is
taken up at a block boundary (R77), and coasting that has reached a block ends here, the model's reading (log 13). Where the
move comes to the range end or empties the queue, the frame put out stands and the range end or the underrun follows (R79 to
R81): that it stands to the next frame period is the model's reading (log 20). Due events owed before the move, and those of
the arrival that stalls, are taken first: the model's reading (log 4). A frame period is a command: the model's choice (log 19). -/
def Obligations.AudioFrame : Prop :=
  ∀ (s : State) (b : Block),
    (s.clock.run ≠ .running ∨ s.clock.source ≠ .audio →
      exec .audioFrame s = .next (s.setClock { s.clock with output := ⟨0, 0⟩ }))
    ∧ (s.clock.run = .running → s.clock.source = .audio →
      (s.clock.coasting = true → (∀ x ∈ s.clock.queue.head?.toList, s.clock.position < x.start) →
        exec .audioFrame s = .next (s.setClock { s.clock with output := ⟨0, 0⟩ }))
      ∧ (s.clock.coasting = true → s.clock.queue.head? = some b → b.start ≤ s.clock.position →
        exec .audioFrame s
          = exec .audioFrame ((s.setClock { s.clock with coasting := false }).postAud .audioResumed 0))
      ∧ (s.clock.coasting = false → s.clock.queue.head? = some b →
        (s.clock.position < b.start →
          exec .audioFrame s = .next (settleIdle s (s.setClock { s.clock with output := ⟨0, 0⟩ }).movePlay))
        ∧ (b.start ≤ s.clock.position → (∀ m ∈ b.marker.toList, m.position ≠ s.clock.position) →
          exec .audioFrame s = .next (settleIdle s ((s.atBoundary b).putOut b).movePlay))))
    ∧ (s.clock.position + 1 < 4294967295 → queuePast s.clock.queue (s.clock.position + 1) ≠ [] →
      s.movePlay = s.takeOwed.setClock (s.clock.atPosition (s.clock.position + 1)
        (queuePast s.clock.queue (s.clock.position + 1))))
    ∧ (s.clock.position + 1 = 4294967295 → s.movePlay =
      ((s.takeOwed.setClock (s.clock.atPosition 4294967295 (queuePast s.clock.queue 4294967295))).takeOwed.setClock
        (s.clock.heldUp.atPosition 4294967295 (queuePast s.clock.queue 4294967295))).postAud .underrun 2)
    ∧ (s.clock.position + 1 < 4294967295 → queuePast s.clock.queue (s.clock.position + 1) = [] →
      (s.config.global.policy = .coast → s.movePlay =
        ((s.takeOwed.setClock (s.clock.atPosition (s.clock.position + 1) [])).takeOwed.setClock
          (s.clock.goneCoasting.atPosition (s.clock.position + 1) [])).postAud .underrun 0)
      ∧ (s.config.global.policy = .stall → s.movePlay =
        ((s.takeOwed.setClock (s.clock.atPosition (s.clock.position + 1) [])).takeOwed.setClock
          { s.clock.atPosition (s.clock.position + 1) [] with run := .stalled, underrun := true }).postAud
            .underrun 1))

/-- A marker passes where the frame at its position is put out: its log entry, of which the last 8 are kept (R78), and then
the tracks in one action (03 R59): a wait for it ends, RUNNING at k and the delta of the record at the cue index or PAUSED
with that delta, with TRACK_STATE carrying k; and every loop of a RUNNING, WAITING or PAUSED track that waits for it has its
seen flag set. The due event of a track released at a delta of 0 follows directly (03 R57). The value at which a due event
falls due is the model's own field (log 4), and the ascending order of the tracks is the model's choice (log 32). -/
def Obligations.MarkerPassage : Prop :=
  ∀ (s u : State) (b : Block) (m : Marker) (t : Fin 4) (c : TrackBody) (id k back n : Nat) (until_ : Option Nat)
    (seen : Bool),
    (s.clock.run = .running → s.clock.source = .audio → s.clock.coasting = false → s.clock.queue.head? = some b →
      b.marker = some m → m.position = s.clock.position → b.start ≤ s.clock.position →
      u = (s.atBoundary b).putOut b → exec .audioFrame s = .next (settleIdle s
        (State.movePlay ((u.setClock { u.clock with log := if s.clock.log.length < 8
            then s.clock.log ++ [⟨m.id, s.clock.position / 48⟩]
            else s.clock.log.tail ++ [⟨m.id, s.clock.position / 48⟩] }).passage m.id (s.clock.position / 48)))))
    ∧ s.passage id k = s.dueAtOnce (s.dueAtOnce (s.dueAtOnce (s.dueAtOnce (s.markerPassage id k) 0) 1) 2) 3
    ∧ (s.dueNow t = none → s.dueAtOnce u t = u.takeDue t) ∧ (s.dueNow t ≠ none → s.dueAtOnce u t = u)
    ∧ s.markerPassage id k = { s with tracks := (s.markerPassage id k).tracks, ports := (s.markerPassage id k).ports }
    ∧ (s.track t = none → (s.markerPassage id k).track t = none)
    ∧ (s.track t = some c →
      (c.phase = .waiting id →
        (c.reasons = ⟨false, false, false⟩ → (s.markerPassage id k).track t = some ⟨c.owner, c.cue,
            c.stack.map (markSeen id), c.reasons, s.runningAt (k + CueRecord.delta (Memory.record s.cues c.cue))⟩
          ∧ (s.markerPassage id k).told c.owner ⟨.trackState, t, 2, k, .none⟩)
        ∧ (c.reasons.owner = true ∨ c.reasons.freeze = true ∨ c.reasons.safety = true →
          (s.markerPassage id k).track t = some ⟨c.owner, c.cue, c.stack.map (markSeen id), c.reasons,
            .paused (CueRecord.delta (Memory.record s.cues c.cue))⟩
          ∧ (s.markerPassage id k).told c.owner ⟨.trackState, t, 4, k, .none⟩))
      ∧ (trackName (some c) = .running ∨ trackName (some c) = .paused ∨ (trackName (some c) = .waiting
          ∧ c.phase ≠ .waiting id) → (s.markerPassage id k).track t
            = some ⟨c.owner, c.cue, c.stack.map (markSeen id), c.reasons, c.phase⟩)
      ∧ (c.phase = .armed ∨ trackName (some c) = .faulted → (s.markerPassage id k).track t = s.track t))
    ∧ markSeen id (.loop back n until_ seen) = .loop back n until_ (seen || decide (until_ = some id))
    ∧ markSeen id (.call back) = .call back

/-- Every step keeps the block queue and the audio clock sound (R67, R69, R73, R79), and from such a state the show clock does not
decrease while any track is RUNNING or WAITING after it (R72). -/
def Obligations.StepKeepsClockSoundAndMonotone : Prop :=
  ∀ (s t : State), s.ClockSound → step s = .next t →
    t.ClockSound ∧ (t.anyTrackMoves = true → s.clock.value ≤ t.clock.value)

/-! ## The frame event (05, 06) -/

/-- A FRAME_EVENT at the frame timer's expiry reloads the timer with the frame period and touches nothing outside the parts of
the frame event (05 R86, R87, 07 R121); the indications it settles are those of R103, and STOPPING becomes STOPPED where both
hold (08 R146). That an ONLINE drive that reports a fault is at rest whatever speed it reports is the model's reading (log
33). Before the expiry it has no effect: the model's choice (log 3). -/
def Obligations.FrameEventTouchesOwnParts : Prop :=
  ∀ (s : State) (p : Port) (ch : Fin 177) (r : RunningSweep),
    (s.now < s.shaper.frameDue → exec .frameEvent s = .next s)
    ∧ (s.shaper.frameDue ≤ s.now → ∃ t, exec .frameEvent s = .next t
      ∧ t.shaper.frameDue = s.now + s.config.global.framePeriod
      ∧ (t.now = s.now ∧ t.pending = s.pending ∧ t.range = s.range ∧ t.cues = s.cues ∧ t.config = s.config
        ∧ t.image = s.image)
      ∧ (t.unit.mode = s.unit.mode ∧ t.unit.saving = s.unit.saving ∧ t.unit.outcome = s.unit.outcome)
      ∧ (t.directory.waiters = s.directory.waiters ∧ t.directory.arrivals = s.directory.arrivals)
      ∧ t.entry ch = ⟨(s.entry ch).hold, (s.entry ch).watchers, (t.entry ch).slot⟩
      ∧ (ch = audChannel → t.entry ch = s.entry ch)
      ∧ ((t.port p).state = (s.port p).state ∧ (t.port p).error = (s.port p).error
        ∧ (t.port p).resetHeld = (s.port p).resetHeld)
      ∧ t.safety = { s.safety with state := t.safety.state, freeze := t.safety.freeze }
      ∧ (t.shaper.outputsAtRest = true ↔ (∀ j : Fin 128, (t.jets.get j).valve = 0)
        ∧ ∀ h : Fin 16, (s.config.headers.get h).enabled = true → (t.headers.get h).commanded = 0)
      ∧ (t.shaper.pumpsAtRest = true ↔ ∀ h : Fin 16, (s.config.headers.get h).enabled = true →
        (t.headers.get h).actual = 0 ∨ (s.node (s.config.headers.get h).driveNode).state ≠ .online)
      ∧ (s.safety.state ≠ .stopping → t.safety.state = s.safety.state)
      ∧ (s.safety.state = .stopping →
        (t.shaper.outputsAtRest = true → t.shaper.pumpsAtRest = true →
          t.safety.state = .stopped ∧ t.told p ⟨.safetyState, 255, 5, t.clock.value, .none⟩)
        ∧ (t.shaper.outputsAtRest = false ∨ t.shaper.pumpsAtRest = false → t.safety.state = .stopping))
      ∧ (s.sweep.running = some r → t.nodes = s.nodes ∧ t.sweep =
        if s.sweep.pending then { s.sweep with overrun := true } else { s.sweep with pending := true }))

/-- Each jet at a FRAME_EVENT: the commit of its staged height (R94), its target under the wind ceiling (R95), its curve
opening and flow (R96), the scale of its header (R99), its valve slew (R101) and its follow level (R102). A target of 0 gives
opening and flow 0: log 12. -/
def Obligations.FrameEventJets : Prop :=
  ∀ (s : State) (j : Fin 128) (cm : Nat), s.shaper.frameDue ≤ s.now → ∃ t, exec .frameEvent s = .next t
    ∧ ((s.entry (jetChannel j)).hold = .safed → (t.jets.get j).commanded = 0)
    ∧ ((s.entry (jetChannel j)).hold ≠ .safed →
      (s.unit.mode = .live → t.frozen = false → (s.entry (jetChannel j)).slot = some (.height cm) →
        (t.jets.get j).commanded = cm ∧ (t.entry (jetChannel j)).slot = none)
      ∧ (s.unit.mode ≠ .live ∨ t.frozen = true ∨ (s.entry (jetChannel j)).slot = none →
        (t.jets.get j).commanded = (s.jets.get j).commanded ∧ t.entry (jetChannel j) = s.entry (jetChannel j)))
    ∧ ((s.config.jets.get j).enabled = false →
      t.jets.get j = ⟨(t.jets.get j).commanded, 0, 0, 0, 0, 0, 0, 0⟩)
    ∧ ((s.config.jets.get j).enabled = true →
      ((s.entry (jetChannel j)).hold = .safed ∨ (s.safety.wind = .windStop ∧ 0 < (s.config.jets.get j).exposure)
          ∨ s.unit.mode ≠ .live → (t.jets.get j).target = 0)
      ∧ ((s.entry (jetChannel j)).hold ≠ .safed → s.safety.wind ≠ .windStop ∨ (s.config.jets.get j).exposure = 0 →
        s.unit.mode = .live → (t.jets.get j).target = min (t.jets.get j).commanded
          ((s.config.jets.get j).hMax * (256 - (s.config.jets.get j).exposure
            * min (s.safety.gust - s.config.global.wCalm) 150 * 16 / 150) / 256))
      ∧ ((t.jets.get j).target = 0 → (t.jets.get j).opening = 0 ∧ (t.jets.get j).flow = 0)
      ∧ (0 < (t.jets.get j).target → (t.jets.get j).target = (s.config.jets.get j).hMax →
        (t.jets.get j).opening = (s.config.jets.get j).openings.get 8
          ∧ (t.jets.get j).flow = (s.config.jets.get j).flows.get 8)
      ∧ (∀ k : Fin 8, 0 < (t.jets.get j).target →
        k.val * (s.config.jets.get j).hMax ≤ (t.jets.get j).target * 8 →
        (t.jets.get j).target * 8 < (k.val + 1) * (s.config.jets.get j).hMax →
        (t.jets.get j).opening = (s.config.jets.get j).openings.get k.castSucc
            + ((s.config.jets.get j).openings.get k.succ - (s.config.jets.get j).openings.get k.castSucc)
              * ((t.jets.get j).target * 8 - k.val * (s.config.jets.get j).hMax) / (s.config.jets.get j).hMax
          ∧ (t.jets.get j).flow = (s.config.jets.get j).flows.get k.castSucc
            + ((s.config.jets.get j).flows.get k.succ - (s.config.jets.get j).flows.get k.castSucc)
              * ((t.jets.get j).target * 8 - k.val * (s.config.jets.get j).hMax) / (s.config.jets.get j).hMax)
      ∧ (t.jets.get j).scaled = (t.jets.get j).opening * (t.headers.get (s.config.jets.get j).header).scale / 4096
      ∧ (t.jets.get j).granted = (t.jets.get j).flow * (t.headers.get (s.config.jets.get j).header).scale / 4096
      ∧ (t.jets.get j).valve = movedToward (s.jets.get j).valve (t.jets.get j).scaled (s.config.jets.get j).up
        (s.config.jets.get j).down
      ∧ (0 < (s.config.jets.get j).openings.get 8 → (t.jets.get j).follow
        = min ((t.jets.get j).valve * 256 / (s.config.jets.get j).openings.get 8) 256))

/-- Each header at a FRAME_EVENT: demand, pump target and ramp (R97), actual speed and available flow (R98), scale and granted flow,
which never exceeds the available flow (R99), and state, with HEADER_STATE to each port that holds one of its jets where the state
changes (R100). A disabled header keeps its record (R91). -/
def Obligations.FrameEventHeaders : Prop :=
  ∀ (s : State) (h : Fin 16) (j : Fin 128) (p : Port) (fb : DriveFeedback), s.shaper.frameDue ≤ s.now →
    ∃ t, exec .frameEvent s = .next t
    ∧ ((s.config.headers.get h).enabled = false → t.headers.get h = s.headers.get h)
    ∧ ((s.config.headers.get h).enabled = true →
      (t.headers.get h).demand = (((Table.indices 128).filter fun j =>
        (s.config.jets.get j).enabled && (s.config.jets.get j).header == h).map fun j => (t.jets.get j).flow).sum
      ∧ (s.safety.state ≠ .normal ∨ (s.node (s.config.headers.get h).driveNode).state ≠ .online
          ∨ (t.headers.get h).demand = 0 → (t.headers.get h).target = 0)
      ∧ (s.safety.state = .normal → (s.node (s.config.headers.get h).driveNode).state = .online →
        0 < (t.headers.get h).demand → (t.headers.get h).target
          = min (max (((t.headers.get h).demand * 1000 + (s.config.headers.get h).qMax - 1)
            / (s.config.headers.get h).qMax) (s.config.headers.get h).sMin) 1000)
      ∧ (t.headers.get h).commanded = movedToward (s.headers.get h).commanded (t.headers.get h).target
        (s.config.headers.get h).rampUp (s.config.headers.get h).rampDown
      ∧ ((s.node (s.config.headers.get h).driveNode).state ≠ .online →
        (t.headers.get h).actual = 0 ∧ (t.headers.get h).state = .pumpLost)
      ∧ ((s.node (s.config.headers.get h).driveNode).state = .online →
        ((s.node (s.config.headers.get h).driveNode).drive = some fb →
          (t.headers.get h).actual = if fb.fault then 0 else min fb.speed 1000)
        ∧ (t.headers.get h).state = if (t.headers.get h).scale < 4096 then .saturated else .normal)
      ∧ (t.headers.get h).available = (s.config.headers.get h).qMax * (t.headers.get h).actual / 1000
      ∧ (t.headers.get h).scale = (if (t.headers.get h).available < (t.headers.get h).demand
          then (t.headers.get h).available * 4096 / (t.headers.get h).demand else 4096)
      ∧ (t.headers.get h).granted = (((Table.indices 128).filter fun j =>
        (s.config.jets.get j).enabled && (s.config.jets.get j).header == h).map fun j =>
          (t.jets.get j).flow * (t.headers.get h).scale / 4096).sum
      ∧ (t.headers.get h).granted ≤ (t.headers.get h).available
      ∧ ((t.headers.get h).state ≠ (s.headers.get h).state → (s.config.jets.get j).enabled = true →
        (s.config.jets.get j).header = h → (s.entry (jetChannel j)).hold.holder = some p →
        t.told p ⟨.headerState, h, if (t.headers.get h).state = .normal then 0
          else if (t.headers.get h).state = .saturated then 1 else 2, t.clock.value, .none⟩))

/-- Each fixture at a FRAME_EVENT: the commit (R110), the fade step (R111), following (R112) and the first case of R113 that holds;
its record is the one FIXTURE_STATUS reports (R117). -/
def Obligations.FrameEventFixtures : Prop :=
  ∀ (s : State) (f : Fin 48) (j : Fin 128) (levels : Rgbw) (n : Nat), s.shaper.frameDue ≤ s.now →
    ∃ t, exec .frameEvent s = .next t
    ∧ t.fixtureReport = t.fixtures
    ∧ ((s.entry (fixtureChannel f)).hold = .safed → t.fixtures.get f = { t.fixtures.get f with
        start := ⟨0, 0, 0, 0⟩, target := ⟨0, 0, 0, 0⟩, colour := ⟨0, 0, 0, 0⟩, length := 0, step := 0 })
    ∧ ((s.entry (fixtureChannel f)).hold ≠ .safed →
      (s.unit.mode = .live → t.frozen = false → (s.entry (fixtureChannel f)).slot = some (.colour levels n) →
        (t.entry (fixtureChannel f)).slot = none
        ∧ (n = 0 → t.fixtures.get f = { t.fixtures.get f with
            start := (s.fixtures.get f).colour, target := levels, colour := levels, length := 0, step := 0 })
        ∧ (0 < n → t.fixtures.get f = { t.fixtures.get f with
            start := (s.fixtures.get f).colour, target := levels, length := n, step := 1
            colour := fadePointOf (s.fixtures.get f).colour levels 1 n }))
      ∧ (s.unit.mode = .live → t.frozen = false → (s.entry (fixtureChannel f)).slot = none →
        t.fixtures.get f = { t.fixtures.get f with
          start := (s.fixtures.get f).start, target := (s.fixtures.get f).target, length := (s.fixtures.get f).length
          step := if (s.fixtures.get f).step < (s.fixtures.get f).length then (s.fixtures.get f).step + 1
            else (s.fixtures.get f).step
          colour := if (s.fixtures.get f).step < (s.fixtures.get f).length
            then fadePointOf (s.fixtures.get f).start (s.fixtures.get f).target ((s.fixtures.get f).step + 1)
              (s.fixtures.get f).length else (s.fixtures.get f).colour })
      ∧ (s.unit.mode ≠ .live ∨ t.frozen = true → t.entry (fixtureChannel f) = s.entry (fixtureChannel f)
        ∧ t.fixtures.get f = { t.fixtures.get f with
          start := (s.fixtures.get f).start, target := (s.fixtures.get f).target, length := (s.fixtures.get f).length
          step := (s.fixtures.get f).step, colour := (s.fixtures.get f).colour }))
    ∧ (s.unit.mode = .setup → (t.fixtures.get f).output = ⟨0, 0, 0, 0⟩ ∧ (t.fixtures.get f).basis = .mode)
    ∧ (s.unit.mode ≠ .setup →
      ((s.config.fixtures.get f).enabled = false →
        (t.fixtures.get f).output = ⟨0, 0, 0, 0⟩ ∧ (t.fixtures.get f).basis = .disabled)
      ∧ ((s.config.fixtures.get f).enabled = true →
        (Cause.level ∈ s.safety.causes → (t.fixtures.get f).output = ⟨0, 0, 0, 0⟩ ∧ (t.fixtures.get f).basis = .level)
        ∧ (Cause.level ∉ s.safety.causes →
          (s.safety.state ≠ .normal → (t.fixtures.get f).output = ⟨s.config.global.whiteLevel,
              s.config.global.whiteLevel, s.config.global.whiteLevel, s.config.global.whiteLevel⟩
            ∧ (t.fixtures.get f).basis = .white)
          ∧ (s.safety.state = .normal →
            (s.unit.mode = .dark → (t.fixtures.get f).output = ⟨0, 0, 0, 0⟩ ∧ (t.fixtures.get f).basis = .mode)
            ∧ (s.unit.mode = .live →
              ((s.config.fixtures.get f).followJet = none →
                (t.fixtures.get f).output = (t.fixtures.get f).colour ∧ (t.fixtures.get f).basis = .colour)
              ∧ ((s.config.fixtures.get f).followJet = some j → (t.fixtures.get f).output
                  = ⟨(t.fixtures.get f).colour.red * (t.jets.get j).follow / 256,
                    (t.fixtures.get f).colour.green * (t.jets.get j).follow / 256,
                    (t.fixtures.get f).colour.blue * (t.jets.get j).follow / 256,
                    (t.fixtures.get f).colour.white * (t.jets.get j).follow / 256⟩
                ∧ (t.fixtures.get f).followLevel = some (t.jets.get j).follow
                ∧ (t.fixtures.get f).basis = .follow))))))

/-- Every step keeps the outputs-at-rest indication true to the outputs, a disabled header at 0, and in SETUP and in STOPPED every
valve output and commanded speed at 0, from a state in which the jets and fixtures are SAFED exactly outside NORMAL (R91, R103, 08
R145, R146, 09 R155). -/
def Obligations.StepKeepsOutputsSound : Prop :=
  ∀ (s t : State), s.SafedSound → s.OutputsSound → step s = .next t → t.OutputsSound

/-! ## The status requests -/

/-- TRACK_STATUS, CLOCK_STATUS, JET_STATUS, HEADER_STATUS, FIXTURE_STATUS, NODE_STATUS and SAFETY_STATUS report their records
as they stand, from any port in every mode, and change nothing else; a number past the last is refused OUT_OF_RANGE (03 R66,
04 R85, 05 R104, 06 R117, 07 R134, 08 R154). ERROR_DETAIL reports the port's error detail and leaves it (10 R174); SHOW_STATUS
reports the part and clears OVERRUN (10 R180). -/
def Obligations.StatusRequests : Prop :=
  ∀ (s : State) (p : Port) (tag k : U8) (t : Fin 4) (j : Fin 128) (h : Fin 16) (f : Fin 48) (n : Fin 32) (b e : Block)
    (d : Nat), s.portReady p →
    exec (.errorDetail p tag) s = .next (s.setPort p ⟨.answering 0x70 tag ⟨.ok, .errorDetail (s.port p).error⟩,
        (s.port p).error, (s.port p).notices, (s.port p).lost, (s.port p).resetHeld⟩)
    ∧ exec (.showStatus p tag) s = .next (State.answered { s with sweep := { s.sweep with overrun := false } } p 0x73 tag .ok
        (.showStatus ⟨s.unit.mode, s.safety.state, s.safety.wind, s.clock.value, s.clock.run,
          s.headers.rows.map fun r => r.state, s.sweep.overrun, s.range.active.isSome, s.frozen⟩))
    ∧ exec (.trackStatus p tag (trackByte t)) s = .next (s.answered p 0x27 tag .ok (.trackStatus (s.track t)))
    ∧ (4 ≤ k.val → exec (.trackStatus p tag k) s = .next (s.refused p 0x27 tag .outOfRange))
    ∧ (s.clock.queue = [] → exec (.clockStatus p tag) s = .next (s.answered p 0x33 tag .ok (.clockStatus
        ⟨s.clock.value, s.clock.run, s.clock.source, s.clock.underrun, s.clock.freeze, s.clock.coasting, s.clock.position,
          0, none, s.clock.gain, s.config.global.policy, s.clock.log⟩)))
    ∧ (s.clock.queue.head? = some b → s.clock.queue.getLast? = some e →
      exec (.clockStatus p tag) s = .next (s.answered p 0x33 tag .ok (.clockStatus
        ⟨s.clock.value, s.clock.run, s.clock.source, s.clock.underrun, s.clock.freeze, s.clock.coasting, s.clock.position,
          s.clock.queue.length, some (b.start, e.start + e.frames.length), s.clock.gain, s.config.global.policy,
          s.clock.log⟩)))
    ∧ exec (.jetStatus p tag ⟨j.val, by omega⟩) s = .next (s.answered p 0x40 tag .ok
        (.jetStatus (s.config.jets.get j).enabled (s.config.jets.get j).header (s.jets.get j)))
    ∧ (128 ≤ k.val → exec (.jetStatus p tag k) s = .next (s.refused p 0x40 tag .outOfRange))
    ∧ exec (.headerStatus p tag ⟨h.val, by omega⟩) s = .next (s.answered p 0x41 tag .ok
        (.headerStatus (s.config.headers.get h).enabled (s.headers.get h)))
    ∧ (16 ≤ k.val → exec (.headerStatus p tag k) s = .next (s.refused p 0x41 tag .outOfRange))
    ∧ exec (.fixtureStatus p tag ⟨f.val, by omega⟩) s = .next (s.answered p 0x42 tag .ok
        (.fixtureStatus (s.config.fixtures.get f).enabled (s.config.fixtures.get f).followJet (s.fixtureReport.get f)
          (s.entry (fixtureChannel f)).slot.isSome))
    ∧ (48 ≤ k.val → exec (.fixtureStatus p tag k) s = .next (s.refused p 0x42 tag .outOfRange))
    ∧ exec (.nodeStatus p tag ⟨n.val, by omega⟩) s = .next (s.answered p 0x43 tag .ok (.nodeStatus
        ⟨s.config.nodes.get n, s.node n, s.sweep.running.map fun r => r.tx.node, s.sweep.pending, s.sweep.overrun,
          s.sweep.probeCounter⟩))
    ∧ (32 ≤ k.val → exec (.nodeStatus p tag k) s = .next (s.refused p 0x43 tag .outOfRange))
    ∧ (s.safety.holdDeadline = none → exec (.safetyStatus p tag) s = .next (s.answered p 0x54 tag .ok
        (.safetyStatus s.safety (s.safety.levelLow || decide (s.safety.standing = .missing)) 0)))
    ∧ (s.safety.holdDeadline = some d → exec (.safetyStatus p tag) s = .next (s.answered p 0x54 tag .ok
        (.safetyStatus s.safety (s.safety.levelLow || decide (s.safety.standing = .missing)) (d - s.now))))

/-! ## The field link (07) -/

/-- An ACK that answers an UPDATE or a SYNC UPDATE and suits the node's type makes the node ONLINE with its counts cleared and its
feedback recorded (R125). One that suits neither is a reply with a bad check (R120). -/
def Obligations.AckReply : Prop :=
  ∀ (s : State) (n : Fin 32) (body : AckBody) (speed wind : U16) (fault low : Bool),
    (s.sweep.running = none → exec (.ack body) s = .next s)
    ∧ (s.updating n →
      (s.config.nodes.get n = .valve8 ∨ s.config.nodes.get n = .lamp4 → ∃ t, exec (.ack .empty) s = .next t
        ∧ t.node n = ⟨.online, 0, 0, 0, (s.node n).drive, (s.node n).sense⟩ ∧ t.safety = s.safety ∧ t.ports = s.ports)
      ∧ (s.config.nodes.get n = .drive → ∃ t, exec (.ack (.drive speed fault)) s = .next t
        ∧ t.node n = ⟨.online, 0, 0, 0, some ⟨speed, fault⟩, (s.node n).sense⟩ ∧ t.safety = s.safety
        ∧ t.ports = s.ports)
      ∧ (s.config.nodes.get n = .sense → ∃ t, exec (.ack (.sense wind low)) s = .next t
        ∧ t.node n = ⟨.online, 0, 0, 0, (s.node n).drive, some ⟨wind, low⟩⟩)
      ∧ (ackFits body (s.config.nodes.get n) = false → exec (.ack body) s = exec .badCheckReply s))
    ∧ (s.probed n → exec (.ack body) s = exec .badCheckReply s)

/-- A BUSY that counts puts the node in BACKOFF with a skip count of 1, 2, 4 or 8, and the fifth makes it LOST (R126); a
pending sweep that starts in the same action may pass the node over at once and so count its skips down (R121, R122). The
first BUSY of a SENSE node that was ONLINE, and the fifth of any SENSE node, are handed to the Supervisor (R132). -/
def Obligations.BusyReply : Prop :=
  ∀ (s : State) (n : Fin 32) (p : Port),
    (s.sweep.running = none → exec .busy s = .next s)
    ∧ (s.probed n → exec .busy s = exec .badCheckReply s)
    ∧ (s.updating n → (s.node n).busyCount < 4 → ∃ t, exec .busy s = .next t
      ∧ t.node n = ⟨.backoff, (s.node n).busyCount + 1, (s.node n).missCount, (t.node n).skipCount, (s.node n).drive,
        (s.node n).sense⟩
      ∧ (s.sweep.pending = false → (t.node n).skipCount = if (s.node n).busyCount = 0 then 1
        else if (s.node n).busyCount = 1 then 2 else if (s.node n).busyCount = 2 then 4 else 8)
      ∧ (s.config.nodes.get n ≠ .sense ∨ (s.node n).state ≠ .online → t.safety = s.safety ∧ t.ports = s.ports)
      ∧ (s.config.nodes.get n = .sense → (s.node n).state = .online →
        t.safety.standing = .missing ∧ (s.safety.standing ≠ .missing →
          t.safety.wind = .windStop ∧ Cause.level ∈ t.safety.causes)))
    ∧ (s.updating n → 4 ≤ (s.node n).busyCount → ∃ t, exec .busy s = .next t
      ∧ t.node n = ⟨.lost, 5, 3, 0, (s.node n).drive, (s.node n).sense⟩
      ∧ t.told p ⟨.nodeState, n, 2, s.clock.value, .none⟩
      ∧ (s.config.nodes.get n ≠ .sense → t.safety = s.safety)
      ∧ (s.config.nodes.get n = .sense → t.safety.standing = .missing))

/-- A miss, at the expiry of the reply window or at a reply with a bad check, raises the miss count, and the third makes the
node LOST (R127); a SENSE node's loss is handed to the Supervisor (R132). An IDENT that answers a PROBE and names the node's
type makes the node SYNCING with its BUSY and miss counts cleared, with NODE_STATE detail 0 where it leaves LOST (R128); any
other is a reply with a bad check (R120). A stray reply changes no record (R124). -/
def Obligations.MissIdentAndStrayReply : Prop :=
  ∀ (s : State) (n : Fin 32) (ty : U8) (p : Port),
    exec .strayReply s = .next s
    ∧ (s.sweep.running = none → exec (.ident ty) s = .next s)
    ∧ (s.updating n → exec (.ident ty) s = exec .badCheckReply s)
    ∧ (s.probed n →
      (s.config.nodes.get n = .none ∨ nodeTypeCode (s.config.nodes.get n) ≠ ty →
        exec (.ident ty) s = exec .badCheckReply s)
      ∧ (s.config.nodes.get n ≠ .none → nodeTypeCode (s.config.nodes.get n) = ty → ∃ t, exec (.ident ty) s = .next t
        ∧ t.node n = ⟨.syncing, 0, 0, (s.node n).skipCount, (s.node n).drive, (s.node n).sense⟩
        ∧ t.safety = s.safety
        ∧ ((s.node n).state ≠ .lost → t.ports = s.ports)
        ∧ ((s.node n).state = .lost → t.told p ⟨.nodeState, n, 0, s.clock.value, .none⟩)))
    ∧ exec .replyWindowExpiry s = exec .badCheckReply s
    ∧ (s.sweep.running = none → exec .badCheckReply s = .next s)
    ∧ (s.updating n ∨ s.probed n →
      ((s.node n).state = .lost → ∃ t, exec .badCheckReply s = .next t ∧ t.node n = s.node n ∧ t.safety = s.safety
        ∧ t.ports = s.ports)
      ∧ ((s.node n).state ≠ .lost → (s.node n).missCount < 2 → ∃ t, exec .badCheckReply s = .next t
        ∧ t.node n = ⟨(s.node n).state, (s.node n).busyCount, (s.node n).missCount + 1, (t.node n).skipCount,
          (s.node n).drive, (s.node n).sense⟩
        ∧ (s.sweep.pending = false ∨ (s.node n).skipCount = 0 → (t.node n).skipCount = (s.node n).skipCount)
        ∧ t.safety = s.safety ∧ t.ports = s.ports)
      ∧ ((s.node n).state ≠ .lost → 2 ≤ (s.node n).missCount → ∃ t, exec .badCheckReply s = .next t
        ∧ t.node n = ⟨.lost, (s.node n).busyCount, 3, 0, (s.node n).drive, (s.node n).sense⟩
        ∧ t.told p ⟨.nodeState, n, 1, s.clock.value, .none⟩
        ∧ (s.config.nodes.get n ≠ .sense → t.safety = s.safety)
        ∧ (s.config.nodes.get n = .sense → t.safety.standing = .missing)))

/-- A frame event that finds no sweep running starts one (R121): a probe sweep where the probe counter is 0, which then counts
on up to the probe interval. It comes to the nodes in ascending number, passes over those it sends nothing, and is held at the
first other, sent the frame its state asks for (R122). The body of an UPDATE or a SYNC UPDATE is assembled from the outputs as
they stand: the valve output of each slot's jet, the speed of the lowest-numbered header of a drive, the colour of each slot's
fixture, nothing for a SENSE node (R123). Of several jets or fixtures that name one slot, which the tables can hold in SETUP
alone, the lowest is sent: the model's choice (log 30). -/
def Obligations.SweepStarts : Prop :=
  ∀ (s : State) (m k n : Fin 32) (a : Fin 8) (c : Fin 4) (j : Fin 128) (h : Fin 16) (f : Fin 48),
    (s.shaper.frameDue ≤ s.now → s.sweep.running = none → ∃ t, exec .frameEvent s = .next t
      ∧ t.sweep = { s.sweep with
          running := t.sweep.running
          probeCounter := if s.config.global.probeInterval ≤ s.sweep.probeCounter + 1 then 0
            else s.sweep.probeCounter + 1 }
      ∧ ((∀ i : Fin 32, i < m → (s.node i).passedOver (decide (s.sweep.probeCounter = 0))) →
        ¬ (s.node m).passedOver (decide (s.sweep.probeCounter = 0)) →
        t.sweep.running = some ⟨t.sending m (s.node m).sent, decide (s.sweep.probeCounter = 0)⟩
          ∧ t.node k = if k < m then (s.node k).skipped else s.node k)
      ∧ ((∀ i : Fin 32, (s.node i).passedOver (decide (s.sweep.probeCounter = 0))) →
        t.sweep.running = none ∧ t.node k = (s.node k).skipped))
    ∧ (s.config.nodes.get n = .valve8 → (s.updateBody n).length = 16
      ∧ ((s.config.jets.get j).enabled = true → (s.config.jets.get j).node = n → (s.config.jets.get j).slot = a →
        (∀ i : Fin 128, i < j → (s.config.jets.get i).enabled = true → (s.config.jets.get i).node = n →
          (s.config.jets.get i).slot ≠ a) → ((s.updateBody n).drop (2 * a)).take 2 = be2 (s.jets.get j).valve)
      ∧ ((∀ i : Fin 128, (s.config.jets.get i).enabled = true → (s.config.jets.get i).node = n →
        (s.config.jets.get i).slot ≠ a) → ((s.updateBody n).drop (2 * a)).take 2 = [0, 0]))
    ∧ (s.config.nodes.get n = .drive →
      ((s.config.headers.get h).enabled = true → (s.config.headers.get h).driveNode = n →
        (∀ i : Fin 16, i < h → (s.config.headers.get i).enabled = true → (s.config.headers.get i).driveNode ≠ n) →
        s.updateBody n = be2 (s.headers.get h).commanded)
      ∧ ((∀ i : Fin 16, (s.config.headers.get i).enabled = true → (s.config.headers.get i).driveNode ≠ n) →
        s.updateBody n = [0xFF, 0xFF]))
    ∧ (s.config.nodes.get n = .lamp4 → (s.updateBody n).length = 16
      ∧ ((s.config.fixtures.get f).enabled = true → (s.config.fixtures.get f).node = n →
        (s.config.fixtures.get f).slot = c →
        (∀ i : Fin 48, i < f → (s.config.fixtures.get i).enabled = true → (s.config.fixtures.get i).node = n →
          (s.config.fixtures.get i).slot ≠ c) → ((s.updateBody n).drop (4 * c)).take 4
          = [byteOf (s.fixtures.get f).output.red, byteOf (s.fixtures.get f).output.green,
            byteOf (s.fixtures.get f).output.blue, byteOf (s.fixtures.get f).output.white])
      ∧ ((∀ i : Fin 48, (s.config.fixtures.get i).enabled = true → (s.config.fixtures.get i).node = n →
        (s.config.fixtures.get i).slot ≠ c) → ((s.updateBody n).drop (4 * c)).take 4 = [0, 0, 0, 0]))
    ∧ (s.config.nodes.get n = .sense ∨ s.config.nodes.get n = .none → s.updateBody n = [])

/-- At the end of a transmission, an ACK with any body, a BUSY, an IDENT of any type, a reply with a bad check or the end of
the window, the sweep comes to the next node in ascending number that it does not pass over and sends it the frame its state
asks for; past the last node it ends, and a pending sweep starts (R121 to R124). That an ACK or an IDENT which does not suit
the transmission or the node ends it too is read from R120 (log 28). -/
def Obligations.SweepGoesOn : Prop :=
  ∀ (s : State) (r : RunningSweep) (m k : Fin 32) (body : AckBody) (ty : U8) (c : Instr), s.sweep.running = some r →
    (c = .busy ∨ c = .badCheckReply ∨ c = .replyWindowExpiry ∨ c = .ack body ∨ c = .ident ty) →
    ((∀ i : Fin 32, r.tx.node < i → i < m → (s.node i).passedOver r.probing) →
      r.tx.node < m → ¬ (s.node m).passedOver r.probing → ∃ t, exec c s = .next t
        ∧ t.sweep = { s.sweep with running := some ⟨s.sending m (s.node m).sent, r.probing⟩ }
        ∧ (r.tx.node < k → t.node k = if k < m then (s.node k).skipped else s.node k)
        ∧ (k < r.tx.node → t.node k = s.node k))
    ∧ ((∀ i : Fin 32, r.tx.node < i → (s.node i).passedOver r.probing) → s.sweep.pending = false →
      ∃ t, exec c s = .next t ∧ t.sweep = { s.sweep with running := none }
        ∧ (r.tx.node < k → t.node k = (s.node k).skipped) ∧ (k < r.tx.node → t.node k = s.node k))
    ∧ ((∀ i : Fin 32, r.tx.node < i → (s.node i).passedOver r.probing) → s.sweep.pending = true →
      ∃ t, exec c s = .next t ∧ t.sweep.pending = false ∧ t.sweep.overrun = s.sweep.overrun
        ∧ t.sweep.probeCounter = (if s.config.global.probeInterval ≤ s.sweep.probeCounter + 1 then 0
          else s.sweep.probeCounter + 1)
        ∧ (∀ x ∈ t.sweep.running.toList, x.probing = decide (s.sweep.probeCounter = 0)))

/-- Every step keeps every node's counts within their ranges, its miss count at 3 exactly while it is LOST and its state
ABSENT exactly for type NONE (R119, R126, R127, R130), a transmission whose end counts going to a node in a state that is sent
its frame (R122, R124), and every port's notice queue within 32 notices (10 R176). -/
def Obligations.StepKeepsNodesAndNoticesSound : Prop :=
  ∀ (s t : State), step s = .next t → (s.NodesSound → t.NodesSound) ∧ (s.NoticesSound → t.NoticesSound)

/-! ## The Safety Supervisor (08) -/

/-- SAFETY_STOP, the emergency stop line and the intrusion edge while the fountain is stopping or stopped, and where they add
nothing (R141 to R144). ESTOP_ASSERTED of a line that is asserted already has no effect: the model's choice (log 3). LEVEL by
a loss of the SENSE node, at a BUSY, at a miss and at a write of its entry: added to the list during a stop, entering STOPPING
in NORMAL, and adding nothing where it stands (R139, R140, R144). SAFETY_ACK in STOPPED takes out MANUAL, INTRUSION without a
pending edge, LEVEL with the level taken as OK and ESTOP with the line released (R147); with no cause left the state returns
to NORMAL and the SAFED channels to FREE (R148, 01 R26). -/
def Obligations.CausesDuringAStopAndAck : Prop :=
  ∀ (s : State) (p q : Port) (tag : U8) (ch : Fin 177) (c : Cause) (rest : List Cause) (n : Fin 32) (i : Instr)
    (entry : List Byte) (ty : NodeType),
    (s.portReady p →
      ((s.rights p).safety = false → exec (.safetyStop p tag) s = .next (s.refused p 0x50 tag .noRight))
      ∧ ((s.rights p).safety = true → Cause.manual ∈ s.safety.causes →
        exec (.safetyStop p tag) s = .next (s.ok p 0x50 tag))
      ∧ ((s.rights p).safety = true → Cause.manual ∉ s.safety.causes → s.safety.state ≠ .normal →
        exec (.safetyStop p tag) s = .next (((s.setSafety { s.safety with
          causes := s.safety.causes ++ [.manual], further := true }).postAll .safetyState 255 9).ok p 0x50 tag)))
    ∧ (s.safety.estopAsserted = true → exec .estopAsserted s = .next s)
    ∧ (s.safety.estopAsserted = false → Cause.estop ∈ s.safety.causes →
      exec .estopAsserted s = .next (s.setSafety { s.safety with estopAsserted := true }))
    ∧ (s.safety.estopAsserted = false → Cause.estop ∉ s.safety.causes → s.safety.state ≠ .normal →
      exec .estopAsserted s = .next ((s.setSafety { s.safety with
        estopAsserted := true, causes := s.safety.causes ++ [.estop], further := true }).postAll .safetyState 255 6))
    ∧ exec .estopReleased s = .next (s.setSafety { s.safety with estopAsserted := false })
    ∧ (Cause.intrusion ∈ s.safety.causes → s.safety.intrusionPending = true → exec .intrusionEdge s = .next s)
    ∧ (Cause.intrusion ∈ s.safety.causes → s.safety.intrusionPending = false → exec .intrusionEdge s = .next
      ((s.setSafety { s.safety with intrusionPending := true, further := true }).postAll .safetyState 255 7))
    ∧ (Cause.intrusion ∉ s.safety.causes → s.safety.state ≠ .normal → exec .intrusionEdge s = .next
      ((s.setSafety { s.safety with causes := s.safety.causes ++ [.intrusion], further := true }).postAll
        .safetyState 255 7))
    ∧ (s.config.nodes.get n = .sense → s.safety.standing ≠ .missing →
      (i = .busy ∧ s.updating n ∧ ((s.node n).state = .online ∨ 4 ≤ (s.node n).busyCount))
        ∨ (i = .badCheckReply ∧ (s.updating n ∨ s.probed n) ∧ (s.node n).state ≠ .lost ∧ 2 ≤ (s.node n).missCount)
        ∨ (i = .configWrite p tag 5 ⟨n.val, by omega⟩ entry ∧ s.portReady p ∧ (s.rights p).config = true
          ∧ s.unit.mode = .setup ∧ s.unit.saving = none ∧ s.config.keepsSafety = true
          ∧ parseEntry 5 entry = .ok (.node ty) ∧ ty ≠ .sense ∧ (s.node n).state = .online) →
      ∃ t, exec i s = .next t ∧ t.safety.standing = .missing ∧ t.safety.wind = .windStop
        ∧ (Cause.level ∈ s.safety.causes → t.safety.causes = s.safety.causes ∧ t.safety.state = s.safety.state
          ∧ t.safety.first = s.safety.first ∧ t.safety.further = s.safety.further)
        ∧ (Cause.level ∉ s.safety.causes → s.safety.state ≠ .normal →
          t.safety.causes = s.safety.causes ++ [.level] ∧ t.safety.state = s.safety.state
          ∧ t.safety.first = s.safety.first ∧ t.safety.further = true
          ∧ t.told q ⟨.safetyState, 255, 8, s.clock.value, .none⟩)
        ∧ (Cause.level ∉ s.safety.causes → s.safety.state = .normal →
          t.safety.causes = [.level] ∧ t.safety.state = .stopping ∧ t.safety.first = some .level
          ∧ t.safety.further = false ∧ t.told q ⟨.safetyState, 255, 3, s.clock.value, .none⟩
          ∧ t.clock.run = .stopped ∧ (ch.val < 176 → t.entry ch = ⟨.safed, (s.entry ch).watchers, none⟩)))
    ∧ (s.portReady p →
    ((s.rights p).safety = false → exec (.safetyAck p tag) s = .next (s.refused p 0x51 tag .noRight))
    ∧ ((s.rights p).safety = true → s.safety.state ≠ .stopped →
      exec (.safetyAck p tag) s = .next (s.refused p 0x51 tag .wrongState))
    ∧ ((s.rights p).safety = true → s.safety.state = .stopped →
      (s.safety.causes.filter (fun k => decide (k = .intrusion ∧ s.safety.intrusionPending = true
          ∨ k = .level ∧ (s.safety.levelLow = true ∨ s.safety.standing = .missing)
          ∨ k = .estop ∧ s.safety.estopAsserted = true)) = c :: rest →
        exec (.safetyAck p tag) s = .next ((s.setSafety { s.safety with
          causes := c :: rest
          intrusionPending := s.safety.intrusionPending && decide (Cause.intrusion ∉ s.safety.causes) }).refusal
            p 0x51 tag .wrongState 0 (causeCode c) 0))
      ∧ ((∀ k ∈ s.safety.causes, ¬ (k = .intrusion ∧ s.safety.intrusionPending = true
          ∨ k = .level ∧ (s.safety.levelLow = true ∨ s.safety.standing = .missing)
          ∨ k = .estop ∧ s.safety.estopAsserted = true)) →
        ∃ t, exec (.safetyAck p tag) s = .next t
        ∧ t.safety = { s.safety with state := .normal, causes := [], first := none, further := false
                                     intrusionPending := s.safety.intrusionPending
                                       && decide (Cause.intrusion ∉ s.safety.causes) }
        ∧ t.entry ch = (if (s.entry ch).hold = .safed then ⟨.free, (s.entry ch).watchers, (s.entry ch).slot⟩
          else s.entry ch)
        ∧ ((s.entry ch).hold = .safed → (s.entry ch).watchers.get q = true →
          t.told q ⟨.holderChanged, ch, 0, s.clock.value, .none⟩)
        ∧ t.told q ⟨.safetyState, 255, 0, s.clock.value, .none⟩
        ∧ (t.port p).state = .answering 0x51 tag ⟨.ok, .empty⟩ ∧ (t.port p).error = none
        ∧ t = { s with safety := t.safety, directory := ⟨t.directory.entries, s.directory.waiters, s.directory.arrivals⟩
                       ports := t.ports })))

/-- A cause added in NORMAL enters STOPPING in one action: every jet and fixture channel becomes SAFED with its slot emptied, its
holder told LOST and its waiters dropped, AUD's entry and waiters standing (01 R25); an RCLAIM or RSET ends SAFETY and other range
operations stand (02 R39); moving tracks pause for SAFETY (03 R64), one whose next_due lies below the clock's value with 0 left to
run by the model's reading (log 35); the clock stops (04 R83); SAFETY_STATE goes to every port (R144,
R145). -/
def Obligations.StopTakesEverything : Prop :=
  ∀ (s : State) (p x q : Port) (tag : U8) (c : Instr) (k : Cause) (ch : Fin 177) (t : Fin 4) (b : TrackBody)
    (r : RangeRecord) (due at_ m n : Nat), s.safety.state = .normal →
    ((c = .safetyStop p tag ∧ k = .manual ∧ s.portReady p ∧ (s.rights p).safety = true)
      ∨ (c = .estopAsserted ∧ k = .estop ∧ s.safety.estopAsserted = false) ∨ (c = .intrusionEdge ∧ k = .intrusion)) →
    k ∉ s.safety.causes → ∃ u, exec c s = .next u
      ∧ u.safety = { s.safety with state := .stopping, causes := [k], first := some k, further := false
                                   estopAsserted := s.safety.estopAsserted || decide (k = .estop) }
      ∧ u.told q ⟨.safetyState, 255, causeCode k, s.clock.value, .none⟩
      ∧ (c = .safetyStop p tag → (u.port p).state = .answering 0x50 tag ⟨.ok, .empty⟩)
      ∧ (ch.val < 176 → u.entry ch = ⟨.safed, (s.entry ch).watchers, none⟩)
      ∧ (ch.val < 176 → (s.entry ch).hold.holder = some x → u.told x ⟨.lost, ch, 2, s.clock.value, .none⟩)
      ∧ (ch.val < 176 → (s.entry ch).watchers.get x = true →
        u.told x ⟨.holderChanged, ch, 4, s.clock.value, .none⟩)
      ∧ (ch.val < 176 → s.waitsFor x ch → u.told x ⟨.claimDropped, ch, 2, s.clock.value, .none⟩)
      ∧ u.entry audChannel = s.entry audChannel
      ∧ u.directory.waiters = s.directory.waiters.filter (fun w => decide (w.channel = audChannel))
      ∧ (s.range.active = some r →
        (r.op.isClaim = true ∨ r.op.isSet = true → u.range = ⟨none, some ⟨r.issuer, r.op, r.first, r.count, r.done,
            r.skipped, r.firstSkipped, r.count - r.done - r.skipped, .safety⟩⟩
          ∧ u.told r.issuer ⟨.rangeDone, r.first, 2, s.clock.value,
            .range r.done r.skipped r.firstSkipped (r.count - r.done - r.skipped)⟩)
        ∧ (r.op.isClaim = false → r.op.isSet = false → u.range = s.range))
      ∧ (s.track t = none → u.track t = none)
      ∧ (s.track t = some b →
        (b.phase = .running due at_ → u.track t = some ⟨b.owner, b.cue, b.stack,
            ⟨b.reasons.owner, b.reasons.freeze, true⟩, .paused (due - s.clock.value)⟩
          ∧ u.told b.owner ⟨.trackState, t, 4, s.clock.value, .none⟩)
        ∧ (b.phase = .waiting m → u.track t = some ⟨b.owner, b.cue, b.stack,
            ⟨b.reasons.owner, b.reasons.freeze, true⟩, .paused (CueRecord.delta (Memory.record s.cues b.cue))⟩
          ∧ u.told b.owner ⟨.trackState, t, 4, s.clock.value, .none⟩)
        ∧ (b.phase = .paused n → u.track t = some ⟨b.owner, b.cue, b.stack,
          ⟨b.reasons.owner, b.reasons.freeze, true⟩, b.phase⟩)
        ∧ (trackName (some b) = .armed ∨ trackName (some b) = .faulted → u.track t = s.track t))
      ∧ u.clock = { s.clock with run := .stopped, underrun := false, coasting := false, output := ⟨0, 0⟩ }
      ∧ (u.jets = s.jets ∧ u.headers = s.headers ∧ u.fixtures = s.fixtures ∧ u.nodes = s.nodes ∧ u.sweep = s.sweep
        ∧ u.cues = s.cues ∧ u.config = s.config ∧ u.unit.mode = s.unit.mode)

/-- FREEZE by the freeze record and the requesting port (R149). THAW by the freeze record, from the freezing port and from a
port with the SAFETY right (R150). -/
def Obligations.FreezeAndThaw : Prop :=
  ∀ (s : State) (p f : Port) (tag : U8), s.portReady p →
    ((s.rights p).freeze = false → exec (.freeze p tag) s = .next (s.refused p 0x52 tag .noRight))
    ∧ ((s.rights p).freeze = true →
      (s.safety.freeze = .none → exec (.freeze p tag) s = .next
        ((s.setSafety { s.safety with freeze := .requested p }).answered p 0x52 tag .accepted .empty))
      ∧ (s.safety.freeze = .requested p ∨ s.safety.freeze = .inEffect p →
        exec (.freeze p tag) s = .next (s.ok p 0x52 tag))
      ∧ (s.safety.freeze = .thawRequested p →
        exec (.freeze p tag) s = .next ((s.setSafety { s.safety with freeze := .inEffect p }).ok p 0x52 tag))
      ∧ (f ≠ p → s.safety.freeze = .requested f ∨ s.safety.freeze = .inEffect f ∨ s.safety.freeze = .thawRequested f →
        exec (.freeze p tag) s = .next (s.refused p 0x52 tag .busy)))
    ∧ (s.safety.freeze = .none → exec (.thaw p tag) s = .next (s.refused p 0x53 tag .wrongState))
    ∧ (f ≠ p → (s.rights p).safety = false →
      s.safety.freeze = .requested f ∨ s.safety.freeze = .inEffect f ∨ s.safety.freeze = .thawRequested f →
      exec (.thaw p tag) s = .next (s.refused p 0x53 tag .noRight))
    ∧ (f = p ∨ (s.rights p).safety = true →
      (s.safety.freeze = .requested f → exec (.thaw p tag) s = .next
        (((s.setSafety { s.safety with freeze := .none }).post f .thawed 255 1).ok p 0x53 tag))
      ∧ (s.safety.freeze = .inEffect f → exec (.thaw p tag) s = .next
        ((s.setSafety { s.safety with freeze := .thawRequested f }).answered p 0x53 tag .accepted .empty))
      ∧ (s.safety.freeze = .thawRequested f → exec (.thaw p tag) s = .next (s.ok p 0x53 tag)))

/-- A freeze comes into effect and is lifted at a FRAME_EVENT (R151): the record, the notice to the freezing port, the tracks
(03 R63: at a thaw FREEZE leaves the pause reasons, a track paused for it alone runs on, and every other track, one that waits
among them, stays in its state) and the clock (04 R82), which a thaw can bring to an underrun or to the range end at once (04
R79). The tracks are handed the thaw before the clock: log 22; the value at which a due event is taken is the model's own
field: log 4; a track frozen with its next_due below the clock's value has 0 left to run, the model's reading: log 35. -/
def Obligations.FreezeAtFrameEvent : Prop :=
  ∀ (s : State) (f q : Port) (t : Fin 4) (b : TrackBody) (due at_ n : Nat), s.shaper.frameDue ≤ s.now →
    ∃ u, exec .frameEvent s = .next u
      ∧ (s.safety.freeze = .none ∨ s.safety.freeze = .inEffect f →
        u.safety.freeze = s.safety.freeze ∧ u.tracks = s.tracks ∧ u.clock = s.clock)
      ∧ (s.safety.freeze = .requested f → u.safety.freeze = .inEffect f
        ∧ u.told f ⟨.frozen, 255, 0, s.clock.value, .none⟩
        ∧ u.clock = { s.clock with freeze := true, output := ⟨0, 0⟩
                                   run := if s.clock.run = .running then .stalled else s.clock.run }
        ∧ (s.track t = some b →
          (b.phase = .running due at_ → u.track t = some ⟨b.owner, b.cue, b.stack,
              ⟨b.reasons.owner, true, b.reasons.safety⟩, .paused (due - s.clock.value)⟩
            ∧ u.told b.owner ⟨.trackState, t, 4, s.clock.value, .none⟩)
          ∧ (trackName (some b) = .waiting ∨ trackName (some b) = .paused → u.track t = some ⟨b.owner, b.cue, b.stack,
            ⟨b.reasons.owner, true, b.reasons.safety⟩, b.phase⟩)
          ∧ (trackName (some b) = .armed ∨ trackName (some b) = .faulted → u.track t = s.track t))
        ∧ (s.track t = none → u.track t = none))
      ∧ (s.safety.freeze = .thawRequested f → u.safety.freeze = .none
        ∧ u.told f ⟨.thawed, 255, 0, s.clock.value, .none⟩
        ∧ (s.clock.run = .stopped → u.clock = { s.clock with freeze := false })
        ∧ (s.clock.run = .stalled →
          (s.clock.underrun = true → u.clock = { s.clock with freeze := false })
          ∧ (s.clock.underrun = false → s.clock.source = .internal
              ∨ (s.clock.position < 4294967295 ∧ (s.clock.queue ≠ [] ∨ s.clock.coasting = true)) →
            u.clock = { s.clock with freeze := false, run := .running })
          ∧ (s.clock.underrun = false → s.clock.source = .audio →
            (s.clock.position = 4294967295 →
              u.clock = { s.clock with freeze := false, underrun := true, coasting := false }
              ∧ (s.audHolder = some q → u.told q ⟨.underrun, 176, 2, s.clock.value, .none⟩))
            ∧ (s.clock.position < 4294967295 → s.clock.queue = [] → s.clock.coasting = false →
              (s.config.global.policy = .coast →
                u.clock = { s.clock with freeze := false, run := .running, coasting := true }
                ∧ (s.audHolder = some q → u.told q ⟨.underrun, 176, 0, s.clock.value, .none⟩))
              ∧ (s.config.global.policy = .stall → u.clock = { s.clock with freeze := false, underrun := true }
                ∧ (s.audHolder = some q → u.told q ⟨.underrun, 176, 1, s.clock.value, .none⟩)))))
        ∧ (s.track t = some b → b.phase = .paused n →
          (b.reasons.owner = false → b.reasons.safety = false →
            u.track t = some ⟨b.owner, b.cue, b.stack, ⟨false, false, false⟩, .running (s.clock.value + n)
              (s.clock.value + if s.clock.run = .running then n else max n 1)⟩
            ∧ u.told b.owner ⟨.trackState, t, 2, s.clock.value, .none⟩)
          ∧ (b.reasons.owner = true ∨ b.reasons.safety = true → u.track t = some ⟨b.owner, b.cue, b.stack,
            ⟨b.reasons.owner, false, b.reasons.safety⟩, .paused n⟩))
        ∧ (s.track t = some b → trackName (some b) = .waiting ∨ trackName (some b) = .armed ∨ trackName (some b) = .faulted
          ∨ trackName (some b) = .running → u.track t = some ⟨b.owner, b.cue, b.stack,
            ⟨b.reasons.owner, false, b.reasons.safety⟩, b.phase⟩)
        ∧ (s.track t = none → u.track t = none))

/-- Every step keeps the cause list empty exactly in NORMAL, the first cause present exactly outside it, no cause standing
twice and a pending edge beside INTRUSION (R135, R142), and with that the jet and fixture channels SAFED exactly outside
NORMAL (R145, R148, 01 R25, R26). -/
def Obligations.StepKeepsSafetySound : Prop :=
  ∀ (s t : State), s.safety.CausesSound → step s = .next t →
    t.safety.CausesSound ∧ (s.SafedSound → t.SafedSound)

/-- A reading of the SENSE node by its ACK: the gust value and the hold timer (R137), the wind state (R138) and the level,
which adds LEVEL where it is LOW (R140, R144). Where the ACK makes the node ONLINE and the standing PRESENT, the wind state is
evaluated at that change, by the gust value before it, and then at the reading (R139). The wind before the level is the
model's reading (log 14). HOLD_TIMER_EXPIRY at the deadline makes the timer EXPIRED (R137); before it and with none RUNNING it
has no effect: the model's choice (log 3). -/
def Obligations.ReadingAndHoldTimer : Prop :=
  ∀ (s : State) (n : Fin 32) (q : Port) (wind : U16) (low : Bool) (d : Nat) (w : Wind),
    (s.safety.holdDeadline = none → exec .holdTimerExpiry s = .next s)
    ∧ (s.safety.holdDeadline = some d →
      (s.now < d → exec .holdTimerExpiry s = .next s)
      ∧ (d ≤ s.now → exec .holdTimerExpiry s = .next (s.setSafety { s.safety with holdDeadline := none })))
    ∧ (s.updating n → s.config.nodes.get n = .sense → ∃ t, exec (.ack (.sense wind low)) s = .next t
      ∧ (s.safety.gust ≤ wind → t.safety.gust = wind
        ∧ t.safety.holdDeadline = if s.config.global.gustHold = 0 then none else some (s.now + s.config.global.gustHold))
      ∧ (wind < s.safety.gust →
        (s.safety.holdDeadline = some d → t.safety.gust = s.safety.gust ∧ t.safety.holdDeadline = some d)
        ∧ (s.safety.holdDeadline = none → t.safety.gust = wind ∧ t.safety.holdDeadline = none))
      ∧ t.safety.levelLow = low
      ∧ ((s.node n).state ≠ .online → t.safety.standing = .present)
      ∧ ((s.node n).state = .online → s.safety.standing = .missing → t.safety.wind = .windStop)
      ∧ (((s.node n).state = .online ∧ s.safety.standing ≠ .missing)
          ∨ ((s.node n).state ≠ .online ∧ s.safety.standing = .present) →
        t.safety.wind = windOf s.config.global s.safety.wind t.safety.gust
        ∧ (t.safety.wind ≠ s.safety.wind → t.told q (windNotice t.safety.wind s.clock.value)))
      ∧ ((s.node n).state ≠ .online → s.safety.standing ≠ .present →
        w = windOf s.config.global s.safety.wind s.safety.gust →
        t.safety.wind = windOf s.config.global w t.safety.gust
        ∧ (w ≠ s.safety.wind → t.told q (windNotice w s.clock.value))
        ∧ (t.safety.wind ≠ w → t.told q (windNotice t.safety.wind s.clock.value)))
      ∧ (low = true → Cause.level ∉ s.safety.causes → s.safety.state = .normal →
        t.safety.causes = [.level] ∧ t.safety.state = .stopping ∧ t.safety.first = some .level
        ∧ t.told q ⟨.safetyState, 255, 3, s.clock.value, .none⟩)
      ∧ (low = true → Cause.level ∉ s.safety.causes → s.safety.state ≠ .normal →
        t.safety.causes = s.safety.causes ++ [.level] ∧ t.safety.state = s.safety.state ∧ t.safety.further = true
        ∧ t.told q ⟨.safetyState, 255, 8, s.clock.value, .none⟩)
      ∧ (low = false ∨ Cause.level ∈ s.safety.causes → t.safety.causes = s.safety.causes ∧ t.safety.state = s.safety.state))

/-! ## The modes and the configuration (09) -/

/-- CONFIG_WRITE: the length of its body (10 R171) and the checks of R159 in order; then the entry read back is the entry
written, its bytes are the bytes sent, and every other entry stands. A node entry whose type changes remakes the node's record
(07 R130), and the Global entry has the wind state evaluated (08 R138). CONFIG_READ (R160). The model's reading:
CONFIG_INVALID names the rights field, 4, an entry's fields count from 3, and a refused CONFIG_READ names no field (log 8); a
transmission to the node in flight is uncounted even where its type stands (log 29). -/
def Obligations.ConfigWriteAndRead : Prop :=
  ∀ (s : State) (p q : Port) (tag table index tb ix : U8) (entry : List Byte) (e : ConfigEntry) (size field : Nat)
    (n : Fin 32) (g : Global), s.portReady p →
    (configWriteFits table entry.length = false →
      exec (.configWrite p tag table index entry) s = .next (s.refused p 0x60 tag .badRequest))
    ∧ (table.val = 0 ∨ 6 < table.val →
      exec (.configRead p tag table index) s = .next (s.refused p 0x61 tag .outOfRange)
      ∧ (configWriteFits table entry.length = true →
        exec (.configWrite p tag table index entry) s = .next (s.refusal p 0x60 tag .outOfRange 1 0 0)))
    ∧ (tableSize table = some size →
      (size ≤ index.val →
        exec (.configRead p tag table index) s = .next (s.refused p 0x61 tag .outOfRange)
        ∧ (configWriteFits table entry.length = true →
          exec (.configWrite p tag table index entry) s = .next (s.refusal p 0x60 tag .outOfRange 2 0 0)))
      ∧ (index.val < size →
        (table.val < 6 → exec (.configRead p tag table index) s = .next
          (s.answered p 0x61 tag .ok (.configEntry (s.config.entry table index))))
        ∧ (table.val = 6 → exec (.configRead p tag table index) s = .next
          (s.answered p 0x61 tag .ok (.globalEntry s.config.global s.unit.saving s.unit.outcome)))
        ∧ (configWriteFits table entry.length = true →
          ((s.rights p).config = false →
            exec (.configWrite p tag table index entry) s = .next (s.refused p 0x60 tag .noRight))
          ∧ ((s.rights p).config = true → s.unit.mode ≠ .setup →
            exec (.configWrite p tag table index entry) s = .next (s.refused p 0x60 tag .wrongMode))
          ∧ ((s.rights p).config = true → s.unit.mode = .setup → s.unit.saving ≠ none →
            exec (.configWrite p tag table index entry) s = .next (s.refused p 0x60 tag .busy))
          ∧ ((s.rights p).config = true → s.unit.mode = .setup → s.unit.saving = none →
            (parseEntry table entry = .error field →
              exec (.configWrite p tag table index entry) s = .next (s.refusal p 0x60 tag .outOfRange field 0 0))
            ∧ (parseEntry table entry = .ok e →
              ((s.config.put index e).keepsSafety = false →
                exec (.configWrite p tag table index entry) s = .next (s.refusal p 0x60 tag .configInvalid 4 0 0))
              ∧ ((s.config.put index e).keepsSafety = true →
                ∃ t, exec (.configWrite p tag table index entry) s = .next t
                ∧ e.bytes = entry ∧ t.config.entry table index = e
                ∧ ((∃ k ∈ (tableSize tb).toList, ix.val < k) → tb ≠ table ∨ ix ≠ index →
                  t.config.entry tb ix = s.config.entry tb ix)
                ∧ (t.port p).state = .answering 0x60 tag ⟨.ok, .empty⟩ ∧ (t.port p).error = none
                ∧ (table.val < 5 → t = State.ok { s with config := t.config } p 0x60 tag)
                ∧ (table.val = 5 → index.val = n.val →
                  (t.config.nodes.get n = s.config.nodes.get n → t.nodes = s.nodes ∧ t.safety = s.safety)
                  ∧ (t.config.nodes.get n ≠ s.config.nodes.get n →
                    t.node n = ⟨if t.config.nodes.get n = .none then .absent else .offline, 0, 0, 0, none, none⟩
                    ∧ ((s.node n).state = .lost → t.told q ⟨.nodeState, n, 3, s.clock.value, .none⟩)
                    ∧ (s.config.nodes.get n = .sense → (s.node n).state = .online → t.safety.standing = .missing))
                  ∧ (∀ r ∈ s.sweep.running.toList, r.tx.node = n → t.sweep = { s.sweep with
                    running := some { r with tx := { r.tx with counted := false } } }))
                ∧ (table.val = 6 → t.config.global = g →
                  t = { s with config := t.config, safety := { s.safety with wind := t.safety.wind }, ports := t.ports }
                  ∧ (s.safety.standing = .missing → t.safety.wind = .windStop)
                  ∧ (s.safety.standing ≠ .missing →
                    (s.safety.wind ≠ .windStop → g.wStop ≤ s.safety.gust → t.safety.wind = .windStop)
                    ∧ (s.safety.wind ≠ .windStop → s.safety.gust < g.wStop →
                      t.safety.wind = if s.safety.gust ≤ g.wCalm then .calm else .derate)
                    ∧ (s.safety.wind = .windStop → g.wStop < s.safety.gust + g.wHyst → t.safety.wind = .windStop)
                    ∧ (s.safety.wind = .windStop → s.safety.gust + g.wHyst ≤ g.wStop →
                      t.safety.wind = if s.safety.gust ≤ g.wCalm then .calm else .derate)))))))))

/-- CONFIG_SAVE leaves its port WORKING until the write ends; SAVE_END makes the save state IDLE and answers the port that
still waits for it; a failed write leaves a bad image (R166, 10 R169, R178). The image holds the format code, the six tables
in force in order of their codes, and the CRC-16 over both; the format code's number and the bytes of a table are the model's
(log 18). SAVE_END with no save in flight has no effect: the model's choice (log 3). -/
def Obligations.ConfigSave : Prop :=
  ∀ (s : State) (p : Port) (tag : U8) (tg k n : Nat) (r : Response),
    (∀ g : Tables, g.bytes = [g.rights.a, g.rights.b, g.rights.c].flatMap PortRights.bytes
      ++ (g.jets.rows.flatMap JetConfig.bytes ++ (g.headers.rows.flatMap HeaderConfig.bytes
      ++ (g.fixtures.rows.flatMap FixtureConfig.bytes ++ ((g.nodes.rows.flatMap fun e => [byteOf (nodeTypeCode e)])
      ++ g.global.bytes)))))
    ∧ (s.portReady p →
      ((s.rights p).config = false → exec (.configSave p tag) s = .next (s.refused p 0x62 tag .noRight))
      ∧ ((s.rights p).config = true → s.unit.mode ≠ .setup →
        exec (.configSave p tag) s = .next (s.refused p 0x62 tag .wrongMode))
      ∧ ((s.rights p).config = true → s.unit.mode = .setup → s.unit.saving ≠ none →
        exec (.configSave p tag) s = .next (s.refused p 0x62 tag .busy))
      ∧ ((s.rights p).config = true → s.unit.mode = .setup → s.unit.saving = none →
        exec (.configSave p tag) s = .next ((s.setPort p { s.port p with state := .working 0x62 tag }).setUnit
          { s.unit with saving := some p })))
    ∧ (s.unit.saving = none → exec (.saveEnd true) s = .next s ∧ exec (.saveEnd false) s = .next s)
    ∧ (s.unit.saving = some p →
      ((s.port p).state = .working 0x62 tg →
        exec (.saveEnd true) s = .next (State.setPort { s with
            image := .written Config.formatCode s.config (crc16 (Config.formatCode :: s.config.bytes))
            unit := { s.unit with saving := none } }
          p { s.port p with state := .answering 0x62 tg ⟨.ok, .empty⟩, error := none })
        ∧ exec (.saveEnd false) s = .next (State.setPort { s with
            image := .spoiled, unit := { s.unit with saving := none } }
          p { s.port p with
            state := .answering 0x62 tg ⟨.wrongState, .empty⟩, error := some ⟨.wrongState, 0x62, 0, 0, 0⟩ }))
      ∧ ((s.port p).state = .ready ∨ (s.port p).state = .answering k n r →
        exec (.saveEnd true) s = .next { s with
          image := .written Config.formatCode s.config (crc16 (Config.formatCode :: s.config.bytes))
          unit := { s.unit with saving := none } }
        ∧ exec (.saveEnd false) s = .next { s with image := .spoiled, unit := { s.unit with saving := none } }))

/-- The validation of R161: it passes exactly where the ten requirements hold, and otherwise names the first that fails, its
table and the index of the entry; which pair of two clashing entries comes first is the model's reading (log 31). -/
def Obligations.Validation : Prop :=
  ∀ (t : Tables) (f : Failure),
    (t.validate = none ↔ ∀ k, k < 11 → t.requires k)
    ∧ (t.validate = some f → 1 ≤ f.check ∧ f.check ≤ 10 ∧ f.table = checkedTable f.check
      ∧ ¬ t.requires f.check ∧ t.reports f.check f.index ∧ ∀ k, k < f.check → t.requires k)

/-- MODE: the target code and the checks of R162 in order, and the four changes with what each hands on (R163, R164); the idle
timer's expiry in LIVE (R164, R165). IDLE_TIMER_EXPIRY before the deadline, outside LIVE and with the timer OFF has no effect:
the model's choice (log 3). The idle condition is evaluated once (log 23). -/
def Obligations.ModeAndIdleTimer : Prop :=
  ∀ (s : State) (p q x : Port) (tag target : U8) (f : Failure) (ch : Fin 177) (d : Nat),
    (s.unit.idleDeadline = none → exec .idleTimerExpiry s = .next s)
    ∧ (s.unit.idleDeadline = some d → s.now < d ∨ s.unit.mode ≠ .live → exec .idleTimerExpiry s = .next s)
    ∧ (s.unit.idleDeadline = some d → d ≤ s.now → s.unit.mode = .live → exec .idleTimerExpiry s = .next
      ((s.setUnit { s.unit with mode := .dark, idleDeadline := none }).postAll .modeChanged 255 3))
    ∧ (s.portReady p →
      (target.val = 0 ∨ 3 < target.val →
        exec (.mode p tag target) s = .next (s.refusal p 0x63 tag .outOfRange 1 0 0))
      ∧ (s.unit.mode = .setup →
        exec (.mode p tag 1) s = .next (s.ok p 0x63 tag)
        ∧ exec (.mode p tag 3) s = .next (s.refused p 0x63 tag .wrongState)
        ∧ ((s.rights p).config = false → exec (.mode p tag 2) s = .next (s.refused p 0x63 tag .noRight))
        ∧ ((s.rights p).config = true → s.unit.saving ≠ none →
          exec (.mode p tag 2) s = .next (s.refused p 0x63 tag .busy))
        ∧ ((s.rights p).config = true → s.unit.saving = none →
          (s.config.validate = some f →
            exec (.mode p tag 2) s = .next (s.refusal p 0x63 tag .configInvalid f.table f.index f.check))
          ∧ (s.config.validate = none → exec (.mode p tag 2) s = .next ((settleIdle s
            ((s.setUnit { s.unit with mode := .dark }).postAll .modeChanged 255 1)).ok p 0x63 tag))))
      ∧ (s.unit.mode = .live →
        exec (.mode p tag 3) s = .next (s.ok p 0x63 tag)
        ∧ exec (.mode p tag 1) s = .next (s.refused p 0x63 tag .wrongState)
        ∧ ((s.rights p).showRight = false → exec (.mode p tag 2) s = .next (s.refused p 0x63 tag .noRight))
        ∧ ((s.rights p).showRight = true → s.anyTrackMoves = true ∨ s.clock.run ≠ .stopped →
          exec (.mode p tag 2) s = .next (s.refused p 0x63 tag .busy))
        ∧ ((s.rights p).showRight = true → s.anyTrackMoves = false → s.clock.run = .stopped →
          exec (.mode p tag 2) s = .next (((s.setUnit { s.unit with mode := .dark, idleDeadline := none }).postAll
            .modeChanged 255 1).ok p 0x63 tag)))
      ∧ (s.unit.mode = .dark →
        exec (.mode p tag 2) s = .next (s.ok p 0x63 tag)
        ∧ ((s.rights p).showRight = false → exec (.mode p tag 3) s = .next (s.refused p 0x63 tag .noRight))
        ∧ ((s.rights p).showRight = true → exec (.mode p tag 3) s = .next ((settleIdle s
          ((s.setUnit { s.unit with mode := .live }).postAll .modeChanged 255 2)).ok p 0x63 tag))
        ∧ ((s.rights p).config = false → exec (.mode p tag 1) s = .next (s.refused p 0x63 tag .noRight))
        ∧ ((s.rights p).config = true → s.shaper.outputsAtRest = false →
          exec (.mode p tag 1) s = .next (s.refused p 0x63 tag .busy))
        ∧ ((s.rights p).config = true → s.shaper.outputsAtRest = true → ∃ t, exec (.mode p tag 1) s = .next t
          ∧ t.unit.mode = .setup ∧ t.told q ⟨.modeChanged, 255, 0, s.clock.value, .none⟩
          ∧ t.entry ch = (if (s.entry ch).hold.holder = none then s.entry ch
            else ⟨.free, (s.entry ch).watchers, none⟩)
          ∧ ((s.entry ch).hold.holder = some x → t.told x ⟨.lost, ch, 3, s.clock.value, .none⟩)
          ∧ (s.waitsFor x ch → t.told x ⟨.claimDropped, ch, 3, s.clock.value, .none⟩)
          ∧ t.directory.waiters = [] ∧ t.directory.arrivals = 1
          ∧ (∀ r ∈ s.range.active.toList, t.range = ⟨none, some ⟨r.issuer, r.op, r.first, r.count, r.done, r.skipped,
            r.firstSkipped, r.count - r.done - r.skipped, .setup⟩⟩)
          ∧ t.tracks = Table.fill none
          ∧ (∀ k : Fin 4, ∀ b ∈ (s.track k).toList, t.told b.owner ⟨.trackState, k, 6, s.clock.value, .none⟩)
          ∧ t.clock = { s.clock with queue := [] }
          ∧ (∀ j : Fin 128, t.jets.get j = { s.jets.get j with commanded := 0 })
          ∧ (∀ i : Fin 48, t.fixtures.get i = ⟨⟨0, 0, 0, 0⟩, ⟨0, 0, 0, 0⟩, ⟨0, 0, 0, 0⟩, 0, 0, ⟨0, 0, 0, 0⟩,
            (s.fixtures.get i).followLevel, .mode⟩)
          ∧ (t.port p).state = .answering 0x63 tag ⟨.ok, .empty⟩
          ∧ (t.safety = s.safety ∧ t.headers = s.headers ∧ t.nodes = s.nodes ∧ t.cues = s.cues
            ∧ t.config = s.config))))

/-- The idle condition and its evaluation (R165): an OFF timer starts where the condition holds and the idle time is not 0,
with a deadline of now and the idle time in minutes; a RUNNING one stands where it holds and goes OFF where it fails. The
condition is evaluated at a change of a track's state, the run state or the mode, once for a command (the model's reading, log
23), and at the end of the Shaper's part of each frame event, by the commanded heights and valve outputs as they then stand.
-/
def Obligations.IdleEvaluation : Prop :=
  ∀ (s u : State),
    (s.idleCondition = true ↔ s.unit.mode = .live ∧ (∀ t : Fin 4, trackName (s.track t) ≠ .running
      ∧ trackName (s.track t) ≠ .waiting) ∧ s.clock.run = .stopped ∧ s.shaper.jetsStill = true)
    ∧ (s.unit.idleDeadline = none → s.idleCondition = true → s.config.global.idleTime ≠ 0 →
      s.evalIdle = s.setUnit { s.unit with idleDeadline := some (s.now + s.config.global.idleTime * 60000) })
    ∧ (s.unit.idleDeadline = none → s.idleCondition = false ∨ s.config.global.idleTime = 0 → s.evalIdle = s)
    ∧ (s.unit.idleDeadline ≠ none → s.idleCondition = true → s.evalIdle = s)
    ∧ (s.unit.idleDeadline ≠ none → s.idleCondition = false →
      s.evalIdle = s.setUnit { s.unit with idleDeadline := none })
    ∧ ((∃ t : Fin 4, trackName (u.track t) ≠ trackName (s.track t)) ∨ u.clock.run ≠ s.clock.run
      ∨ u.unit.mode ≠ s.unit.mode → settleIdle s u = u.evalIdle)
    ∧ ((∀ t : Fin 4, trackName (u.track t) = trackName (s.track t)) → u.clock.run = s.clock.run →
      u.unit.mode = s.unit.mode → settleIdle s u = u)
    ∧ (s.shaper.frameDue ≤ s.now → exec .frameEvent s = .next u → u.unit = (State.evalIdle { u with unit := s.unit }).unit
      ∧ (u.shaper.jetsStill = true ↔ ∀ j : Fin 128, (u.jets.get j).commanded = 0 ∧ (u.jets.get j).valve = 0))

/-- A show reset, from SHOW_RESET of a port with the SAFETY right and from the line (R168): the tracks, the range record, the
Directory, the clock, the freeze and the notice queues, and LIVE becoming DARK with MODE_CHANGED first in each queue; the rest
of the part stands. -/
def Obligations.ShowReset : Prop :=
  ∀ (s : State) (p q : Port) (tag : U8) (c : Instr) (ch : Fin 177),
    (s.portReady p → (s.rights p).safety = false → exec (.showReset p tag) s = .next (s.refused p 0x64 tag .noRight))
    ∧ ((c = .showReset p tag ∧ s.portReady p ∧ (s.rights p).safety = true) ∨ c = .showResetLine → ∃ t, exec c s = .next t
      ∧ t.tracks = Table.fill none ∧ t.range = ⟨none, none⟩
      ∧ t.entry ch = ⟨if ch.val < 176 ∧ s.safety.state ≠ .normal then .safed else .free, ⟨false, false, false⟩, none⟩
      ∧ t.directory.waiters = [] ∧ t.directory.arrivals = 1
      ∧ t.clock = ⟨0, .stopped, .internal, false, false, false, 0, [], [], 256, ⟨0, 0⟩⟩
      ∧ t.safety = { s.safety with freeze := .none }
      ∧ (s.unit.mode = .live → t.unit = ⟨.dark, none, s.unit.saving, s.unit.outcome⟩
        ∧ (t.port q).notices = [⟨.modeChanged, 255, 4, 0, .none⟩])
      ∧ (s.unit.mode ≠ .live → t.unit.mode = s.unit.mode ∧ t.unit.saving = s.unit.saving
        ∧ t.unit.outcome = s.unit.outcome ∧ (t.port q).notices = [])
      ∧ (t.port q).lost = false ∧ (t.port q).resetHeld = (s.port q).resetHeld
      ∧ (c = .showReset p tag → (t.port p).state = .answering 0x64 tag ⟨.ok, .empty⟩ ∧ (t.port p).error = none)
      ∧ (c = .showResetLine ∨ q ≠ p → (t.port q).state = (s.port q).state ∧ (t.port q).error = (s.port q).error)
      ∧ t = { s with tracks := t.tracks, range := t.range, directory := t.directory, clock := t.clock
                     safety := t.safety, unit := t.unit, ports := t.ports })

/-- Every step keeps the tables in range with the SAFETY right at a port, validated outside SETUP, and a save within SETUP
(R157, R159, R161, R166); the clock STOPPED outside LIVE and the idle timer OFF where the idle condition fails (04 R71, R165);
and in SETUP no holding, no waiter, no owned track, no queued music and no lamp lit (R155). -/
def Obligations.StepKeepsModesSound : Prop :=
  ∀ (s t : State), step s = .next t →
    (s.ConfigSound → t.ConfigSound) ∧ (s.IdleSound → t.IdleSound ∧ (s.SetupSound → t.SetupSound))

/-! ## The link ports (10) -/

/-- A frame sent to a port that is WORKING, ANSWERING or held in link reset is lost (R169, R178); that it is lost at a port
ANSWERING also where it is as long as the response, which R169 could be read to take as collected, is the model's reading (log
5). The checks of R171: a length other than 6 and the body length, a body length above 1040 and a wrong CRC-16 are BAD_FRAME;
a kind the table does not list and a body of another length than it gives are BAD_REQUEST, a CUE_LOAD count above 16 among
them by the model's choice (log 7); every other frame is read as a request of its port. A frame refused is answered with its
kind and tag echoed and has no effect on any block; the tag of a selection that ended before it is a free value (log 6). A
selection that clocks out the whole response, of a length that rests on the model's body layouts (log 9), makes the port READY
(R169). A link reset clears its port alone (R178). The model's choice: LINK_RESET of an input already held and
RESPONSE_COLLECT at a port that is not ANSWERING have no effect (log 3). -/
def Obligations.LinkEvents : Prop :=
  ∀ (s : State) (p : Port) (c : Instr) (tg : U8) (kind tag high low : Byte) (rest body : List Byte) (fault : FrameFault)
    (k n clocked : Nat) (r : Response),
    (requestPort c = some p → ¬ s.portReady p → exec c s = .next s)
    ∧ (¬ s.portReady p → exec (.badFrame p rest) s = .next s)
    ∧ (s.portReady p → exec (.badFrame p []) s = .next s ∧ exec (.badFrame p (0 :: rest)) s = .next s
      ∧ (kind ≠ 0 →
        (checkFrame p (kind :: tag :: rest) = .error fault → exec (.badFrame p (kind :: tag :: rest)) s = .next
          (s.refused p kind.toNat ⟨tag.toNat, tag.isLt⟩
            (if fault = .badFrame then .badFrame else .badRequest)))
        ∧ (Config.missingTag s.freeCount = tg → exec (.badFrame p [kind]) s = .next
          (State.refused { s with freeCount := s.freeCount + 1 } p kind.toNat tg .badFrame))))
    ∧ (rest.length < 2 → checkFrame p (kind :: tag :: rest) = .error .badFrame)
    ∧ (1040 < 256 * high.toNat + low.toNat ∨ rest.length ≠ 256 * high.toNat + low.toNat + 2 →
      checkFrame p (kind :: tag :: high :: low :: rest) = .error .badFrame)
    ∧ (256 * high.toNat + low.toNat = body.length → body.length ≤ 1040 →
      (rest.length = 2 → rest ≠ crcBytes (kind :: tag :: high :: low :: body) →
        checkFrame p (kind :: tag :: high :: low :: (body ++ rest)) = .error .badFrame)
      ∧ (¬ bodyPasses kind.toNat body →
        checkFrame p (kind :: tag :: high :: low :: (body ++ crcBytes (kind :: tag :: high :: low :: body)))
          = .error .badRequest)
      ∧ (bodyPasses kind.toNat body → ∃ i, requestPort i = some p
        ∧ checkFrame p (kind :: tag :: high :: low :: (body ++ crcBytes (kind :: tag :: high :: low :: body))) = .ok i))
    ∧ (((s.port p).state = .ready ∨ (s.port p).state = .working k n ∨ (s.port p).resetHeld = true) →
      exec (.responseCollect p clocked) s = .next s)
    ∧ ((s.port p).state = .answering k n r → (s.port p).resetHeld = false →
      ((responseFrame k n r).length ≤ clocked →
        exec (.responseCollect p clocked) s = .next (s.setPort p { s.port p with state := .ready }))
      ∧ (clocked < (responseFrame k n r).length → exec (.responseCollect p clocked) s = .next s))
    ∧ ((s.port p).resetHeld = true → exec (.linkReset p) s = .next s)
    ∧ ((s.port p).resetHeld = false → exec (.linkReset p) s = .next (s.setPort p ⟨.ready, none, [], false, true⟩))
    ∧ exec (.linkResetReleased p) s = .next (s.setPort p { s.port p with resetHeld := false })

/-- A notice posted to a port joins the tail of its queue, with the show clock's value, where the queue holds fewer than 32;
at 32 it is discarded, the queue stands and the lost-notice flag is set (R176). A posting to one port leaves every other as it
was, and the attention line is asserted exactly while the queue is not empty. NOTICE_READ answers with the oldest notices, at
most 8, and the flag, and removes them (R177). IDENTIFY answers with what the part is (R179). Both with the bytes of their
bodies. -/
def Obligations.NoticesAndIdentify : Prop :=
  ∀ (s : State) (p q : Port) (ports : PortSet) (tag : U8) (lost : Bool) (l : List Notice) (lp : LinkPort) (x : Notice)
    (kind : NoticeKind) (subject detail : Nat) (extra : NoticeExtra),
    (lp.notices.length < 32 → lp.receive x = ⟨lp.state, lp.error, lp.notices ++ [x], lp.lost, lp.resetHeld⟩)
    ∧ (32 ≤ lp.notices.length → lp.receive x = ⟨lp.state, lp.error, lp.notices, true, lp.resetHeld⟩)
    ∧ s.post p kind subject detail extra
      = s.setPort p ((s.port p).receive ⟨kind, subject, detail, s.clock.value, extra⟩)
    ∧ s.postTo ports kind subject detail = { s with ports := (s.postTo ports kind subject detail).ports }
    ∧ (s.postTo ports kind subject detail).port q = (if ports.get q then
        (s.port q).receive ⟨kind, subject, detail, s.clock.value, .none⟩ else s.port q)
    ∧ s.postAll kind subject detail = s.postTo ⟨true, true, true⟩ kind subject detail
    ∧ (s.audHolder = some q → s.postAud kind detail = s.post q kind 176 detail)
    ∧ (s.audHolder = none → s.postAud kind detail = s)
    ∧ (s.attention p = true ↔ (s.port p).notices ≠ [])
    ∧ (s.portReady p → exec (.noticeRead p tag) s = .next (s.setPort p
      ⟨.answering 0x71 tag ⟨.ok, .notices (s.port p).lost ((s.port p).notices.take 8)⟩, none, (s.port p).notices.drop 8,
        (s.port p).lost && decide ((s.port p).notices.drop 8 ≠ []), (s.port p).resetHeld⟩))
    ∧ (Body.notices lost l).bytes = BitVec.ofNat 8 l.length :: (if lost then 1 else 0) :: (l.map Notice.bytes).flatten
    ∧ (∀ n ∈ l, (Notice.bytes n).length = 12)
    ∧ (s.portReady p → exec (.identify p tag) s = .next (s.answered p 0x72 tag .ok (.identity p)))
    ∧ (Body.identity p).bytes = [0x06, 0x20, 1, 177, 16, 0x08, 0x00, 4, 48, 32, 32,
        if p = .a then 0 else if p = .b then 1 else 2]

/-- Every well-formed request has a frame, and a frame sent on the request's port is read as that request (R170 to R172). -/
def Obligations.RequestFramesRoundTrip : Prop :=
  ∀ (i : Instr) (p : Port), i.wellFormed = true → requestPort i = some p →
    (encodeFrame i).isSome = true ∧ ∀ frame ∈ (encodeFrame i).toList, checkFrame p frame = .ok i
end

