-- ==== Sys2Proof/Laws/Table.lean ====
section
/-! SUPPORT. Reading a table that was built, filled or changed at one row, and equality of tables row by row. -/

namespace Sys2Proof.Table

variable {α : Type} {n : Nat}

theorem collect_get (f : Fin n → α) :
    ∀ (k : Nat) (h : k ≤ n) (acc : List α) (i : Nat) (hi : i < (collect f k h acc).length),
      (collect f k h acc)[i] =
        if h' : i < k then f ⟨i, by omega⟩ else acc[i - k]'(by rw [collect_length] at hi; omega)
  | 0, _, acc, i, hi => by simp [collect]
  | k + 1, h, acc, i, hi => by
    simp only [collect]
    rw [collect_get f k]
    by_cases h1 : i < k
    · simp [h1, Nat.lt_succ_of_lt h1]
    · by_cases h2 : i = k
      · subst h2; simp
      · have h3 : ¬i < k + 1 := by omega
        simp only [h1, h3, dite_false]
        rw [List.getElem_cons]
        split
        · omega
        · congr 1

@[simp] theorem get_build (f : Fin n → α) (i : Fin n) : (build f).get i = f i := by
  simp [get, build, collect_get]

@[simp] theorem get_fill (v : α) (i : Fin n) : (fill v : Table α n).get i = v := by
  simp [get, fill]

@[simp] theorem get_set_self (t : Table α n) (i : Fin n) (v : α) : (t.set i v).get i = v := by
  simp [get, set]

theorem get_set_ne (t : Table α n) {i j : Fin n} (v : α) (h : i ≠ j) : (t.set i v).get j = t.get j := by
  have h' : i.val ≠ j.val := fun e => h (Fin.ext e)
  simp [get, set, h']

theorem get_set (t : Table α n) (i j : Fin n) (v : α) : (t.set i v).get j = if i = j then v else t.get j := by
  by_cases h : i = j
  · subst h; simp
  · simp [h, get_set_ne t v h]

theorem ext_get {t u : Table α n} (h : ∀ i, t.get i = u.get i) : t = u := by
  obtain ⟨l, hl⟩ := t
  obtain ⟨m, hm⟩ := u
  have e : l = m := List.ext_getElem (by omega) fun i h1 _ => h ⟨i, by omega⟩
  subst e
  rfl

/-- Every row satisfies a test exactly when it does at every index. -/
theorem all_rows (t : Table α n) (p : α → Bool) : t.rows.all p = true ↔ ∀ i, p (t.get i) = true := by
  rw [List.all_eq_true]
  constructor
  · intro h i
    exact h _ (List.getElem_mem _)
  · intro h x hx
    obtain ⟨k, hk, rfl⟩ := List.mem_iff_getElem.mp hx
    exact h ⟨k, by have := t.size; omega⟩

/-- The indices are every index. -/
theorem mem_indices (i : Fin n) : i ∈ indices n := by
  rw [List.mem_iff_getElem]
  refine ⟨i.val, ?_, ?_⟩
  · simp [indices, collect_length]
  · simp [indices, collect_get]

end Sys2Proof.Table
end

