-- ==== Sys2Proof/Laws/State.lean ====
section
/-! SUPPORT. One lemma for each field under each update of State, and reading back a record that an update wrote. -/

namespace Sys2Proof.Machine

variable (s : State)

/-! ## State.setPort -/

@[simp] theorem State.setPort_pending (p : Port) (lp : LinkPort) : (s.setPort p lp).pending = s.pending := rfl
@[simp] theorem State.setPort_freeCount (p : Port) (lp : LinkPort) : (s.setPort p lp).freeCount = s.freeCount := rfl
@[simp] theorem State.setPort_now (p : Port) (lp : LinkPort) : (s.setPort p lp).now = s.now := rfl
@[simp] theorem State.setPort_directory (p : Port) (lp : LinkPort) : (s.setPort p lp).directory = s.directory := rfl
@[simp] theorem State.setPort_range (p : Port) (lp : LinkPort) : (s.setPort p lp).range = s.range := rfl
@[simp] theorem State.setPort_cues (p : Port) (lp : LinkPort) : (s.setPort p lp).cues = s.cues := rfl
@[simp] theorem State.setPort_tracks (p : Port) (lp : LinkPort) : (s.setPort p lp).tracks = s.tracks := rfl
@[simp] theorem State.setPort_clock (p : Port) (lp : LinkPort) : (s.setPort p lp).clock = s.clock := rfl
@[simp] theorem State.setPort_jets (p : Port) (lp : LinkPort) : (s.setPort p lp).jets = s.jets := rfl
@[simp] theorem State.setPort_headers (p : Port) (lp : LinkPort) : (s.setPort p lp).headers = s.headers := rfl
@[simp] theorem State.setPort_shaper (p : Port) (lp : LinkPort) : (s.setPort p lp).shaper = s.shaper := rfl
@[simp] theorem State.setPort_fixtures (p : Port) (lp : LinkPort) : (s.setPort p lp).fixtures = s.fixtures := rfl
@[simp] theorem State.setPort_fixtureReport (p : Port) (lp : LinkPort) : (s.setPort p lp).fixtureReport = s.fixtureReport := rfl
@[simp] theorem State.setPort_nodes (p : Port) (lp : LinkPort) : (s.setPort p lp).nodes = s.nodes := rfl
@[simp] theorem State.setPort_sweep (p : Port) (lp : LinkPort) : (s.setPort p lp).sweep = s.sweep := rfl
@[simp] theorem State.setPort_safety (p : Port) (lp : LinkPort) : (s.setPort p lp).safety = s.safety := rfl
@[simp] theorem State.setPort_unit (p : Port) (lp : LinkPort) : (s.setPort p lp).unit = s.unit := rfl
@[simp] theorem State.setPort_config (p : Port) (lp : LinkPort) : (s.setPort p lp).config = s.config := rfl
@[simp] theorem State.setPort_image (p : Port) (lp : LinkPort) : (s.setPort p lp).image = s.image := rfl

/-! ## State.setEntry -/

@[simp] theorem State.setEntry_pending (ch : Fin 177) (e : ChannelEntry) : (s.setEntry ch e).pending = s.pending := rfl
@[simp] theorem State.setEntry_freeCount (ch : Fin 177) (e : ChannelEntry) : (s.setEntry ch e).freeCount = s.freeCount := rfl
@[simp] theorem State.setEntry_now (ch : Fin 177) (e : ChannelEntry) : (s.setEntry ch e).now = s.now := rfl
@[simp] theorem State.setEntry_range (ch : Fin 177) (e : ChannelEntry) : (s.setEntry ch e).range = s.range := rfl
@[simp] theorem State.setEntry_cues (ch : Fin 177) (e : ChannelEntry) : (s.setEntry ch e).cues = s.cues := rfl
@[simp] theorem State.setEntry_tracks (ch : Fin 177) (e : ChannelEntry) : (s.setEntry ch e).tracks = s.tracks := rfl
@[simp] theorem State.setEntry_clock (ch : Fin 177) (e : ChannelEntry) : (s.setEntry ch e).clock = s.clock := rfl
@[simp] theorem State.setEntry_jets (ch : Fin 177) (e : ChannelEntry) : (s.setEntry ch e).jets = s.jets := rfl
@[simp] theorem State.setEntry_headers (ch : Fin 177) (e : ChannelEntry) : (s.setEntry ch e).headers = s.headers := rfl
@[simp] theorem State.setEntry_shaper (ch : Fin 177) (e : ChannelEntry) : (s.setEntry ch e).shaper = s.shaper := rfl
@[simp] theorem State.setEntry_fixtures (ch : Fin 177) (e : ChannelEntry) : (s.setEntry ch e).fixtures = s.fixtures := rfl
@[simp] theorem State.setEntry_fixtureReport (ch : Fin 177) (e : ChannelEntry) : (s.setEntry ch e).fixtureReport = s.fixtureReport := rfl
@[simp] theorem State.setEntry_nodes (ch : Fin 177) (e : ChannelEntry) : (s.setEntry ch e).nodes = s.nodes := rfl
@[simp] theorem State.setEntry_sweep (ch : Fin 177) (e : ChannelEntry) : (s.setEntry ch e).sweep = s.sweep := rfl
@[simp] theorem State.setEntry_safety (ch : Fin 177) (e : ChannelEntry) : (s.setEntry ch e).safety = s.safety := rfl
@[simp] theorem State.setEntry_unit (ch : Fin 177) (e : ChannelEntry) : (s.setEntry ch e).unit = s.unit := rfl
@[simp] theorem State.setEntry_config (ch : Fin 177) (e : ChannelEntry) : (s.setEntry ch e).config = s.config := rfl
@[simp] theorem State.setEntry_image (ch : Fin 177) (e : ChannelEntry) : (s.setEntry ch e).image = s.image := rfl
@[simp] theorem State.setEntry_ports (ch : Fin 177) (e : ChannelEntry) : (s.setEntry ch e).ports = s.ports := rfl

/-! ## State.setWaiters -/

@[simp] theorem State.setWaiters_pending (l : List WaitEntry) : (s.setWaiters l).pending = s.pending := rfl
@[simp] theorem State.setWaiters_freeCount (l : List WaitEntry) : (s.setWaiters l).freeCount = s.freeCount := rfl
@[simp] theorem State.setWaiters_now (l : List WaitEntry) : (s.setWaiters l).now = s.now := rfl
@[simp] theorem State.setWaiters_range (l : List WaitEntry) : (s.setWaiters l).range = s.range := rfl
@[simp] theorem State.setWaiters_cues (l : List WaitEntry) : (s.setWaiters l).cues = s.cues := rfl
@[simp] theorem State.setWaiters_tracks (l : List WaitEntry) : (s.setWaiters l).tracks = s.tracks := rfl
@[simp] theorem State.setWaiters_clock (l : List WaitEntry) : (s.setWaiters l).clock = s.clock := rfl
@[simp] theorem State.setWaiters_jets (l : List WaitEntry) : (s.setWaiters l).jets = s.jets := rfl
@[simp] theorem State.setWaiters_headers (l : List WaitEntry) : (s.setWaiters l).headers = s.headers := rfl
@[simp] theorem State.setWaiters_shaper (l : List WaitEntry) : (s.setWaiters l).shaper = s.shaper := rfl
@[simp] theorem State.setWaiters_fixtures (l : List WaitEntry) : (s.setWaiters l).fixtures = s.fixtures := rfl
@[simp] theorem State.setWaiters_fixtureReport (l : List WaitEntry) : (s.setWaiters l).fixtureReport = s.fixtureReport := rfl
@[simp] theorem State.setWaiters_nodes (l : List WaitEntry) : (s.setWaiters l).nodes = s.nodes := rfl
@[simp] theorem State.setWaiters_sweep (l : List WaitEntry) : (s.setWaiters l).sweep = s.sweep := rfl
@[simp] theorem State.setWaiters_safety (l : List WaitEntry) : (s.setWaiters l).safety = s.safety := rfl
@[simp] theorem State.setWaiters_unit (l : List WaitEntry) : (s.setWaiters l).unit = s.unit := rfl
@[simp] theorem State.setWaiters_config (l : List WaitEntry) : (s.setWaiters l).config = s.config := rfl
@[simp] theorem State.setWaiters_image (l : List WaitEntry) : (s.setWaiters l).image = s.image := rfl
@[simp] theorem State.setWaiters_ports (l : List WaitEntry) : (s.setWaiters l).ports = s.ports := rfl

/-! ## State.setTrack -/

@[simp] theorem State.setTrack_pending (t : Fin 4) (v : Track) : (s.setTrack t v).pending = s.pending := rfl
@[simp] theorem State.setTrack_freeCount (t : Fin 4) (v : Track) : (s.setTrack t v).freeCount = s.freeCount := rfl
@[simp] theorem State.setTrack_now (t : Fin 4) (v : Track) : (s.setTrack t v).now = s.now := rfl
@[simp] theorem State.setTrack_directory (t : Fin 4) (v : Track) : (s.setTrack t v).directory = s.directory := rfl
@[simp] theorem State.setTrack_range (t : Fin 4) (v : Track) : (s.setTrack t v).range = s.range := rfl
@[simp] theorem State.setTrack_cues (t : Fin 4) (v : Track) : (s.setTrack t v).cues = s.cues := rfl
@[simp] theorem State.setTrack_clock (t : Fin 4) (v : Track) : (s.setTrack t v).clock = s.clock := rfl
@[simp] theorem State.setTrack_jets (t : Fin 4) (v : Track) : (s.setTrack t v).jets = s.jets := rfl
@[simp] theorem State.setTrack_headers (t : Fin 4) (v : Track) : (s.setTrack t v).headers = s.headers := rfl
@[simp] theorem State.setTrack_shaper (t : Fin 4) (v : Track) : (s.setTrack t v).shaper = s.shaper := rfl
@[simp] theorem State.setTrack_fixtures (t : Fin 4) (v : Track) : (s.setTrack t v).fixtures = s.fixtures := rfl
@[simp] theorem State.setTrack_fixtureReport (t : Fin 4) (v : Track) : (s.setTrack t v).fixtureReport = s.fixtureReport := rfl
@[simp] theorem State.setTrack_nodes (t : Fin 4) (v : Track) : (s.setTrack t v).nodes = s.nodes := rfl
@[simp] theorem State.setTrack_sweep (t : Fin 4) (v : Track) : (s.setTrack t v).sweep = s.sweep := rfl
@[simp] theorem State.setTrack_safety (t : Fin 4) (v : Track) : (s.setTrack t v).safety = s.safety := rfl
@[simp] theorem State.setTrack_unit (t : Fin 4) (v : Track) : (s.setTrack t v).unit = s.unit := rfl
@[simp] theorem State.setTrack_config (t : Fin 4) (v : Track) : (s.setTrack t v).config = s.config := rfl
@[simp] theorem State.setTrack_image (t : Fin 4) (v : Track) : (s.setTrack t v).image = s.image := rfl
@[simp] theorem State.setTrack_ports (t : Fin 4) (v : Track) : (s.setTrack t v).ports = s.ports := rfl

/-! ## State.setClock -/

@[simp] theorem State.setClock_pending (c : ClockUnit) : (s.setClock c).pending = s.pending := rfl
@[simp] theorem State.setClock_freeCount (c : ClockUnit) : (s.setClock c).freeCount = s.freeCount := rfl
@[simp] theorem State.setClock_now (c : ClockUnit) : (s.setClock c).now = s.now := rfl
@[simp] theorem State.setClock_directory (c : ClockUnit) : (s.setClock c).directory = s.directory := rfl
@[simp] theorem State.setClock_range (c : ClockUnit) : (s.setClock c).range = s.range := rfl
@[simp] theorem State.setClock_cues (c : ClockUnit) : (s.setClock c).cues = s.cues := rfl
@[simp] theorem State.setClock_tracks (c : ClockUnit) : (s.setClock c).tracks = s.tracks := rfl
@[simp] theorem State.setClock_clock (c : ClockUnit) : (s.setClock c).clock = c := rfl
@[simp] theorem State.setClock_jets (c : ClockUnit) : (s.setClock c).jets = s.jets := rfl
@[simp] theorem State.setClock_headers (c : ClockUnit) : (s.setClock c).headers = s.headers := rfl
@[simp] theorem State.setClock_shaper (c : ClockUnit) : (s.setClock c).shaper = s.shaper := rfl
@[simp] theorem State.setClock_fixtures (c : ClockUnit) : (s.setClock c).fixtures = s.fixtures := rfl
@[simp] theorem State.setClock_fixtureReport (c : ClockUnit) : (s.setClock c).fixtureReport = s.fixtureReport := rfl
@[simp] theorem State.setClock_nodes (c : ClockUnit) : (s.setClock c).nodes = s.nodes := rfl
@[simp] theorem State.setClock_sweep (c : ClockUnit) : (s.setClock c).sweep = s.sweep := rfl
@[simp] theorem State.setClock_safety (c : ClockUnit) : (s.setClock c).safety = s.safety := rfl
@[simp] theorem State.setClock_unit (c : ClockUnit) : (s.setClock c).unit = s.unit := rfl
@[simp] theorem State.setClock_config (c : ClockUnit) : (s.setClock c).config = s.config := rfl
@[simp] theorem State.setClock_image (c : ClockUnit) : (s.setClock c).image = s.image := rfl
@[simp] theorem State.setClock_ports (c : ClockUnit) : (s.setClock c).ports = s.ports := rfl

/-! ## State.setNode -/

@[simp] theorem State.setNode_pending (n : Fin 32) (r : NodeRecord) : (s.setNode n r).pending = s.pending := rfl
@[simp] theorem State.setNode_freeCount (n : Fin 32) (r : NodeRecord) : (s.setNode n r).freeCount = s.freeCount := rfl
@[simp] theorem State.setNode_now (n : Fin 32) (r : NodeRecord) : (s.setNode n r).now = s.now := rfl
@[simp] theorem State.setNode_directory (n : Fin 32) (r : NodeRecord) : (s.setNode n r).directory = s.directory := rfl
@[simp] theorem State.setNode_range (n : Fin 32) (r : NodeRecord) : (s.setNode n r).range = s.range := rfl
@[simp] theorem State.setNode_cues (n : Fin 32) (r : NodeRecord) : (s.setNode n r).cues = s.cues := rfl
@[simp] theorem State.setNode_tracks (n : Fin 32) (r : NodeRecord) : (s.setNode n r).tracks = s.tracks := rfl
@[simp] theorem State.setNode_clock (n : Fin 32) (r : NodeRecord) : (s.setNode n r).clock = s.clock := rfl
@[simp] theorem State.setNode_jets (n : Fin 32) (r : NodeRecord) : (s.setNode n r).jets = s.jets := rfl
@[simp] theorem State.setNode_headers (n : Fin 32) (r : NodeRecord) : (s.setNode n r).headers = s.headers := rfl
@[simp] theorem State.setNode_shaper (n : Fin 32) (r : NodeRecord) : (s.setNode n r).shaper = s.shaper := rfl
@[simp] theorem State.setNode_fixtures (n : Fin 32) (r : NodeRecord) : (s.setNode n r).fixtures = s.fixtures := rfl
@[simp] theorem State.setNode_fixtureReport (n : Fin 32) (r : NodeRecord) : (s.setNode n r).fixtureReport = s.fixtureReport := rfl
@[simp] theorem State.setNode_sweep (n : Fin 32) (r : NodeRecord) : (s.setNode n r).sweep = s.sweep := rfl
@[simp] theorem State.setNode_safety (n : Fin 32) (r : NodeRecord) : (s.setNode n r).safety = s.safety := rfl
@[simp] theorem State.setNode_unit (n : Fin 32) (r : NodeRecord) : (s.setNode n r).unit = s.unit := rfl
@[simp] theorem State.setNode_config (n : Fin 32) (r : NodeRecord) : (s.setNode n r).config = s.config := rfl
@[simp] theorem State.setNode_image (n : Fin 32) (r : NodeRecord) : (s.setNode n r).image = s.image := rfl
@[simp] theorem State.setNode_ports (n : Fin 32) (r : NodeRecord) : (s.setNode n r).ports = s.ports := rfl

/-! ## State.setSafety -/

@[simp] theorem State.setSafety_pending (r : Supervisor) : (s.setSafety r).pending = s.pending := rfl
@[simp] theorem State.setSafety_freeCount (r : Supervisor) : (s.setSafety r).freeCount = s.freeCount := rfl
@[simp] theorem State.setSafety_now (r : Supervisor) : (s.setSafety r).now = s.now := rfl
@[simp] theorem State.setSafety_directory (r : Supervisor) : (s.setSafety r).directory = s.directory := rfl
@[simp] theorem State.setSafety_range (r : Supervisor) : (s.setSafety r).range = s.range := rfl
@[simp] theorem State.setSafety_cues (r : Supervisor) : (s.setSafety r).cues = s.cues := rfl
@[simp] theorem State.setSafety_tracks (r : Supervisor) : (s.setSafety r).tracks = s.tracks := rfl
@[simp] theorem State.setSafety_clock (r : Supervisor) : (s.setSafety r).clock = s.clock := rfl
@[simp] theorem State.setSafety_jets (r : Supervisor) : (s.setSafety r).jets = s.jets := rfl
@[simp] theorem State.setSafety_headers (r : Supervisor) : (s.setSafety r).headers = s.headers := rfl
@[simp] theorem State.setSafety_shaper (r : Supervisor) : (s.setSafety r).shaper = s.shaper := rfl
@[simp] theorem State.setSafety_fixtures (r : Supervisor) : (s.setSafety r).fixtures = s.fixtures := rfl
@[simp] theorem State.setSafety_fixtureReport (r : Supervisor) : (s.setSafety r).fixtureReport = s.fixtureReport := rfl
@[simp] theorem State.setSafety_nodes (r : Supervisor) : (s.setSafety r).nodes = s.nodes := rfl
@[simp] theorem State.setSafety_sweep (r : Supervisor) : (s.setSafety r).sweep = s.sweep := rfl
@[simp] theorem State.setSafety_safety (r : Supervisor) : (s.setSafety r).safety = r := rfl
@[simp] theorem State.setSafety_unit (r : Supervisor) : (s.setSafety r).unit = s.unit := rfl
@[simp] theorem State.setSafety_config (r : Supervisor) : (s.setSafety r).config = s.config := rfl
@[simp] theorem State.setSafety_image (r : Supervisor) : (s.setSafety r).image = s.image := rfl
@[simp] theorem State.setSafety_ports (r : Supervisor) : (s.setSafety r).ports = s.ports := rfl

/-! ## State.setUnit -/

@[simp] theorem State.setUnit_pending (u : ModeUnit) : (s.setUnit u).pending = s.pending := rfl
@[simp] theorem State.setUnit_freeCount (u : ModeUnit) : (s.setUnit u).freeCount = s.freeCount := rfl
@[simp] theorem State.setUnit_now (u : ModeUnit) : (s.setUnit u).now = s.now := rfl
@[simp] theorem State.setUnit_directory (u : ModeUnit) : (s.setUnit u).directory = s.directory := rfl
@[simp] theorem State.setUnit_range (u : ModeUnit) : (s.setUnit u).range = s.range := rfl
@[simp] theorem State.setUnit_cues (u : ModeUnit) : (s.setUnit u).cues = s.cues := rfl
@[simp] theorem State.setUnit_tracks (u : ModeUnit) : (s.setUnit u).tracks = s.tracks := rfl
@[simp] theorem State.setUnit_clock (u : ModeUnit) : (s.setUnit u).clock = s.clock := rfl
@[simp] theorem State.setUnit_jets (u : ModeUnit) : (s.setUnit u).jets = s.jets := rfl
@[simp] theorem State.setUnit_headers (u : ModeUnit) : (s.setUnit u).headers = s.headers := rfl
@[simp] theorem State.setUnit_shaper (u : ModeUnit) : (s.setUnit u).shaper = s.shaper := rfl
@[simp] theorem State.setUnit_fixtures (u : ModeUnit) : (s.setUnit u).fixtures = s.fixtures := rfl
@[simp] theorem State.setUnit_fixtureReport (u : ModeUnit) : (s.setUnit u).fixtureReport = s.fixtureReport := rfl
@[simp] theorem State.setUnit_nodes (u : ModeUnit) : (s.setUnit u).nodes = s.nodes := rfl
@[simp] theorem State.setUnit_sweep (u : ModeUnit) : (s.setUnit u).sweep = s.sweep := rfl
@[simp] theorem State.setUnit_safety (u : ModeUnit) : (s.setUnit u).safety = s.safety := rfl
@[simp] theorem State.setUnit_unit (u : ModeUnit) : (s.setUnit u).unit = u := rfl
@[simp] theorem State.setUnit_config (u : ModeUnit) : (s.setUnit u).config = s.config := rfl
@[simp] theorem State.setUnit_image (u : ModeUnit) : (s.setUnit u).image = s.image := rfl
@[simp] theorem State.setUnit_ports (u : ModeUnit) : (s.setUnit u).ports = s.ports := rfl

/-! ## State.setSweep -/

@[simp] theorem State.setSweep_pending (w : Sweep) : (s.setSweep w).pending = s.pending := rfl
@[simp] theorem State.setSweep_freeCount (w : Sweep) : (s.setSweep w).freeCount = s.freeCount := rfl
@[simp] theorem State.setSweep_now (w : Sweep) : (s.setSweep w).now = s.now := rfl
@[simp] theorem State.setSweep_directory (w : Sweep) : (s.setSweep w).directory = s.directory := rfl
@[simp] theorem State.setSweep_range (w : Sweep) : (s.setSweep w).range = s.range := rfl
@[simp] theorem State.setSweep_cues (w : Sweep) : (s.setSweep w).cues = s.cues := rfl
@[simp] theorem State.setSweep_tracks (w : Sweep) : (s.setSweep w).tracks = s.tracks := rfl
@[simp] theorem State.setSweep_clock (w : Sweep) : (s.setSweep w).clock = s.clock := rfl
@[simp] theorem State.setSweep_jets (w : Sweep) : (s.setSweep w).jets = s.jets := rfl
@[simp] theorem State.setSweep_headers (w : Sweep) : (s.setSweep w).headers = s.headers := rfl
@[simp] theorem State.setSweep_shaper (w : Sweep) : (s.setSweep w).shaper = s.shaper := rfl
@[simp] theorem State.setSweep_fixtures (w : Sweep) : (s.setSweep w).fixtures = s.fixtures := rfl
@[simp] theorem State.setSweep_fixtureReport (w : Sweep) : (s.setSweep w).fixtureReport = s.fixtureReport := rfl
@[simp] theorem State.setSweep_nodes (w : Sweep) : (s.setSweep w).nodes = s.nodes := rfl
@[simp] theorem State.setSweep_sweep (w : Sweep) : (s.setSweep w).sweep = w := rfl
@[simp] theorem State.setSweep_safety (w : Sweep) : (s.setSweep w).safety = s.safety := rfl
@[simp] theorem State.setSweep_unit (w : Sweep) : (s.setSweep w).unit = s.unit := rfl
@[simp] theorem State.setSweep_config (w : Sweep) : (s.setSweep w).config = s.config := rfl
@[simp] theorem State.setSweep_image (w : Sweep) : (s.setSweep w).image = s.image := rfl
@[simp] theorem State.setSweep_ports (w : Sweep) : (s.setSweep w).ports = s.ports := rfl

/-! ## State.setHold -/

@[simp] theorem State.setHold_pending (ch : Fin 177) (h : Hold) : (s.setHold ch h).pending = s.pending := rfl
@[simp] theorem State.setHold_freeCount (ch : Fin 177) (h : Hold) : (s.setHold ch h).freeCount = s.freeCount := rfl
@[simp] theorem State.setHold_now (ch : Fin 177) (h : Hold) : (s.setHold ch h).now = s.now := rfl
@[simp] theorem State.setHold_range (ch : Fin 177) (h : Hold) : (s.setHold ch h).range = s.range := rfl
@[simp] theorem State.setHold_cues (ch : Fin 177) (h : Hold) : (s.setHold ch h).cues = s.cues := rfl
@[simp] theorem State.setHold_tracks (ch : Fin 177) (h : Hold) : (s.setHold ch h).tracks = s.tracks := rfl
@[simp] theorem State.setHold_clock (ch : Fin 177) (h : Hold) : (s.setHold ch h).clock = s.clock := rfl
@[simp] theorem State.setHold_jets (ch : Fin 177) (h : Hold) : (s.setHold ch h).jets = s.jets := rfl
@[simp] theorem State.setHold_headers (ch : Fin 177) (h : Hold) : (s.setHold ch h).headers = s.headers := rfl
@[simp] theorem State.setHold_shaper (ch : Fin 177) (h : Hold) : (s.setHold ch h).shaper = s.shaper := rfl
@[simp] theorem State.setHold_fixtures (ch : Fin 177) (h : Hold) : (s.setHold ch h).fixtures = s.fixtures := rfl
@[simp] theorem State.setHold_fixtureReport (ch : Fin 177) (h : Hold) : (s.setHold ch h).fixtureReport = s.fixtureReport := rfl
@[simp] theorem State.setHold_nodes (ch : Fin 177) (h : Hold) : (s.setHold ch h).nodes = s.nodes := rfl
@[simp] theorem State.setHold_sweep (ch : Fin 177) (h : Hold) : (s.setHold ch h).sweep = s.sweep := rfl
@[simp] theorem State.setHold_safety (ch : Fin 177) (h : Hold) : (s.setHold ch h).safety = s.safety := rfl
@[simp] theorem State.setHold_unit (ch : Fin 177) (h : Hold) : (s.setHold ch h).unit = s.unit := rfl
@[simp] theorem State.setHold_config (ch : Fin 177) (h : Hold) : (s.setHold ch h).config = s.config := rfl
@[simp] theorem State.setHold_image (ch : Fin 177) (h : Hold) : (s.setHold ch h).image = s.image := rfl
@[simp] theorem State.setHold_ports (ch : Fin 177) (h : Hold) : (s.setHold ch h).ports = s.ports := rfl

/-! ## State.setSlot -/

@[simp] theorem State.setSlot_pending (ch : Fin 177) (v : Option Setpoint) : (s.setSlot ch v).pending = s.pending := rfl
@[simp] theorem State.setSlot_freeCount (ch : Fin 177) (v : Option Setpoint) : (s.setSlot ch v).freeCount = s.freeCount := rfl
@[simp] theorem State.setSlot_now (ch : Fin 177) (v : Option Setpoint) : (s.setSlot ch v).now = s.now := rfl
@[simp] theorem State.setSlot_range (ch : Fin 177) (v : Option Setpoint) : (s.setSlot ch v).range = s.range := rfl
@[simp] theorem State.setSlot_cues (ch : Fin 177) (v : Option Setpoint) : (s.setSlot ch v).cues = s.cues := rfl
@[simp] theorem State.setSlot_tracks (ch : Fin 177) (v : Option Setpoint) : (s.setSlot ch v).tracks = s.tracks := rfl
@[simp] theorem State.setSlot_clock (ch : Fin 177) (v : Option Setpoint) : (s.setSlot ch v).clock = s.clock := rfl
@[simp] theorem State.setSlot_jets (ch : Fin 177) (v : Option Setpoint) : (s.setSlot ch v).jets = s.jets := rfl
@[simp] theorem State.setSlot_headers (ch : Fin 177) (v : Option Setpoint) : (s.setSlot ch v).headers = s.headers := rfl
@[simp] theorem State.setSlot_shaper (ch : Fin 177) (v : Option Setpoint) : (s.setSlot ch v).shaper = s.shaper := rfl
@[simp] theorem State.setSlot_fixtures (ch : Fin 177) (v : Option Setpoint) : (s.setSlot ch v).fixtures = s.fixtures := rfl
@[simp] theorem State.setSlot_fixtureReport (ch : Fin 177) (v : Option Setpoint) : (s.setSlot ch v).fixtureReport = s.fixtureReport := rfl
@[simp] theorem State.setSlot_nodes (ch : Fin 177) (v : Option Setpoint) : (s.setSlot ch v).nodes = s.nodes := rfl
@[simp] theorem State.setSlot_sweep (ch : Fin 177) (v : Option Setpoint) : (s.setSlot ch v).sweep = s.sweep := rfl
@[simp] theorem State.setSlot_safety (ch : Fin 177) (v : Option Setpoint) : (s.setSlot ch v).safety = s.safety := rfl
@[simp] theorem State.setSlot_unit (ch : Fin 177) (v : Option Setpoint) : (s.setSlot ch v).unit = s.unit := rfl
@[simp] theorem State.setSlot_config (ch : Fin 177) (v : Option Setpoint) : (s.setSlot ch v).config = s.config := rfl
@[simp] theorem State.setSlot_image (ch : Fin 177) (v : Option Setpoint) : (s.setSlot ch v).image = s.image := rfl
@[simp] theorem State.setSlot_ports (ch : Fin 177) (v : Option Setpoint) : (s.setSlot ch v).ports = s.ports := rfl

/-! ## State.post -/

@[simp] theorem State.post_pending (p : Port) (k : NoticeKind) (subject detail : Nat) (x : NoticeExtra) : (s.post p k subject detail x).pending = s.pending := rfl
@[simp] theorem State.post_freeCount (p : Port) (k : NoticeKind) (subject detail : Nat) (x : NoticeExtra) : (s.post p k subject detail x).freeCount = s.freeCount := rfl
@[simp] theorem State.post_now (p : Port) (k : NoticeKind) (subject detail : Nat) (x : NoticeExtra) : (s.post p k subject detail x).now = s.now := rfl
@[simp] theorem State.post_directory (p : Port) (k : NoticeKind) (subject detail : Nat) (x : NoticeExtra) : (s.post p k subject detail x).directory = s.directory := rfl
@[simp] theorem State.post_range (p : Port) (k : NoticeKind) (subject detail : Nat) (x : NoticeExtra) : (s.post p k subject detail x).range = s.range := rfl
@[simp] theorem State.post_cues (p : Port) (k : NoticeKind) (subject detail : Nat) (x : NoticeExtra) : (s.post p k subject detail x).cues = s.cues := rfl
@[simp] theorem State.post_tracks (p : Port) (k : NoticeKind) (subject detail : Nat) (x : NoticeExtra) : (s.post p k subject detail x).tracks = s.tracks := rfl
@[simp] theorem State.post_clock (p : Port) (k : NoticeKind) (subject detail : Nat) (x : NoticeExtra) : (s.post p k subject detail x).clock = s.clock := rfl
@[simp] theorem State.post_jets (p : Port) (k : NoticeKind) (subject detail : Nat) (x : NoticeExtra) : (s.post p k subject detail x).jets = s.jets := rfl
@[simp] theorem State.post_headers (p : Port) (k : NoticeKind) (subject detail : Nat) (x : NoticeExtra) : (s.post p k subject detail x).headers = s.headers := rfl
@[simp] theorem State.post_shaper (p : Port) (k : NoticeKind) (subject detail : Nat) (x : NoticeExtra) : (s.post p k subject detail x).shaper = s.shaper := rfl
@[simp] theorem State.post_fixtures (p : Port) (k : NoticeKind) (subject detail : Nat) (x : NoticeExtra) : (s.post p k subject detail x).fixtures = s.fixtures := rfl
@[simp] theorem State.post_fixtureReport (p : Port) (k : NoticeKind) (subject detail : Nat) (x : NoticeExtra) : (s.post p k subject detail x).fixtureReport = s.fixtureReport := rfl
@[simp] theorem State.post_nodes (p : Port) (k : NoticeKind) (subject detail : Nat) (x : NoticeExtra) : (s.post p k subject detail x).nodes = s.nodes := rfl
@[simp] theorem State.post_sweep (p : Port) (k : NoticeKind) (subject detail : Nat) (x : NoticeExtra) : (s.post p k subject detail x).sweep = s.sweep := rfl
@[simp] theorem State.post_safety (p : Port) (k : NoticeKind) (subject detail : Nat) (x : NoticeExtra) : (s.post p k subject detail x).safety = s.safety := rfl
@[simp] theorem State.post_unit (p : Port) (k : NoticeKind) (subject detail : Nat) (x : NoticeExtra) : (s.post p k subject detail x).unit = s.unit := rfl
@[simp] theorem State.post_config (p : Port) (k : NoticeKind) (subject detail : Nat) (x : NoticeExtra) : (s.post p k subject detail x).config = s.config := rfl
@[simp] theorem State.post_image (p : Port) (k : NoticeKind) (subject detail : Nat) (x : NoticeExtra) : (s.post p k subject detail x).image = s.image := rfl

/-! ## State.respond -/

@[simp] theorem State.respond_pending (p : Port) (kind tag : Nat) (a : Answer) : (s.respond p kind tag a).pending = s.pending := rfl
@[simp] theorem State.respond_freeCount (p : Port) (kind tag : Nat) (a : Answer) : (s.respond p kind tag a).freeCount = s.freeCount := rfl
@[simp] theorem State.respond_now (p : Port) (kind tag : Nat) (a : Answer) : (s.respond p kind tag a).now = s.now := rfl
@[simp] theorem State.respond_directory (p : Port) (kind tag : Nat) (a : Answer) : (s.respond p kind tag a).directory = s.directory := rfl
@[simp] theorem State.respond_range (p : Port) (kind tag : Nat) (a : Answer) : (s.respond p kind tag a).range = s.range := rfl
@[simp] theorem State.respond_cues (p : Port) (kind tag : Nat) (a : Answer) : (s.respond p kind tag a).cues = s.cues := rfl
@[simp] theorem State.respond_tracks (p : Port) (kind tag : Nat) (a : Answer) : (s.respond p kind tag a).tracks = s.tracks := rfl
@[simp] theorem State.respond_clock (p : Port) (kind tag : Nat) (a : Answer) : (s.respond p kind tag a).clock = s.clock := rfl
@[simp] theorem State.respond_jets (p : Port) (kind tag : Nat) (a : Answer) : (s.respond p kind tag a).jets = s.jets := rfl
@[simp] theorem State.respond_headers (p : Port) (kind tag : Nat) (a : Answer) : (s.respond p kind tag a).headers = s.headers := rfl
@[simp] theorem State.respond_shaper (p : Port) (kind tag : Nat) (a : Answer) : (s.respond p kind tag a).shaper = s.shaper := rfl
@[simp] theorem State.respond_fixtures (p : Port) (kind tag : Nat) (a : Answer) : (s.respond p kind tag a).fixtures = s.fixtures := rfl
@[simp] theorem State.respond_fixtureReport (p : Port) (kind tag : Nat) (a : Answer) : (s.respond p kind tag a).fixtureReport = s.fixtureReport := rfl
@[simp] theorem State.respond_nodes (p : Port) (kind tag : Nat) (a : Answer) : (s.respond p kind tag a).nodes = s.nodes := rfl
@[simp] theorem State.respond_sweep (p : Port) (kind tag : Nat) (a : Answer) : (s.respond p kind tag a).sweep = s.sweep := rfl
@[simp] theorem State.respond_safety (p : Port) (kind tag : Nat) (a : Answer) : (s.respond p kind tag a).safety = s.safety := rfl
@[simp] theorem State.respond_unit (p : Port) (kind tag : Nat) (a : Answer) : (s.respond p kind tag a).unit = s.unit := rfl
@[simp] theorem State.respond_config (p : Port) (kind tag : Nat) (a : Answer) : (s.respond p kind tag a).config = s.config := rfl
@[simp] theorem State.respond_image (p : Port) (kind tag : Nat) (a : Answer) : (s.respond p kind tag a).image = s.image := rfl

/-! ## State.beginRequest -/

@[simp] theorem State.beginRequest_pending (p : Port) (kind tag : Nat) : (s.beginRequest p kind tag).pending = s.pending := rfl
@[simp] theorem State.beginRequest_freeCount (p : Port) (kind tag : Nat) : (s.beginRequest p kind tag).freeCount = s.freeCount := rfl
@[simp] theorem State.beginRequest_now (p : Port) (kind tag : Nat) : (s.beginRequest p kind tag).now = s.now := rfl
@[simp] theorem State.beginRequest_directory (p : Port) (kind tag : Nat) : (s.beginRequest p kind tag).directory = s.directory := rfl
@[simp] theorem State.beginRequest_range (p : Port) (kind tag : Nat) : (s.beginRequest p kind tag).range = s.range := rfl
@[simp] theorem State.beginRequest_cues (p : Port) (kind tag : Nat) : (s.beginRequest p kind tag).cues = s.cues := rfl
@[simp] theorem State.beginRequest_tracks (p : Port) (kind tag : Nat) : (s.beginRequest p kind tag).tracks = s.tracks := rfl
@[simp] theorem State.beginRequest_clock (p : Port) (kind tag : Nat) : (s.beginRequest p kind tag).clock = s.clock := rfl
@[simp] theorem State.beginRequest_jets (p : Port) (kind tag : Nat) : (s.beginRequest p kind tag).jets = s.jets := rfl
@[simp] theorem State.beginRequest_headers (p : Port) (kind tag : Nat) : (s.beginRequest p kind tag).headers = s.headers := rfl
@[simp] theorem State.beginRequest_shaper (p : Port) (kind tag : Nat) : (s.beginRequest p kind tag).shaper = s.shaper := rfl
@[simp] theorem State.beginRequest_fixtures (p : Port) (kind tag : Nat) : (s.beginRequest p kind tag).fixtures = s.fixtures := rfl
@[simp] theorem State.beginRequest_fixtureReport (p : Port) (kind tag : Nat) : (s.beginRequest p kind tag).fixtureReport = s.fixtureReport := rfl
@[simp] theorem State.beginRequest_nodes (p : Port) (kind tag : Nat) : (s.beginRequest p kind tag).nodes = s.nodes := rfl
@[simp] theorem State.beginRequest_sweep (p : Port) (kind tag : Nat) : (s.beginRequest p kind tag).sweep = s.sweep := rfl
@[simp] theorem State.beginRequest_safety (p : Port) (kind tag : Nat) : (s.beginRequest p kind tag).safety = s.safety := rfl
@[simp] theorem State.beginRequest_unit (p : Port) (kind tag : Nat) : (s.beginRequest p kind tag).unit = s.unit := rfl
@[simp] theorem State.beginRequest_config (p : Port) (kind tag : Nat) : (s.beginRequest p kind tag).config = s.config := rfl
@[simp] theorem State.beginRequest_image (p : Port) (kind tag : Nat) : (s.beginRequest p kind tag).image = s.image := rfl

/-! ## Reading back -/

@[simp] theorem PerPort.get_set_self {α : Type} (t : PerPort α) (p : Port) (v : α) : (t.set p v).get p = v := by
  cases p <;> rfl

theorem PerPort.get_set_ne {α : Type} (t : PerPort α) {p q : Port} (v : α) (h : p ≠ q) : (t.set p v).get q = t.get q := by
  cases p <;> cases q <;> first | rfl | exact absurd rfl h

@[simp] theorem State.port_setPort_self (p : Port) (lp : LinkPort) : (s.setPort p lp).port p = lp :=
  PerPort.get_set_self _ _ _

theorem State.port_setPort_ne {p q : Port} (lp : LinkPort) (h : p ≠ q) : (s.setPort p lp).port q = s.port q :=
  PerPort.get_set_ne _ _ h

@[simp] theorem State.entry_setEntry_self (ch : Fin 177) (e : ChannelEntry) : (s.setEntry ch e).entry ch = e :=
  Table.get_set_self _ _ _

theorem State.entry_setEntry_ne {ch c : Fin 177} (e : ChannelEntry) (h : ch ≠ c) : (s.setEntry ch e).entry c = s.entry c :=
  Table.get_set_ne _ _ h

@[simp] theorem State.waiters_setEntry (ch : Fin 177) (e : ChannelEntry) :
    (s.setEntry ch e).directory.waiters = s.directory.waiters := rfl

@[simp] theorem State.arrivals_setEntry (ch : Fin 177) (e : ChannelEntry) :
    (s.setEntry ch e).directory.arrivals = s.directory.arrivals := rfl

@[simp] theorem State.entry_setWaiters (l : List WaitEntry) (ch : Fin 177) : (s.setWaiters l).entry ch = s.entry ch := rfl

@[simp] theorem State.waiters_setWaiters (l : List WaitEntry) : (s.setWaiters l).directory.waiters = l := rfl

@[simp] theorem State.track_setTrack_self (t : Fin 4) (v : Track) : (s.setTrack t v).track t = v :=
  Table.get_set_self _ _ _

theorem State.track_setTrack_ne {t u : Fin 4} (v : Track) (h : t ≠ u) : (s.setTrack t v).track u = s.track u :=
  Table.get_set_ne _ _ h

@[simp] theorem State.node_setNode_self (n : Fin 32) (r : NodeRecord) : (s.setNode n r).node n = r :=
  Table.get_set_self _ _ _

theorem State.node_setNode_ne {n m : Fin 32} (r : NodeRecord) (h : n ≠ m) : (s.setNode n r).node m = s.node m :=
  Table.get_set_ne _ _ h

@[simp] theorem State.entry_setPort (p : Port) (lp : LinkPort) (ch : Fin 177) : (s.setPort p lp).entry ch = s.entry ch := rfl

@[simp] theorem State.track_setPort (p : Port) (lp : LinkPort) (t : Fin 4) : (s.setPort p lp).track t = s.track t := rfl

@[simp] theorem State.rights_setPort (p q : Port) (lp : LinkPort) : (s.setPort p lp).rights q = s.rights q := rfl

end Sys2Proof.Machine
end

