-- ==== Sys2Proof/Laws/Ops.lean ====
section
/-! SUPPORT. What the shared operations can do, said once: a notice received, a notice posted to a set of ports, one request
at a port, and the stored image. -/

namespace Sys2Proof.Machine

/-! ## Notices -/

/-- A notice joins the queue, or is lost with the flag set. -/
theorem LinkPort.receive_cases (lp : LinkPort) (n : Notice) :
    (lp.notices.length < 32 ∧ lp.receive n = { lp with notices := lp.notices ++ [n] })
      ∨ (32 ≤ lp.notices.length ∧ lp.receive n = { lp with lost := true }) := by
  unfold LinkPort.receive Config.noticeCapacity
  split
  · exact .inl ⟨by assumption, rfl⟩
  · exact .inr ⟨by omega, rfl⟩

@[simp] theorem LinkPort.receive_state (lp : LinkPort) (n : Notice) : (lp.receive n).state = lp.state := by
  unfold LinkPort.receive; split <;> rfl

@[simp] theorem LinkPort.receive_error (lp : LinkPort) (n : Notice) : (lp.receive n).error = lp.error := by
  unfold LinkPort.receive; split <;> rfl

@[simp] theorem LinkPort.receive_resetHeld (lp : LinkPort) (n : Notice) : (lp.receive n).resetHeld = lp.resetHeld := by
  unfold LinkPort.receive; split <;> rfl

/-- A queue of at most 32 notices stays one. -/
theorem LinkPort.receive_length (lp : LinkPort) (n : Notice) (h : lp.notices.length ≤ 32) :
    (lp.receive n).notices.length ≤ 32 := by
  rcases lp.receive_cases n with ⟨h1, e⟩ | ⟨_, e⟩
  · rw [e]; simp only [List.length_append, List.length_singleton]; omega
  · rw [e]; exact h

/-- A notice posted to a set of ports reaches each port of the set and no other, and changes nothing else. -/
theorem State.postTo_eq (s : State) (ps : PortSet) (k : NoticeKind) (subject detail : Nat) :
    s.postTo ps k subject detail =
      { s with ports :=
          let n : Notice := ⟨k, subject, detail, s.clock.value, .none⟩
          ⟨if ps.a then s.ports.a.receive n else s.ports.a, if ps.b then s.ports.b.receive n else s.ports.b,
            if ps.c then s.ports.c.receive n else s.ports.c⟩ } := by
  obtain ⟨a, b, c⟩ := ps
  cases a <;> cases b <;> cases c <;> rfl

/-- A notice posted to every port. -/
theorem State.postAll_eq (s : State) (k : NoticeKind) (subject detail : Nat) :
    s.postAll k subject detail =
      { s with ports :=
          let n : Notice := ⟨k, subject, detail, s.clock.value, .none⟩
          ⟨s.ports.a.receive n, s.ports.b.receive n, s.ports.c.receive n⟩ } :=
  rfl

/-! ## Requests -/

/-- A request is lost at a port that takes no frame; at any other the owning block acts and the port answers. -/
theorem State.request_cases (s : State) (p : Port) (kind : Nat) (tag : U8) (act : State → State × Answer) :
    (s.takesFrame p = false ∧ s.request p kind tag act = s)
      ∨ (s.takesFrame p = true ∧ s.request p kind tag act =
          (act (s.beginRequest p kind tag.val)).1.respond p kind tag.val (act (s.beginRequest p kind tag.val)).2) := by
  unfold State.request
  cases h : s.takesFrame p
  · exact .inl ⟨rfl, rfl⟩
  · exact .inr ⟨rfl, rfl⟩

/-- The record of a port that has answered. -/
theorem State.port_respond (s : State) (p : Port) (kind tag : Nat) (a : Answer) :
    (s.respond p kind tag a).port p =
      { s.port p with
        state := .answering kind tag ⟨a.status, a.responseBody⟩
        error := nextErrorDetail (s.port p).error kind a } :=
  State.port_setPort_self s p _

/-! ## The stored image -/

/-- The part finds good an image that it holds of tables in range with a SAFETY right, whatever its format code is. -/
@[simp] theorem Image.good_holding (t : Tables) (range : t.inRange = true) (safety : t.keepsSafety = true) :
    (Image.holding t).good = some t := by
  simp [Image.holding, Image.good, range, safety]

/-- A good image holds the tables it is read as. -/
theorem Image.eq_holding_of_good {i : Image} {t : Tables} (h : i.good = some t) : i = Image.holding t := by
  cases i with
  | blank => cases h
  | spoiled => cases h
  | written format g crc =>
    simp only [Image.good] at h
    split at h
    · obtain ⟨rfl, rfl, -⟩ := ‹_ ∧ _›
      cases h
      rfl
    · cases h

end Sys2Proof.Machine
end

