-- ==== Sys2Proof/Laws/Frames.lean ====
section
/-! SUPPORT. Which parts of State each shared operation can change: it leaves every other part as it was. -/

namespace Sys2Proof.Machine

/-! ## Relations between a state and one that an operation made of it -/

/-- Nothing but the ports differs. -/
def OnlyPorts (s t : State) : Prop := t = { s with ports := t.ports }

/-- Nothing but the Directory and the ports differs. -/
def OnlyDirectory (s t : State) : Prop := t = { s with directory := t.directory, ports := t.ports }

/-- Nothing but the Directory, the tracks and the ports differs. -/
def OnlyTracks (s t : State) : Prop := t = { s with directory := t.directory, tracks := t.tracks, ports := t.ports }

/-- Nothing but what a show runs on differs: Directory, Range Engine, tracks, clock unit and ports. -/
def OnlyShow (s t : State) : Prop :=
  t = { s with
    directory := t.directory, range := t.range, tracks := t.tracks, clock := t.clock, ports := t.ports }

/-- Nothing but what a show runs on and the Supervisor's record differs. -/
def OnlySafety (s t : State) : Prop :=
  t = { s with
    directory := t.directory, range := t.range, tracks := t.tracks, clock := t.clock, safety := t.safety,
    ports := t.ports }

theorem OnlyPorts.refl (s : State) : OnlyPorts s s := rfl
theorem OnlyDirectory.refl (s : State) : OnlyDirectory s s := rfl
theorem OnlyTracks.refl (s : State) : OnlyTracks s s := rfl
theorem OnlyShow.refl (s : State) : OnlyShow s s := rfl
theorem OnlySafety.refl (s : State) : OnlySafety s s := rfl

theorem OnlyPorts.trans {s t u : State} (h : OnlyPorts s t) (k : OnlyPorts t u) : OnlyPorts s u := by
  unfold OnlyPorts at *; rw [k, h]

theorem OnlyDirectory.trans {s t u : State} (h : OnlyDirectory s t) (k : OnlyDirectory t u) : OnlyDirectory s u := by
  unfold OnlyDirectory at *; rw [k, h]

theorem OnlyTracks.trans {s t u : State} (h : OnlyTracks s t) (k : OnlyTracks t u) : OnlyTracks s u := by
  unfold OnlyTracks at *; rw [k, h]

theorem OnlyShow.trans {s t u : State} (h : OnlyShow s t) (k : OnlyShow t u) : OnlyShow s u := by
  unfold OnlyShow at *; rw [k, h]

theorem OnlySafety.trans {s t u : State} (h : OnlySafety s t) (k : OnlySafety t u) : OnlySafety s u := by
  unfold OnlySafety at *; rw [k, h]

theorem OnlyPorts.directory {s t : State} (h : OnlyPorts s t) : OnlyDirectory s t := by
  unfold OnlyPorts OnlyDirectory at *; rw [h]

theorem OnlyDirectory.tracks {s t : State} (h : OnlyDirectory s t) : OnlyTracks s t := by
  unfold OnlyDirectory OnlyTracks at *; rw [h]

theorem OnlyTracks.show {s t : State} (h : OnlyTracks s t) : OnlyShow s t := by
  unfold OnlyTracks OnlyShow at *; rw [h]

theorem OnlyShow.safety {s t : State} (h : OnlyShow s t) : OnlySafety s t := by
  unfold OnlyShow OnlySafety at *; rw [h]

/-- A fold of steps each of which is related to its result is related to its result. -/
theorem foldl_related {α : Type} {R : State → State → Prop} (refl : ∀ s, R s s) (trans : ∀ {s t u}, R s t → R t u → R s u)
    {f : State → α → State} (step : ∀ s x, R s (f s x)) (s : State) (l : List α) : R s (l.foldl f s) := by
  induction l generalizing s with
  | nil => exact refl s
  | cons x rest ih => exact trans (step s x) (ih (f s x))

/-! ## Posting -/

theorem State.post_only (s : State) (p : Port) (k : NoticeKind) (subject detail : Nat) (x : NoticeExtra) :
    OnlyPorts s (s.post p k subject detail x) := rfl

theorem State.deliver_only (s : State) (p : Port) (n : Notice) : OnlyPorts s (s.deliver p n) := rfl

theorem State.postTo_only (s : State) (ps : PortSet) (k : NoticeKind) (subject detail : Nat) :
    OnlyPorts s (s.postTo ps k subject detail) := by
  rw [State.postTo_eq]; rfl

theorem State.postAll_only (s : State) (k : NoticeKind) (subject detail : Nat) :
    OnlyPorts s (s.postAll k subject detail) := rfl

theorem State.postAud_only (s : State) (k : NoticeKind) (detail : Nat) : OnlyPorts s (s.postAud k detail) := by
  unfold State.postAud; split <;> rfl

theorem State.tellWatchers_only (s : State) (ch : Fin 177) (detail : Nat) : OnlyPorts s (s.tellWatchers ch detail) :=
  s.postTo_only _ _ _ _

theorem State.tellSafety_only (s : State) (detail : Nat) : OnlyPorts s (s.tellSafety detail) := rfl

theorem State.tellTrack_only (s : State) (t : Fin 4) (p : Port) (detail : Nat) : OnlyPorts s (s.tellTrack t p detail) := rfl

/-! ## The Channel Directory -/

theorem State.setEntry_only (s : State) (ch : Fin 177) (e : ChannelEntry) : OnlyDirectory s (s.setEntry ch e) := rfl

theorem State.setHold_only (s : State) (ch : Fin 177) (h : Hold) : OnlyDirectory s (s.setHold ch h) := rfl

theorem State.setSlot_only (s : State) (ch : Fin 177) (v : Option Setpoint) : OnlyDirectory s (s.setSlot ch v) := rfl

theorem State.setWaiters_only (s : State) (l : List WaitEntry) : OnlyDirectory s (s.setWaiters l) := rfl

theorem State.grant_only (s : State) (ch : Fin 177) (p : Port) (q : Nat) : OnlyDirectory s (s.grant ch p q) :=
  (s.setHold_only ch _).trans (State.tellWatchers_only _ _ _).directory

theorem State.startRecall_only (s : State) (ch : Fin 177) (p : Port) (q : Nat) : OnlyDirectory s (s.startRecall ch p q) :=
  rfl

theorem State.endRecall_only (s : State) (ch : Fin 177) (p : Port) (q : Nat) : OnlyDirectory s (s.endRecall ch p q) := rfl

theorem State.transfer_only (s : State) (ch : Fin 177) : OnlyDirectory s (s.transfer ch) := by
  unfold State.transfer
  simp only
  split
  · exact ((s.setSlot_only ch none).trans (State.setHold_only _ ch _)).trans (State.tellWatchers_only _ _ _).directory
  · next w _ =>
    have h : OnlyDirectory s (((s.setSlot ch none).dropWaiter w.port ch).setHold ch (.held w.port w.priority)) := rfl
    exact (h.trans (State.post_only _ _ _ _ _ _).directory).trans (State.tellWatchers_only _ _ _).directory

theorem State.addWaiter_only (s : State) (p : Port) (ch : Fin 177) (q : Nat) : OnlyDirectory s (s.addWaiter p ch q) := by
  unfold State.addWaiter; simp only; split <;> rfl

theorem State.enqueueClaim_only {s t : State} {p : Port} {ch : Fin 177} {q : Nat} (h : s.enqueueClaim p ch q = some t) :
    OnlyDirectory s t := by
  unfold State.enqueueClaim at h
  split at h
  · cases h; rfl
  · split at h
    · cases h; exact s.addWaiter_only p ch q
    · cases h

theorem State.reclaim_only (s : State) (ch : Fin 177) (p : Port) (q : Nat) : OnlyDirectory s (s.reclaim ch p q) := by
  unfold State.reclaim
  split
  · split <;> rfl
  · split <;> rfl
  · rfl
  · rfl

theorem State.claimChannel_only (s : State) (p : Port) (ch : Fin 177) (q : Nat) (wait : Bool) :
    OnlyDirectory s (s.claimChannel p ch q wait).1 := by
  unfold State.claimChannel
  split
  · exact s.grant_only ch p q
  · split
    · exact s.reclaim_only ch p q
    · unfold State.claimHeld
      split
      · split
        · next t h => exact (State.enqueueClaim_only h).trans (State.startRecall_only _ _ _ _)
        · rfl
      · split
        · split
          · next t h => exact State.enqueueClaim_only h
          · rfl
        · rfl
  · split
    · exact s.reclaim_only ch p q
    · unfold State.claimRecalling
      split
      · split
        · next t h =>
          split
          · exact State.enqueueClaim_only h
          · exact (State.enqueueClaim_only h).trans (State.endRecall_only _ _ _ _)
        · rfl
      · rfl
  · rfl

theorem State.releaseChannel_only (s : State) (p : Port) (ch : Fin 177) : OnlyDirectory s (s.releaseChannel p ch).1 := by
  unfold State.releaseChannel
  split
  · exact s.transfer_only ch
  · split
    · unfold State.withdraw
      simp only
      split
      · split <;> rfl
      · rfl
      · rfl
      · rfl
    · rfl

theorem State.stage_only (s : State) (p : Port) (ch : Fin 177) (v : Setpoint) : OnlyDirectory s (s.stage p ch v).1 := by
  unfold State.stage
  split
  · rfl
  · split <;> rfl

theorem State.expireRecall_only (s : State) (ch : Fin 177) : OnlyDirectory s (s.expireRecall ch) := by
  unfold State.expireRecall
  split
  · split
    · exact (State.post_only _ _ _ _ _ _).directory.trans (State.transfer_only _ _)
    · rfl
  · rfl
  · rfl
  · rfl

theorem State.postLost_only (s : State) (ch : Fin 177) (detail : Nat) : OnlyPorts s (s.postLost ch detail) := by
  unfold State.postLost; split <;> rfl

theorem State.dropWaiters_only (s : State) (ch : Fin 177) (detail : Nat) : OnlyDirectory s (s.dropWaiters ch detail) := by
  unfold State.dropWaiters
  simp only
  have h : OnlyPorts s ((s.waitersOf ch).foldl (fun u w => u.post w.port .claimDropped ch.val detail) s) :=
    foldl_related OnlyPorts.refl OnlyPorts.trans (fun u (w : WaitEntry) => u.post_only w.port .claimDropped ch.val detail .none) s _
  split
  · exact h.directory
  · exact h.directory.trans (State.setWaiters_only _ _)

theorem State.safeChannel_only (s : State) (ch : Fin 177) : OnlyDirectory s (s.safeChannel ch) :=
  (((s.postLost_only ch 2).directory.trans (State.dropWaiters_only _ _ _)).trans (State.setEntry_only _ _ _)).trans
    (State.tellWatchers_only _ _ _).directory

theorem State.directorySafetyEntry_only (s : State) : OnlyDirectory s s.directorySafetyEntry :=
  foldl_related OnlyDirectory.refl OnlyDirectory.trans State.safeChannel_only s _

theorem State.directorySafetyExit_only (s : State) : OnlyDirectory s s.directorySafetyExit := by
  refine foldl_related OnlyDirectory.refl OnlyDirectory.trans (fun s ch => ?_) s _
  unfold State.freeSafed
  split
  · exact (State.setHold_only _ _ _).trans (State.tellWatchers_only _ _ _).directory
  · rfl

theorem State.directorySetupEntry_only (s : State) : OnlyDirectory s s.directorySetupEntry := by
  have h : OnlyDirectory s ((Table.indices 177).foldl State.releaseForSetup s) := by
    refine foldl_related OnlyDirectory.refl OnlyDirectory.trans (fun s ch => ?_) s _
    unfold State.releaseForSetup
    split
    · exact (((State.post_only _ _ _ _ _ _).directory.trans (State.dropWaiters_only _ _ _)).trans
        (State.setEntry_only _ _ _)).trans (State.tellWatchers_only _ _ _).directory
    · exact State.dropWaiters_only _ _ _
  exact h.trans (State.setWaiters_only _ _)

/-! ## The Range Engine -/

theorem State.setRange_only (s : State) (r : RangeEngine) : OnlyShow s { s with range := r } := rfl

theorem State.endRange_only (s : State) (r : RangeRecord) (e : EndReason) : OnlyShow s (s.endRange r e) := rfl

theorem State.rangeAct_only (s : State) (x : Port) (op : RangeOp) (ch : Fin 177) :
    OnlyDirectory s (s.rangeAct x op ch).1 := by
  unfold State.rangeAct
  split
  · split
    · exact s.grant_only _ _ _
    · split <;> rfl
    · split
      · simp only
        split <;> rfl
      · rfl
    · rfl
  · split
    · exact s.transfer_only ch
    · rfl
  · exact s.stage_only _ _ _
  · rfl
  · rfl

theorem State.rangeStep_only (s : State) (r : RangeRecord) : OnlyShow s (s.rangeStep r) := by
  unfold State.rangeStep
  split
  · next h =>
    have h1 := (s.rangeAct_only r.issuer r.op ⟨r.next, h⟩).tracks.show
    simp only
    split
    · exact (h1.trans (State.setRange_only _ _)).trans (State.endRange_only _ _ _)
    · exact h1.trans (State.setRange_only _ _)
  · rfl

/-! ## The tracks -/

theorem State.setTrack_only (s : State) (t : Fin 4) (v : Track) : OnlyTracks s (s.setTrack t v) := rfl

theorem State.faultTrack_only (s : State) (t : Fin 4) (b : TrackBody) (r : TrackFault) : OnlyTracks s (s.faultTrack t b r) :=
  rfl

theorem State.advance_only (s : State) (t : Fin 4) (b : TrackBody) (index : Nat) : OnlyTracks s (s.advance t b index) := by
  unfold State.advance; split <;> rfl

theorem State.cueWrites_only (s : State) (p : Port) (l : List (Fin 177)) (v : Setpoint) :
    OnlyDirectory s (s.cueWrites p l v).1 := by
  unfold State.cueWrites
  suffices h : ∀ (l : List (Fin 177)) (acc : State × Nat),
      OnlyDirectory acc.1 (l.foldl (fun acc ch =>
        let r := acc.1.stage p ch v
        (r.1, if r.2.filled then acc.2 else acc.2 + 1)) acc).1 from h l (s, 0)
  intro l
  induction l with
  | nil => intro acc; rfl
  | cons ch rest ih => intro acc; exact (State.stage_only _ _ _ _).trans (ih _)

theorem State.takeRecord_only (s : State) (t : Fin 4) (b : TrackBody) : OnlyTracks s (s.takeRecord t b) := by
  have set : ∀ l v, OnlyTracks s (s.takeSet t b l v) := by
    intro l v
    unfold State.takeSet
    simp only
    have h := (s.cueWrites_only b.owner l v).tracks
    split
    · exact h.trans (State.advance_only _ _ _ _)
    · exact (h.trans (State.post_only _ _ _ _ _ _).directory.tracks).trans (State.advance_only _ _ _ _)
  unfold State.takeRecord
  split
  · rfl
  · exact set _ _
  · exact set _ _
  · exact set _ _
  · exact set _ _
  · unfold State.takeWait; split <;> rfl
  · unfold State.takeLoop; split
    · rfl
    · exact State.advance_only _ _ _ _
  · unfold State.takeLoopEnd; split
    · split <;> exact State.advance_only _ _ _ _
    · rfl
    · rfl
  · unfold State.takeCall; split
    · rfl
    · split <;> rfl
  · unfold State.takeReturn; split
    · rfl
    · rfl
    · exact State.advance_only _ _ _ _
  · rfl
  · rfl

theorem State.takeRecords_only (n : Nat) (s : State) (t : Fin 4) (due : Nat) : OnlyTracks s (State.takeRecords n s t due) := by
  induction n generalizing s with
  | zero => unfold State.takeRecords; split <;> rfl
  | succ n ih =>
    unfold State.takeRecords
    split
    · rfl
    · next b _ =>
      have h := s.takeRecord_only t b
      simp only
      split
      · exact h
      · split
        · exact h.trans (ih _)
        · exact h.trans rfl

theorem State.dueEvent_only (s : State) (t : Fin 4) : OnlyTracks s (s.dueEvent t) := by
  unfold State.dueEvent
  split
  · exact State.takeRecords_only _ _ _ _
  · rfl

theorem State.dueChain_only (n : Nat) (s : State) (t : Fin 4) : OnlyTracks s (State.dueChain n s t) := by
  induction n generalizing s with
  | zero => rfl
  | succ n ih =>
    unfold State.dueChain
    split
    · exact (s.dueEvent_only t).trans (ih _)
    · rfl

theorem State.takeDue_only (s : State) (t : Fin 4) : OnlyTracks s (s.takeDue t) := by
  unfold State.takeDue
  split
  · exact State.dueChain_only _ _ _
  · rfl

theorem State.dueAtOnce_only (before s : State) (t : Fin 4) : OnlyTracks s (before.dueAtOnce s t) := by
  unfold State.dueAtOnce
  split
  · exact s.takeDue_only t
  · rfl

theorem State.eachTrack_only (s : State) {f : State → Fin 4 → State} (h : ∀ s t, OnlyTracks s (f s t)) :
    OnlyTracks s (s.eachTrack f) :=
  foldl_related OnlyTracks.refl OnlyTracks.trans h s _

theorem State.passTrack_only (m k : Nat) (s : State) (t : Fin 4) : OnlyTracks s (State.passTrack m k s t) := by
  unfold State.passTrack
  split
  · rfl
  · simp only
    split
    · split
      · split <;> rfl
      · rfl
    · rfl
    · rfl
    · rfl
    · rfl

theorem State.freezeTrack_only (s : State) (t : Fin 4) : OnlyTracks s (s.freezeTrack t) := by
  unfold State.freezeTrack; repeat' (first | split | rfl)

theorem State.thawTrack_only (s : State) (t : Fin 4) : OnlyTracks s (s.thawTrack t) := by
  unfold State.thawTrack
  split
  · rfl
  · simp only
    split
    · split <;> rfl
    · rfl
    · rfl
    · rfl
    · rfl

theorem State.safeTrack_only (s : State) (t : Fin 4) : OnlyTracks s (s.safeTrack t) := by
  unfold State.safeTrack; repeat' (first | split | rfl)

theorem State.idleForSetup_only (s : State) (t : Fin 4) : OnlyTracks s (s.idleForSetup t) := by
  unfold State.idleForSetup; split <;> rfl

/-! ## The show clock -/

theorem State.setClock_only (s : State) (c : ClockUnit) : OnlyShow s (s.setClock c) := rfl

theorem State.rangeEnd_only (s : State) : OnlyShow s s.rangeEnd :=
  (State.postAud_only _ _ _).directory.tracks.show.trans (State.setClock_only _ _)

theorem State.meetUnderrun_only (s : State) : OnlyShow s s.meetUnderrun := by
  unfold State.meetUnderrun
  have h := (s.postAud_only .underrun (policyCode s.config.global.policy)).directory.tracks.show
  simp only
  split <;> exact h.trans (State.setClock_only _ _)

theorem State.meetStart_only (s : State) : OnlyShow s s.meetStart := by
  unfold State.meetStart
  split
  · split
    · exact s.rangeEnd_only
    · split
      · exact s.meetUnderrun_only
      · rfl
  · rfl

theorem State.endCoasting_only (s : State) : OnlyShow s s.endCoasting :=
  (s.setClock_only _).trans (State.postAud_only _ _ _).directory.tracks.show

theorem State.blockArrived_only (s : State) : OnlyShow s s.blockArrived := by
  unfold State.blockArrived
  split
  · exact (s.setClock_only _).trans (State.postAud_only _ _ _).directory.tracks.show
  · split
    · exact s.endCoasting_only
    · rfl

theorem State.commitGain_only (s : State) : OnlyShow s s.commitGain := by
  unfold State.commitGain; repeat' (first | split | rfl)

theorem State.markerPassage_only (s : State) (m k : Nat) : OnlyTracks s (s.markerPassage m k) :=
  s.eachTrack_only (State.passTrack_only m k)

theorem State.takeOwed_only (s : State) : OnlyTracks s s.takeOwed := s.eachTrack_only State.takeDue_only

theorem State.passage_only (s : State) (m k : Nat) : OnlyTracks s (s.passage m k) :=
  (s.markerPassage_only m k).trans (State.eachTrack_only _ (State.dueAtOnce_only s))

theorem State.advancePlay_only (s : State) (position : Nat) (queue : List Block) :
    OnlyShow s (s.advancePlay position queue) :=
  s.takeOwed_only.show.trans (State.setClock_only _ _)

theorem State.passMarker_only (s : State) (m : Marker) : OnlyShow s (s.passMarker m) := by
  unfold State.passMarker
  exact (s.setClock_only _).trans (State.passage_only _ _ _).show

theorem State.playFrame_only (s : State) (b : Block) : OnlyShow s (s.playFrame b) := by
  unfold State.playFrame
  split
  · rfl
  · simp only
    have h1 : OnlyShow s (if b.start = s.clock.position then s.commitGain else s) := by
      split
      · exact s.commitGain_only
      · rfl
    split
    · split
      · exact (h1.trans (State.setClock_only _ _)).trans (State.passMarker_only _ _)
      · exact h1.trans (State.setClock_only _ _)
    · exact h1.trans (State.setClock_only _ _)

theorem State.movePlay_only (s : State) : OnlyShow s s.movePlay := by
  unfold State.movePlay
  simp only
  split
  · exact ((s.advancePlay_only _ _).trans (State.takeOwed_only _).show).trans (State.rangeEnd_only _)
  · split
    · exact ((s.advancePlay_only _ _).trans (State.takeOwed_only _).show).trans (State.meetUnderrun_only _)
    · exact s.advancePlay_only _ _

theorem State.audioFrame_only (s : State) : OnlyShow s s.audioFrame := by
  unfold State.audioFrame
  split
  · split
    · rfl
    · simp only
      have h1 : OnlyShow s (if s.clock.coasting = true then s.endCoasting else s) := by
        split
        · exact s.endCoasting_only
        · rfl
      split
      · exact ((h1.trans (State.setClock_only _ _)).trans (State.takeOwed_only _).show).trans (State.meetStart_only _)
      · exact (h1.trans (State.playFrame_only _ _)).trans (State.movePlay_only _)
  · rfl

theorem State.coastTick_only (s : State) : OnlyShow s s.coastTick := by
  unfold State.coastTick
  split
  · simp only
    split
    · exact ((s.advancePlay_only _ _).trans (State.takeOwed_only _).show).trans (State.rangeEnd_only _)
    · split
      · exact (s.advancePlay_only _ _).trans (State.endCoasting_only _)
      · exact s.advancePlay_only _ _
  · rfl

theorem State.clockThaw_only (s : State) : OnlyShow s s.clockThaw := by
  unfold State.clockThaw
  simp only
  split
  · exact (s.setClock_only _).trans (State.meetStart_only _)
  · rfl

/-! ## The Safety Supervisor -/

theorem State.setSafety_only (s : State) (r : Supervisor) : OnlySafety s (s.setSafety r) := rfl

theorem State.rangeSafetyEntry_only (s : State) : OnlyShow s s.rangeSafetyEntry := by
  unfold State.rangeSafetyEntry; repeat' (first | split | rfl)

theorem State.enterStopping_only (s : State) (c : Cause) : OnlySafety s (s.enterStopping c) := by
  have h0 := s.setSafety_only { s.safety with state := .stopping, causes := [c], first := some c, further := false }
  have h1 := h0.trans (State.directorySafetyEntry_only _).tracks.show.safety
  have h2 := h1.trans (State.rangeSafetyEntry_only _).safety
  have h3 := h2.trans (State.eachTrack_only _ State.safeTrack_only).show.safety
  exact (h3.trans (State.setClock_only _ _).safety).trans (State.tellSafety_only _ _).directory.tracks.show.safety

theorem State.addCause_only (s : State) (c : Cause) : OnlySafety s (s.addCause c) := by
  unfold State.addCause
  split
  · exact s.enterStopping_only c
  · rfl
  · rfl

theorem State.addCauseOnce_only (s : State) (c : Cause) : OnlySafety s (s.addCauseOnce c) := by
  unfold State.addCauseOnce
  split
  · rfl
  · exact s.addCause_only c

theorem State.setWind_only (s : State) (w : Wind) : OnlySafety s (s.setWind w) := by
  unfold State.setWind; split <;> rfl

theorem State.takeReading_only (s : State) (wind : Nat) (low : Bool) : OnlySafety s (s.takeReading wind low) := by
  have h1 : OnlySafety s (s.takeGust wind) := by
    unfold State.takeGust; repeat' (first | split | rfl)
  have h2 : ∀ t : State, OnlySafety t (t.takeLevel low) := by
    intro t
    unfold State.takeLevel
    simp only
    split
    · exact (t.setSafety_only _).trans (State.addCauseOnce_only _ _)
    · rfl
  exact (h1.trans (State.setWind_only _ _)).trans (h2 _)

theorem State.sensorOnline_only (s : State) : OnlySafety s s.sensorOnline := by
  unfold State.sensorOnline
  split
  · rfl
  · exact (s.setSafety_only _).trans (State.setWind_only _ _)

theorem State.sensorLost_only (s : State) : OnlySafety s s.sensorLost := by
  unfold State.sensorLost
  split
  · rfl
  · exact ((s.setSafety_only _).trans (State.setWind_only _ _)).trans (State.addCauseOnce_only _ _)

theorem State.changeFreeze_only (s : State) : OnlySafety s s.changeFreeze := by
  unfold State.changeFreeze
  split
  · rfl
  · next f _ =>
    simp only
    have h : OnlySafety s ((s.setFreeze (.inEffect f)).post f .frozen noSubject 0) := rfl
    exact (h.trans (State.eachTrack_only _ State.freezeTrack_only).show.safety).trans (State.setClock_only _ _).safety
  · rfl
  · next f _ =>
    have h : OnlySafety s ((s.setFreeze .none).post f .thawed noSubject 0) := rfl
    exact (h.trans (State.eachTrack_only _ State.thawTrack_only).show.safety).trans (State.clockThaw_only _).safety

/-! ## The idle timer -/

/-- The evaluation of the idle condition changes nothing but the idle timer. -/
theorem State.evalIdle_only (s : State) :
    s.evalIdle = { s with unit := { s.unit with idleDeadline := s.evalIdle.unit.idleDeadline } } := by
  unfold State.evalIdle; repeat' (first | split | rfl)

theorem settleIdle_only (before after : State) :
    settleIdle before after =
      { after with unit := { after.unit with idleDeadline := (settleIdle before after).unit.idleDeadline } } := by
  unfold settleIdle
  split
  · exact after.evalIdle_only
  · rfl

end Sys2Proof.Machine
end

