-- ==== Sys2Proof/Laws/Memory.lean ====
section
/-! SUPPORT. The cue store's bytes: every write keeps the canonical form, a byte written reads back, and every other byte
reads as before; the same for whole records. -/

namespace Sys2Proof.Machine

/-! ## One byte -/

theorem Memory.wfFrom_cons {low b : Nat} {w : Byte} {rest : Memory} :
    Memory.wfFrom low ((b, w) :: rest) = true ↔ low ≤ b ∧ w ≠ 0 ∧ Memory.wfFrom (b + 1) rest = true := by
  simp [Memory.wfFrom, and_assoc]

theorem Memory.wfFrom_mono {m : Memory} {low low' : Nat} (h : low' ≤ low) (hm : Memory.wfFrom low m = true) :
    Memory.wfFrom low' m = true := by
  cases m with
  | nil => rfl
  | cons c rest =>
    obtain ⟨b, w⟩ := c
    rw [Memory.wfFrom_cons] at hm ⊢
    exact ⟨by omega, hm.2⟩

theorem Memory.read_below {m : Memory} {low a : Nat} (hm : Memory.wfFrom low m = true) (h : a < low) :
    Memory.read m a = 0 := by
  induction m generalizing low with
  | nil => rfl
  | cons c rest ih =>
    obtain ⟨b, w⟩ := c
    rw [Memory.wfFrom_cons] at hm
    have h1 : a ≠ b := by omega
    have h2 : a < b := by omega
    simp [Memory.read, h1, h2]

/-- A write keeps the canonical form. -/
theorem Memory.wfFrom_write {m : Memory} {low a : Nat} {v : Byte} (hm : Memory.wfFrom low m = true) (h : low ≤ a) :
    Memory.wfFrom low (Memory.write m a v) = true := by
  induction m generalizing low with
  | nil =>
    by_cases hv : v = 0#8
    · simp [Memory.write, hv, Memory.wfFrom]
    · simp [Memory.write, hv, Memory.wfFrom, h]
  | cons c rest ih =>
    obtain ⟨b, w⟩ := c
    have hc := Memory.wfFrom_cons.mp hm
    simp only [Memory.write]
    split
    · split
      · exact hm
      · next hv =>
        rw [Memory.wfFrom_cons, Memory.wfFrom_cons]
        exact ⟨h, hv, by omega, hc.2⟩
    · split
      · next hab =>
        split
        · exact Memory.wfFrom_mono (by omega) hc.2.2
        · next hv =>
          subst hab
          rw [Memory.wfFrom_cons]
          exact ⟨h, hv, hc.2.2⟩
      · rw [Memory.wfFrom_cons]
        exact ⟨hc.1, hc.2.1, ih hc.2.2 (by omega)⟩

theorem Memory.wf_write {m : Memory} (hm : Memory.wf m = true) (a : Nat) (v : Byte) :
    Memory.wf (Memory.write m a v) = true :=
  Memory.wfFrom_write hm (Nat.zero_le a)

theorem Memory.read_write_from {m : Memory} {low a : Nat} {v : Byte} (hm : Memory.wfFrom low m = true) (c : Nat) :
    Memory.read (Memory.write m a v) c = if c = a then v else Memory.read m c := by
  induction m generalizing low with
  | nil =>
    simp only [Memory.write, Memory.read]
    by_cases hv : v = 0#8 <;> by_cases hc : c = a <;> simp [hv, hc, Memory.read]
  | cons d rest ih =>
    obtain ⟨b, w⟩ := d
    have hd := Memory.wfFrom_cons.mp hm
    have ih' := ih hd.2.2
    simp only [Memory.write]
    by_cases hab : a < b
    · by_cases hv : v = 0#8
      · by_cases hc : c = a
        · subst hc
          have h1 : c ≠ b := by omega
          simp [hab, hv, Memory.read, h1]
        · simp [hab, hv, hc]
      · by_cases hc : c = a
        · simp [hab, hv, hc, Memory.read]
        · by_cases hca : c < a
          · have h1 : c ≠ b := by omega
            have h2 : c < b := by omega
            simp [hab, hv, hc, Memory.read, hca, h1, h2]
          · simp [hab, hv, hc, Memory.read, hca]
    · by_cases heq : a = b
      · subst heq
        by_cases hv : v = 0#8
        · by_cases hc : c = a
          · subst hc
            simp [hv, Memory.read_below hd.2.2 (Nat.lt_succ_self c)]
          · by_cases hca : c < a
            · simp [hv, hc, Memory.read, hca, Memory.read_below hd.2.2 (by omega : c < a + 1)]
            · simp [hv, hc, Memory.read, hca]
        · by_cases hc : c = a
          · simp [hv, hc, Memory.read]
          · simp [hv, hc, Memory.read]
      · simp only [hab, heq, if_false, Memory.read]
        by_cases hcb : c = b
        · have h1 : c ≠ a := by omega
          simp [hcb, Ne.symm heq]
        · by_cases hlt : c < b
          · have h1 : c ≠ a := by omega
            simp [hcb, hlt, h1]
          · simp [hcb, hlt, ih']

/-- A byte written reads back, and every other byte reads as before. -/
theorem Memory.read_write {m : Memory} (hm : Memory.wf m = true) (a c : Nat) (v : Byte) :
    Memory.read (Memory.write m a v) c = if c = a then v else Memory.read m c :=
  Memory.read_write_from hm c

/-! ## Consecutive bytes -/

theorem Memory.wf_writeBytes {m : Memory} (hm : Memory.wf m = true) (a : Nat) (l : List Byte) :
    Memory.wf (Memory.writeBytes m a l) = true := by
  induction l generalizing m a with
  | nil => exact hm
  | cons v rest ih => exact ih (Memory.wf_write hm a v) (a + 1)

/-- Consecutive bytes written read back, and every byte outside them reads as before. -/
theorem Memory.read_writeBytes {m : Memory} (hm : Memory.wf m = true) (a c : Nat) (l : List Byte) :
    Memory.read (Memory.writeBytes m a l) c =
      if a ≤ c ∧ c < a + l.length then l.getD (c - a) 0 else Memory.read m c := by
  induction l generalizing m a with
  | nil =>
    have h : ¬(a ≤ c ∧ c < a + ([] : List Byte).length) := by simp only [List.length_nil]; omega
    rw [if_neg h]
    rfl
  | cons v rest ih =>
    simp only [Memory.writeBytes, List.length_cons]
    rw [ih (Memory.wf_write hm a v), Memory.read_write hm]
    by_cases h1 : c = a
    · subst h1
      simp
    · by_cases h2 : a + 1 ≤ c ∧ c < a + 1 + rest.length
      · have h3 : a ≤ c ∧ c < a + (rest.length + 1) := by omega
        obtain ⟨k, hk⟩ : ∃ k, c - a = k + 1 := ⟨c - a - 1, by omega⟩
        have hk' : c - (a + 1) = k := by omega
        simp [h2, h3, hk, hk']
      · have h3 : ¬(a ≤ c ∧ c < a + (rest.length + 1)) := by omega
        rw [if_neg h2, if_neg h3, if_neg h1]

/-! ## Records -/

theorem Memory.wf_setRecord {m : Memory} (hm : Memory.wf m = true) (index : Nat) (r : CueRecord) :
    Memory.wf (Memory.setRecord m index r) = true :=
  Memory.wf_writeBytes hm _ _

/-- A record written reads back, and every other record reads as before. -/
theorem Memory.record_setRecord {m : Memory} (hm : Memory.wf m = true) (index other : Nat) (r : CueRecord) :
    Memory.record (Memory.setRecord m index r) other = if other = index then r else Memory.record m other := by
  apply Table.ext_get
  intro k
  have hk := k.isLt
  have hr := r.size
  unfold Memory.record Memory.setRecord
  rw [Table.get_build, Memory.read_writeBytes hm]
  by_cases h : other = index
  · subst h
    have h2 : k.val < r.rows.length := by omega
    rw [if_pos (by omega), if_pos rfl, Nat.add_sub_cancel_left]
    simp [Table.get, h2]
  · rw [if_neg (by omega), if_neg h, Table.get_build]

/-- Loading records keeps the canonical form. -/
theorem wf_loadRecords (window : PortRights) {m : Memory} (hm : Memory.wf m = true) (index : Nat) (l : List CueRecord) :
    Memory.wf (loadRecords window m index l).1 = true := by
  induction l generalizing m index with
  | nil => exact hm
  | cons r rest ih =>
    simp only [loadRecords]
    split
    · split
      · exact hm
      · exact ih (Memory.wf_setRecord hm index r) (index + 1)
    · exact hm

/-- The cue store after reset is in its canonical form. -/
theorem wf_reset : Memory.wf State.reset.cues = true := rfl

end Sys2Proof.Machine
end

