-- ==== Sys2Proof/Laws/PerInstr.lean ====
section
/-!
SUPPORT. The statement made of every command by itself: the body of a request, under its kind code, spells the request again,
within the length a body can have (10 R170, R172). An event has no body and the statement says nothing of it.
-/

namespace Sys2Proof.Laws

/-! ## Fields out of their bytes -/

theorem fieldOf_byteOf (n : U8) : fieldOf (byteOf n.val) = n := by
  apply Fin.ext
  simp [fieldOf, byteOf]

theorem field16_be2 (n : U16) : field16 (byteOf (n.val / 256)) (byteOf n.val) = n := by
  apply Fin.ext
  have h := n.isLt
  simp only [field16, byteOf, BitVec.toNat_ofNat]
  omega

theorem field32_be4 (n : U32) :
    field32 (byteOf (n.val / 16777216)) (byteOf (n.val / 65536)) (byteOf (n.val / 256)) (byteOf n.val) = n := by
  apply Fin.ext
  have h := n.isLt
  simp only [field32, byteOf, BitVec.toNat_ofNat]
  omega

theorem byteOf_toNat (n : U8) : (byteOf n.val).toNat = n.val := by
  simp [byteOf]

theorem setValue_fields (v : SetValue) :
    (⟨fieldOf (byteOf v.b0), fieldOf (byteOf v.b1), fieldOf (byteOf v.b2), fieldOf (byteOf v.b3), fieldOf (byteOf v.b4),
      fieldOf (byteOf v.b5)⟩ : SetValue) = v := by
  simp [fieldOf_byteOf]

theorem splitRecords_rows (l : List CueRecord) : splitRecords (l.map fun r => r.rows).flatten = l := by
  induction l with
  | nil => rfl
  | cons r rest ih =>
    obtain ⟨rows, size⟩ := r
    match rows, size with
    | [b0, b1, b2, b3, b4, b5, b6, b7, b8, b9, b10, b11, b12, b13, b14, b15], _ =>
      simp only [List.map_cons, List.flatten_cons, List.cons_append, List.nil_append, splitRecords, ih]

theorem records_length (l : List CueRecord) : (l.map fun r => r.rows).flatten.length = 16 * l.length := by
  induction l with
  | nil => rfl
  | cons r rest ih => simp only [List.map_cons, List.flatten_cons, List.length_append, r.size, ih, List.length_cons]; omega

theorem sampleOf_bytes (s : Sample) : sampleOf (s.extractLsb' 8 8) (s.extractLsb' 0 8) = s := by
  unfold sampleOf
  ext i hi
  rw [BitVec.getElem_append]
  by_cases h : i < 8
  · simp [h, BitVec.getLsbD_eq_getElem (show i < 16 from hi)]
  · simp [h]
    rw [← BitVec.getLsbD_eq_getElem]
    congr 1; omega

theorem splitFrames_bytes (l : List (Sample × Sample)) :
    splitFrames (l.map fun f => sampleBytes f.1 ++ sampleBytes f.2).flatten = l := by
  induction l with
  | nil => rfl
  | cons f rest ih =>
    simp only [List.map_cons, List.flatten_cons, sampleBytes, List.cons_append, List.nil_append, splitFrames,
      sampleOf_bytes] at ih ⊢
    rw [ih]

theorem frames_length (l : List (Sample × Sample)) :
    (l.map fun f => sampleBytes f.1 ++ sampleBytes f.2).flatten.length = 4 * l.length := by
  induction l with
  | nil => rfl
  | cons f rest ih =>
    rw [List.map_cons, List.flatten_cons, List.length_append, ih]
    simp only [sampleBytes, List.length_append, List.length_cons, List.length_nil]
    omega

/-! ## The family -/

namespace RequestCodec

/-- The body of a well-formed request spells the request again under its kind code, and fits a frame. -/
def Statement (i : Instr) : Prop :=
  ∀ p tag kind body, requestParts i = some (p, tag, kind, body) → i.wellFormed = true →
    parseBody p tag kind body = some i ∧ kind < 256 ∧ body.length ≤ maxBody

theorem claim (port : Port) (tag channel priority wait : U8) :
    Statement (.claim port tag channel priority wait) := by
  intro _ _ _ _ h _; cases h
  exact ⟨congrArg some (congr (congr (congrArg (Instr.claim port tag) (fieldOf_byteOf channel))
    (fieldOf_byteOf priority)) (fieldOf_byteOf wait)),
    by decide, Nat.le_of_ble_eq_true rfl⟩

theorem release (port : Port) (tag channel : U8) : Statement (.release port tag channel) := by
  intro _ _ _ _ h _; cases h
  exact ⟨congrArg some (congrArg (Instr.release port tag) (fieldOf_byteOf channel)),
    by decide, Nat.le_of_ble_eq_true rfl⟩

theorem set (port : Port) (tag channel : U8) (value : SetValue) : Statement (.set port tag channel value) := by
  intro _ _ _ _ h _; cases h
  exact ⟨congrArg some (congr (congrArg (Instr.set port tag) (fieldOf_byteOf channel)) (setValue_fields value)),
    by decide, Nat.le_of_ble_eq_true rfl⟩

theorem watch (port : Port) (tag channel : U8) : Statement (.watch port tag channel) := by
  intro _ _ _ _ h _; cases h
  exact ⟨congrArg some (congrArg (Instr.watch port tag) (fieldOf_byteOf channel)), by decide, Nat.le_of_ble_eq_true rfl⟩

theorem unwatch (port : Port) (tag channel : U8) : Statement (.unwatch port tag channel) := by
  intro _ _ _ _ h _; cases h
  exact ⟨congrArg some (congrArg (Instr.unwatch port tag) (fieldOf_byteOf channel)),
    by decide, Nat.le_of_ble_eq_true rfl⟩

theorem inquire (port : Port) (tag channel : U8) : Statement (.inquire port tag channel) := by
  intro _ _ _ _ h _; cases h
  exact ⟨congrArg some (congrArg (Instr.inquire port tag) (fieldOf_byteOf channel)),
    by decide, Nat.le_of_ble_eq_true rfl⟩

theorem range (port : Port) (tag op first count priority : U8) (value : SetValue) :
    Statement (.range port tag op first count priority value) := by
  intro _ _ _ _ h _; cases h
  exact ⟨congrArg some (congr (congr (congr (congr (congrArg (Instr.range port tag) (fieldOf_byteOf op))
    (fieldOf_byteOf first)) (fieldOf_byteOf count)) (fieldOf_byteOf priority)) (setValue_fields value)),
    by decide, Nat.le_of_ble_eq_true rfl⟩

theorem rangeStop (port : Port) (tag : U8) : Statement (.rangeStop port tag) := by
  intro _ _ _ _ h _; cases h
  exact ⟨rfl, by decide, Nat.le_of_ble_eq_true rfl⟩

theorem rangeStatus (port : Port) (tag : U8) : Statement (.rangeStatus port tag) := by
  intro _ _ _ _ h _; cases h
  exact ⟨rfl, by decide, Nat.le_of_ble_eq_true rfl⟩

theorem rclaimStep : Statement (.rclaimStep) := by
  intro _ _ _ _ h; cases h

theorem rreleaseStep : Statement (.rreleaseStep) := by
  intro _ _ _ _ h; cases h

theorem rsetStep : Statement (.rsetStep) := by
  intro _ _ _ _ h; cases h

theorem rwatchStep : Statement (.rwatchStep) := by
  intro _ _ _ _ h; cases h

theorem runwatchStep : Statement (.runwatchStep) := by
  intro _ _ _ _ h; cases h

theorem cueLoad (port : Port) (tag : U8) (start : U16) (count : U8) (records : List CueRecord) :
    Statement (.cueLoad port tag start count records) := by
  intro _ _ _ _ h hw
  simp only [requestParts, Option.some.injEq, Prod.mk.injEq] at h
  obtain ⟨rfl, rfl, rfl, rfl⟩ := h
  have hf : cueLoadFits count (16 * records.length) = true := hw
  have hl : 16 * records.length ≤ 256 := by
    simp only [cueLoadFits, resolveCount, Bool.and_eq_true, decide_eq_true_eq, beq_iff_eq] at hf
    split at hf <;> omega
  refine ⟨?_, by decide, ?_⟩
  · show (if cueLoadFits (byteOf count.val).toNat (records.map fun r => r.rows).flatten.length then
        some (Instr.cueLoad port tag (field16 (byteOf (start.val / 256)) (byteOf start.val)) (fieldOf (byteOf count.val))
          (splitRecords (records.map fun r => r.rows).flatten))
      else none) = _
    rw [byteOf_toNat, records_length, hf, field16_be2, fieldOf_byteOf, splitRecords_rows]
    rfl
  · simp only [be2, List.cons_append, List.nil_append, List.length_cons, records_length, maxBody]
    omega

theorem cueRead (port : Port) (tag : U8) (start : U16) (count : U8) :
    Statement (.cueRead port tag start count) := by
  intro _ _ _ _ h _; cases h
  exact ⟨congrArg some (congr (congrArg (Instr.cueRead port tag) (field16_be2 start)) (fieldOf_byteOf count)),
    by decide, Nat.le_of_ble_eq_true rfl⟩

theorem trackArm (port : Port) (tag track : U8) (cue : U16) : Statement (.trackArm port tag track cue) := by
  intro _ _ _ _ h _; cases h
  exact ⟨congrArg some (congr (congrArg (Instr.trackArm port tag) (fieldOf_byteOf track)) (field16_be2 cue)),
    by decide, Nat.le_of_ble_eq_true rfl⟩

theorem trackStart (port : Port) (tag track : U8) : Statement (.trackStart port tag track) := by
  intro _ _ _ _ h _; cases h
  exact ⟨congrArg some (congrArg (Instr.trackStart port tag) (fieldOf_byteOf track)),
    by decide, Nat.le_of_ble_eq_true rfl⟩

theorem trackPause (port : Port) (tag track : U8) : Statement (.trackPause port tag track) := by
  intro _ _ _ _ h _; cases h
  exact ⟨congrArg some (congrArg (Instr.trackPause port tag) (fieldOf_byteOf track)),
    by decide, Nat.le_of_ble_eq_true rfl⟩

theorem trackResume (port : Port) (tag track : U8) : Statement (.trackResume port tag track) := by
  intro _ _ _ _ h _; cases h
  exact ⟨congrArg some (congrArg (Instr.trackResume port tag) (fieldOf_byteOf track)),
    by decide, Nat.le_of_ble_eq_true rfl⟩

theorem trackStop (port : Port) (tag track : U8) : Statement (.trackStop port tag track) := by
  intro _ _ _ _ h _; cases h
  exact ⟨congrArg some (congrArg (Instr.trackStop port tag) (fieldOf_byteOf track)),
    by decide, Nat.le_of_ble_eq_true rfl⟩

theorem trackStatus (port : Port) (tag track : U8) : Statement (.trackStatus port tag track) := by
  intro _ _ _ _ h _; cases h
  exact ⟨congrArg some (congrArg (Instr.trackStatus port tag) (fieldOf_byteOf track)),
    by decide, Nat.le_of_ble_eq_true rfl⟩

theorem dueEvent (track : Fin 4) : Statement (.dueEvent track) := by
  intro _ _ _ _ h; cases h

theorem clockRun (port : Port) (tag source : U8) (start : U32) : Statement (.clockRun port tag source start) := by
  intro _ _ _ _ h _; cases h
  exact ⟨congrArg some (congr (congrArg (Instr.clockRun port tag) (fieldOf_byteOf source)) (field32_be4 start)),
    by decide, Nat.le_of_ble_eq_true rfl⟩

theorem clockStop (port : Port) (tag : U8) : Statement (.clockStop port tag) := by
  intro _ _ _ _ h _; cases h
  exact ⟨rfl, by decide, Nat.le_of_ble_eq_true rfl⟩

theorem clockStatus (port : Port) (tag : U8) : Statement (.clockStatus port tag) := by
  intro _ _ _ _ h _; cases h
  exact ⟨rfl, by decide, Nat.le_of_ble_eq_true rfl⟩

theorem audioBlock (port : Port) (tag : U8) (start : U32) (count marker offset : U8) (reserved : List Byte)
    (frames : List (Sample × Sample)) :
    Statement (.audioBlock port tag start count marker offset reserved frames) := by
  intro _ _ _ _ h hw
  simp only [requestParts, Option.some.injEq, Prod.mk.injEq] at h
  obtain ⟨rfl, rfl, rfl, rfl⟩ := h
  have hf : (reserved.length == 9 && frames.length == resolveCount 256 count) = true := hw
  simp only [Bool.and_eq_true, beq_iff_eq] at hf
  have hn : resolveCount 256 count.val ≤ 256 := by
    have := count.isLt
    simp only [resolveCount]; split <;> omega
  have ht : (reserved ++ (frames.map fun f => sampleBytes f.1 ++ sampleBytes f.2).flatten).length
      = 9 + 4 * resolveCount 256 count.val := by
    rw [List.length_append, frames_length]; omega
  refine ⟨?_, by decide, ?_⟩
  · show (if audioFits (byteOf count.val).toNat
          (reserved ++ (frames.map fun f => sampleBytes f.1 ++ sampleBytes f.2).flatten).length then
        some (Instr.audioBlock port tag
          (field32 (byteOf (start.val / 16777216)) (byteOf (start.val / 65536)) (byteOf (start.val / 256)) (byteOf start.val))
          (fieldOf (byteOf count.val)) (fieldOf (byteOf marker.val)) (fieldOf (byteOf offset.val))
          ((reserved ++ (frames.map fun f => sampleBytes f.1 ++ sampleBytes f.2).flatten).take 9)
          (splitFrames ((reserved ++ (frames.map fun f => sampleBytes f.1 ++ sampleBytes f.2).flatten).drop 9)))
      else none) = _
    rw [byteOf_toNat, ht, field32_be4, fieldOf_byteOf, fieldOf_byteOf, fieldOf_byteOf, ← hf.1, List.take_left,
      List.drop_left, splitFrames_bytes]
    simp [audioFits, hf.1]
  · simp only [be4, List.cons_append, List.nil_append, List.length_cons, ht, maxBody]
    omega

theorem clockTick : Statement (.clockTick) := by
  intro _ _ _ _ h; cases h

theorem audioFrame : Statement (.audioFrame) := by
  intro _ _ _ _ h; cases h

theorem coastTick : Statement (.coastTick) := by
  intro _ _ _ _ h; cases h

theorem frameEvent : Statement (.frameEvent) := by
  intro _ _ _ _ h; cases h

theorem ack (body : AckBody) : Statement (.ack body) := by
  intro _ _ _ _ h; cases h

theorem busy : Statement (.busy) := by
  intro _ _ _ _ h; cases h

theorem ident (nodeType : U8) : Statement (.ident nodeType) := by
  intro _ _ _ _ h; cases h

theorem badCheckReply : Statement (.badCheckReply) := by
  intro _ _ _ _ h; cases h

theorem replyWindowExpiry : Statement (.replyWindowExpiry) := by
  intro _ _ _ _ h; cases h

theorem strayReply : Statement (.strayReply) := by
  intro _ _ _ _ h; cases h

theorem holdTimerExpiry : Statement (.holdTimerExpiry) := by
  intro _ _ _ _ h; cases h

theorem recallExpiry (channel : Fin 177) : Statement (.recallExpiry channel) := by
  intro _ _ _ _ h; cases h

theorem jetStatus (port : Port) (tag jet : U8) : Statement (.jetStatus port tag jet) := by
  intro _ _ _ _ h _; cases h
  exact ⟨congrArg some (congrArg (Instr.jetStatus port tag) (fieldOf_byteOf jet)), by decide, Nat.le_of_ble_eq_true rfl⟩

theorem headerStatus (port : Port) (tag header : U8) : Statement (.headerStatus port tag header) := by
  intro _ _ _ _ h _; cases h
  exact ⟨congrArg some (congrArg (Instr.headerStatus port tag) (fieldOf_byteOf header)),
    by decide, Nat.le_of_ble_eq_true rfl⟩

theorem fixtureStatus (port : Port) (tag fixture : U8) : Statement (.fixtureStatus port tag fixture) := by
  intro _ _ _ _ h _; cases h
  exact ⟨congrArg some (congrArg (Instr.fixtureStatus port tag) (fieldOf_byteOf fixture)),
    by decide, Nat.le_of_ble_eq_true rfl⟩

theorem nodeStatus (port : Port) (tag node : U8) : Statement (.nodeStatus port tag node) := by
  intro _ _ _ _ h _; cases h
  exact ⟨congrArg some (congrArg (Instr.nodeStatus port tag) (fieldOf_byteOf node)),
    by decide, Nat.le_of_ble_eq_true rfl⟩

theorem safetyStop (port : Port) (tag : U8) : Statement (.safetyStop port tag) := by
  intro _ _ _ _ h _; cases h
  exact ⟨rfl, by decide, Nat.le_of_ble_eq_true rfl⟩

theorem safetyAck (port : Port) (tag : U8) : Statement (.safetyAck port tag) := by
  intro _ _ _ _ h _; cases h
  exact ⟨rfl, by decide, Nat.le_of_ble_eq_true rfl⟩

theorem estopAsserted : Statement (.estopAsserted) := by
  intro _ _ _ _ h; cases h

theorem estopReleased : Statement (.estopReleased) := by
  intro _ _ _ _ h; cases h

theorem intrusionEdge : Statement (.intrusionEdge) := by
  intro _ _ _ _ h; cases h

theorem freeze (port : Port) (tag : U8) : Statement (.freeze port tag) := by
  intro _ _ _ _ h _; cases h
  exact ⟨rfl, by decide, Nat.le_of_ble_eq_true rfl⟩

theorem thaw (port : Port) (tag : U8) : Statement (.thaw port tag) := by
  intro _ _ _ _ h _; cases h
  exact ⟨rfl, by decide, Nat.le_of_ble_eq_true rfl⟩

theorem safetyStatus (port : Port) (tag : U8) : Statement (.safetyStatus port tag) := by
  intro _ _ _ _ h _; cases h
  exact ⟨rfl, by decide, Nat.le_of_ble_eq_true rfl⟩

theorem configWrite (port : Port) (tag table index : U8) (entry : List Byte) :
    Statement (.configWrite port tag table index entry) := by
  intro _ _ _ _ h hw
  simp only [requestParts, Option.some.injEq, Prod.mk.injEq] at h
  obtain ⟨rfl, rfl, rfl, rfl⟩ := h
  have hf : (configWriteFits table entry.length && decide (entry.length ≤ maxBody - 2)) = true := hw
  simp only [Bool.and_eq_true, decide_eq_true_eq] at hf
  refine ⟨?_, by decide, ?_⟩
  · show (if configWriteFits (byteOf table.val).toNat entry.length then
        some (Instr.configWrite port tag (fieldOf (byteOf table.val)) (fieldOf (byteOf index.val)) entry)
      else none) = _
    rw [byteOf_toNat, hf.1, fieldOf_byteOf, fieldOf_byteOf]
    rfl
  · have := hf.2
    simp only [List.length_cons, maxBody] at this ⊢
    omega

theorem configRead (port : Port) (tag table index : U8) : Statement (.configRead port tag table index) := by
  intro _ _ _ _ h _; cases h
  exact ⟨congrArg some (congr (congrArg (Instr.configRead port tag) (fieldOf_byteOf table)) (fieldOf_byteOf index)),
    by decide, Nat.le_of_ble_eq_true rfl⟩

theorem configSave (port : Port) (tag : U8) : Statement (.configSave port tag) := by
  intro _ _ _ _ h _; cases h
  exact ⟨rfl, by decide, Nat.le_of_ble_eq_true rfl⟩

theorem saveEnd (written : Bool) : Statement (.saveEnd written) := by
  intro _ _ _ _ h; cases h

theorem mode (port : Port) (tag target : U8) : Statement (.mode port tag target) := by
  intro _ _ _ _ h _; cases h
  exact ⟨congrArg some (congrArg (Instr.mode port tag) (fieldOf_byteOf target)), by decide, Nat.le_of_ble_eq_true rfl⟩

theorem idleTimerExpiry : Statement (.idleTimerExpiry) := by
  intro _ _ _ _ h; cases h

theorem showReset (port : Port) (tag : U8) : Statement (.showReset port tag) := by
  intro _ _ _ _ h _; cases h
  exact ⟨rfl, by decide, Nat.le_of_ble_eq_true rfl⟩

theorem showResetLine : Statement (.showResetLine) := by
  intro _ _ _ _ h; cases h

theorem powerOnReset (estopAsserted : Bool) (linkHeld : PerPort Bool) :
    Statement (.powerOnReset estopAsserted linkHeld) := by
  intro _ _ _ _ h; cases h

theorem linkReset (port : Port) : Statement (.linkReset port) := by
  intro _ _ _ _ h; cases h

theorem errorDetail (port : Port) (tag : U8) : Statement (.errorDetail port tag) := by
  intro _ _ _ _ h _; cases h
  exact ⟨rfl, by decide, Nat.le_of_ble_eq_true rfl⟩

theorem noticeRead (port : Port) (tag : U8) : Statement (.noticeRead port tag) := by
  intro _ _ _ _ h _; cases h
  exact ⟨rfl, by decide, Nat.le_of_ble_eq_true rfl⟩

theorem identify (port : Port) (tag : U8) : Statement (.identify port tag) := by
  intro _ _ _ _ h _; cases h
  exact ⟨rfl, by decide, Nat.le_of_ble_eq_true rfl⟩

theorem showStatus (port : Port) (tag : U8) : Statement (.showStatus port tag) := by
  intro _ _ _ _ h _; cases h
  exact ⟨rfl, by decide, Nat.le_of_ble_eq_true rfl⟩

theorem badFrame (port : Port) (bytes : List Byte) : Statement (.badFrame port bytes) := by
  intro _ _ _ _ h; cases h

theorem responseCollect (port : Port) (clocked : Nat) : Statement (.responseCollect port clocked) := by
  intro _ _ _ _ h; cases h

theorem linkResetReleased (port : Port) : Statement (.linkResetReleased port) := by
  intro _ _ _ _ h; cases h

end RequestCodec

end Sys2Proof.Laws
end

