-- ==== Sys2Proof/Tests/Slice0.lean ====
section
/-!
SUPPORT. The model's own tests: ill-formed commands refused, frames written out from 10 R170 to R172, the numbers of the
spec's worked sequences, and for each statement with hypotheses a state and operands that meet them.
-/

namespace Sys2Proof.Tests

-- One kernel evaluation at a time: each has a thread of its own otherwise.
set_option Elab.async false

open Sys2Proof Sys2Proof.Machine

/-- The state after a command. -/
def after (c : Instr) (s : State) : State :=
  match exec c s with
  | .next t => t
  | .fault _ => s
  | .refused _ => s

/-! ## Well-formed commands -/

/-- An EMPTY record (03 R43). -/
def emptyRecord : CueRecord := Table.fill 0

theorem test_wellFormed_cueLoad_one : (Instr.cueLoad .a 0 0 1 [emptyRecord]).wellFormed = true := by decide

theorem test_wellFormed_cueLoad_missing_record : (Instr.cueLoad .a 0 0 2 [emptyRecord]).wellFormed = false := by decide

theorem test_wellFormed_cueLoad_over_sixteen :
    (Instr.cueLoad .a 0 0 17 (List.replicate 17 emptyRecord)).wellFormed = false := by decide

theorem test_wellFormed_audioBlock_reserved :
    (Instr.audioBlock .a 0 0 1 0 0 (List.replicate 8 0) [(0, 0)]).wellFormed = false := by decide

theorem test_wellFormed_audioBlock_frames :
    (Instr.audioBlock .a 0 0 2 0 0 (List.replicate 9 0) [(0, 0)]).wellFormed = false := by decide

theorem test_wellFormed_configWrite_length : (Instr.configWrite .a 0 3 0 (List.replicate 7 0)).wellFormed = false := by
  decide

theorem test_wellFormed_configWrite_unknown_table : (Instr.configWrite .a 0 7 0 []).wellFormed = true := by decide

theorem test_wellFormed_badFrame_no_frame : (Instr.badFrame .a [0, 1, 2]).wellFormed = false := by decide

theorem test_wellFormed_badFrame_good : (Instr.badFrame .a (requestFrame 0x72 1 [])).wellFormed = false := by
  decide +kernel

theorem test_wellFormed_badFrame_short : (Instr.badFrame .a [0x72, 1]).wellFormed = true := by decide

/-! ## Frames and bytes (10 R170 to R172, 03 R44, R45), each body written out by the spec's table -/

/-- 10 R170's own check of the CRC-16: the nine characters 1 to 9. -/
theorem test_crc_of_123456789 : crc16 [0x31, 0x32, 0x33, 0x34, 0x35, 0x36, 0x37, 0x38, 0x39] = 0x29B1#16 := by
  decide +kernel

/-- A frame written out whole: CLAIM, tag 7, channel 12, priority 3, wait flag 0. -/
theorem test_decode_claim_frame : checkFrame .a [0x01, 7, 0, 3, 12, 3, 0, (crcBytes [0x01, 7, 0, 3, 12, 3, 0]).getD 0 0,
    (crcBytes [0x01, 7, 0, 3, 12, 3, 0]).getD 1 0] = .ok (.claim .a 7 12 3 0) := by decide +kernel

theorem test_decode_wrong_crc :
    checkFrame .a [0x01, 7, 0, 3, 12, 3, 0, 0, 0] = .error .badFrame := by decide +kernel

theorem test_decode_wrong_length : checkFrame .a (requestFrame 0x01 7 [12, 3]) = .error .badRequest := by decide +kernel

theorem test_decode_unknown_kind : checkFrame .a (requestFrame 0x07 7 []) = .error .badRequest := by decide +kernel

theorem test_decode_set : parseBody .b 1 0x03 [133, 50, 80, 255, 0, 0, 4]
    = some (.set .b 1 133 ⟨50, 80, 255, 0, 0, 4⟩) := by decide

theorem test_decode_range : parseBody .b 1 0x10 [1, 0, 8, 2, 0, 0, 0, 0, 0, 0]
    = some (.range .b 1 1 0 8 2 ⟨0, 0, 0, 0, 0, 0⟩) := by decide

theorem test_decode_trackArm : parseBody .a 1 0x22 [1, 0x05, 0xFF] = some (.trackArm .a 1 1 1535) := by decide

theorem test_decode_clockRun : parseBody .a 1 0x30 [2, 0x00, 0x01, 0x77, 0x00]
    = some (.clockRun .a 1 2 96000) := by decide

theorem test_decode_audioBlock : parseBody .a 1 0x32
    ([0x00, 0x01, 0x78, 0x90, 1, 6, 0] ++ [0, 0, 0, 0, 0, 0, 0, 0, 0] ++ [0x7F, 0xFF, 0x80, 0x00])
    = some (.audioBlock .a 1 96400 1 6 0 [0, 0, 0, 0, 0, 0, 0, 0, 0] [(0x7FFF, 0x8000)]) := by decide

theorem test_decode_cueRead : parseBody .c 1 0x21 [0x07, 0xFF, 1] = some (.cueRead .c 1 2047 1) := by decide

theorem test_decode_jetStatus : parseBody .c 1 0x40 [40] = some (.jetStatus .c 1 40) := by decide

theorem test_decode_safetyAck : parseBody .c 1 0x51 [] = some (.safetyAck .c 1) := by decide

theorem test_decode_mode : parseBody .c 1 0x63 [3] = some (.mode .c 1 3) := by decide

theorem test_decode_configWrite : parseBody .c 1 0x60 [5, 9, 2] = some (.configWrite .c 1 5 9 [2]) := by decide

theorem test_decode_noticeRead : parseBody .c 1 0x71 [] = some (.noticeRead .c 1) := by decide

/-- No row has bits, so no word spells a command. -/
theorem test_decodeTableWord_none : decodeTableWord 8 0x01 = none := by decide

/-! ## The Directory: the recall of 01 1.12 -/

/-- J12's h_max of 01 1.12. -/
def heightAt (s : State) (j : Fin 128) (hMax : Nat) : State :=
  { s with config := { s.config with jets := s.config.jets.set j { s.config.jets.get j with hMax := hMax } } }

/-- The machine of the worked sequences: LIVE, NORMAL, the factory rights. -/
def live : State := { State.reset with unit := ⟨.live, none, none, .loaded⟩ }

/-- The start of 01 1.12 at timebase 10000. -/
def recall0 : State :=
  { heightAt live 12 2400 with
    now := 10000
    directory := ⟨((Table.fill ChannelEntry.reset : Table ChannelEntry 177).set 12
        ⟨.held .a 1, ⟨false, true, false⟩, some (.height 1000)⟩).set 131 ⟨.held .b 2, noPorts, none⟩,
      [⟨.a, 131, 2, 1⟩], 2⟩ }

/-- The same at 10310: C has withdrawn, B waits at 2. -/
def recall1 : State :=
  { recall0 with
    now := 10310
    directory := ⟨recall0.directory.entries.set 12 ⟨.recalling .a 1 10500, ⟨false, true, false⟩, some (.height 2400)⟩,
      [⟨.a, 131, 2, 1⟩, ⟨.b, 12, 2, 3⟩], 4⟩ }

theorem test_claim_starts_recall :
    (after (.claim .c 1 12 3 0) recall0).directory
        = ⟨recall0.directory.entries.set 12 ⟨.recalling .a 1 10500, ⟨false, true, false⟩, some (.height 1000)⟩,
            [⟨.a, 131, 2, 1⟩, ⟨.c, 12, 3, 2⟩], 3⟩
      ∧ (after (.claim .c 1 12 3 0) recall0).ports.a.notices = [⟨.recall, 12, 1, 0, .none⟩]
      ∧ (after (.claim .c 1 12 3 0) recall0).ports.c.state = .answering 0x01 1 ⟨.queued, .empty⟩ := by decide +kernel

theorem test_set_clamped :
    ((after (.set .a 1 12 ⟨11, 184, 0, 0, 0, 0⟩) recall1).entry 12).slot = some (.height 2400)
      ∧ (after (.set .a 1 12 ⟨11, 184, 0, 0, 0, 0⟩) recall1).ports.a.state = .answering 0x03 1 ⟨.clamped, .empty⟩ := by
  decide +kernel

theorem test_inquire_time_remaining : (after (.inquire .c 1 12) recall1).ports.c.state
    = .answering 0x06 1 ⟨.ok, .inquire ⟨.recalling .a 1 10500, ⟨false, true, false⟩, some (.height 2400)⟩ (some 190)
        [(.b, 2)]⟩ := by decide +kernel

theorem test_recall_expiry :
    (after (.recallExpiry 12) { recall1 with now := 10500 }).entry 12 = ⟨.held .b 2, ⟨false, true, false⟩, none⟩
      ∧ (after (.recallExpiry 12) { recall1 with now := 10500 }).directory.waiters = [⟨.a, 131, 2, 1⟩]
      ∧ (after (.recallExpiry 12) { recall1 with now := 10500 }).ports.a.notices = [⟨.lost, 12, 1, 0, .none⟩]
      ∧ (after (.recallExpiry 12) { recall1 with now := 10500 }).ports.b.notices
          = [⟨.granted, 12, 2, 0, .none⟩, ⟨.holderChanged, 12, 2, 0, .none⟩] := by decide +kernel

theorem test_release_withdraws :
    (after (.release .b 1 12) recall1).entry 12 = ⟨.held .a 1, ⟨false, true, false⟩, some (.height 2400)⟩
      ∧ (after (.release .b 1 12) recall1).ports.a.notices = [⟨.recall, 12, 0, 0, .none⟩] := by decide +kernel

theorem test_release_not_holder : (after (.release .a 1 5) recall1).ports.a.state
    = .answering 0x02 1 ⟨.notHolder, .empty⟩ := by decide +kernel

theorem test_watch_and_unwatch : ((after (.watch .c 1 12) recall0).entry 12).watchers = ⟨false, true, true⟩
    ∧ ((after (.unwatch .b 1 12) recall0).entry 12).watchers = ⟨false, false, false⟩ := by decide +kernel

/-! ## Range operations (02 2.7) -/

/-- B's RCLAIM at priority 2 over J0 to J7, six channels taken, before its step at J6. -/
def ranged : State :=
  { live with
    range := ⟨some ⟨.b, .claim 2, 0, 8, 5, 1, some 4⟩, none⟩
    directory := ⟨((Table.fill ChannelEntry.reset : Table ChannelEntry 177).set 6
        ⟨.recalling .b 1 20400, noPorts, none⟩).set 7 ⟨.held .c 1, noPorts, none⟩, [⟨.c, 6, 2, 1⟩], 2⟩ }

theorem test_rclaim_step_ends_recall :
    ((after .rclaimStep ranged).entry 6).hold = .held .b 2
      ∧ (after .rclaimStep ranged).ports.b.notices = [⟨.recall, 6, 0, 0, .none⟩]
      ∧ (after .rclaimStep ranged).range.active = some ⟨.b, .claim 2, 0, 8, 6, 1, some 4⟩ := by decide +kernel

theorem test_rclaim_step_completes :
    (after .rclaimStep { ranged with range := ⟨some ⟨.b, .claim 2, 0, 8, 6, 1, some 4⟩, none⟩ }).range
        = ⟨none, some ⟨.b, .claim 2, 0, 8, 6, 2, some 4, 0, .complete⟩⟩
      ∧ (after .rclaimStep { ranged with range := ⟨some ⟨.b, .claim 2, 0, 8, 6, 1, some 4⟩, none⟩ }).ports.b.notices
        = [⟨.rangeDone, 0, 0, 0, .range 6 2 (some 4) 0⟩] := by decide +kernel

theorem test_range_accepted : (after (.range .b 1 1 0 8 2 ⟨0, 0, 0, 0, 0, 0⟩) live).range.active
    = some ⟨.b, .claim 2, 0, 8, 0, 0, none⟩ := by decide +kernel

theorem test_rset_step : ((after .rsetStep { ranged with
      range := ⟨some ⟨.b, .set ⟨0, 100, 0, 0, 0, 0⟩, 6, 2, 0, 0, none⟩, none⟩ }).entry 6).slot
    = some (.height 100) := by decide +kernel

theorem test_rrelease_step_transfers : ((after .rreleaseStep { ranged with
      range := ⟨some ⟨.b, .release, 6, 2, 0, 0, none⟩, none⟩ }).entry 6).hold = .held .c 2 := by decide +kernel

theorem test_rwatch_and_runwatch_steps :
    ((after .rwatchStep { ranged with range := ⟨some ⟨.b, .watch, 7, 1, 0, 0, none⟩, none⟩ }).entry 7).watchers
        = ⟨false, true, false⟩
      ∧ ((after .runwatchStep { ranged with range := ⟨some ⟨.b, .unwatch, 7, 1, 0, 0, none⟩, none⟩ }).entry 7).watchers
        = noPorts := by decide +kernel

theorem test_range_stop_other_port : (after (.rangeStop .a 1) ranged).ports.a.state
    = .answering 0x11 1 ⟨.noRight, .empty⟩ := by decide +kernel

theorem test_range_status : (after (.rangeStatus .c 1) ranged).ports.c.state
    = .answering 0x12 1 ⟨.ok, .rangeStatus ranged.range.active none⟩ := by decide +kernel

/-! ## Cues and tracks (03 3.10, 3.11) -/

/-- A record of the bytes written out; the bytes left out are 0. -/
def rec16 (l : List Byte) : CueRecord := Table.build fun k => l.getD k.val 0

/-- The records 100 to 107 of 03 3.10 by the layouts of R44 and R45. -/
def list310 : List CueRecord :=
  [rec16 [0x04, 0, 0, 0, 0, 0, 0, 200], rec16 [0x11, 1, 0, 0, 3, 7], rec16 [0x02, 0, 0, 0, 0, 4, 0x05, 0xDC],
    rec16 [0x03, 0, 0x01, 0xF4, 128, 0, 40, 255, 0, 0, 0, 25], rec16 [0x12, 0, 0x01, 0xF4], rec16 [0x10, 0, 0, 0, 9],
    rec16 [0x01, 0, 0, 0, 0, 0, 0, 0], rec16 [0x1F, 0, 0x07, 0xD0]]

theorem test_cue_kinds : list310.map CueRecord.cue = [.setGain 200, .loop 3 (some 7), .setJets 0 4 1500,
    .setFix 128 ⟨0, 40, 255, 0⟩ 25, .loopEnd, .waitMarker 9, .setJet 0 0, .end_] := by decide +kernel

theorem test_cue_deltas : list310.map CueRecord.delta = [0, 0, 0, 500, 500, 0, 0, 2000] := by decide +kernel

theorem test_cue_valid : list310.map CueRecord.fault = List.replicate 8 none := by decide +kernel

theorem test_cue_invalid : [rec16 [0x05], rec16 [0x01, 1], rec16 [0x02, 0, 0, 0, 0, 17], rec16 [0x11, 1, 0, 0, 3, 0],
    rec16 [0x12, 0, 0, 0, 9], rec16 [0, 0, 0, 1]].map CueRecord.fault
      = [some 0, some 1, some 5, some 5, some 4, some 2] := by decide +kernel

/-- The holdings of 03 3.10: A holds AUD, J0, J1, J2 and F0; B holds J3. -/
def show310 : State :=
  { live with
    cues := Memory.writeBytes [] 1600 ((list310.map Table.rows).flatten)
    directory := ⟨Table.build fun ch : Fin 177 =>
      if ch.val ≤ 2 ∨ ch.val = 128 ∨ ch.val = 176 then ⟨.held .a 1, noPorts, none⟩
      else if ch.val = 3 then ⟨.held .b 1, noPorts, none⟩ else ChannelEntry.reset, [], 1⟩
    clock := { ClockUnit.reset with run := .running, source := .audio, position := 2880000, value := 60000 } }

/-- T1 RUNNING at a record with a due time reached. -/
def dueAt (cue : Nat) (stack : List StackFrame) (due : Nat) : State :=
  { show310 with
    clock := { show310.clock with position := 48 * due, value := due }
    tracks := show310.tracks.set 1 (some ⟨.a, cue, stack, ⟨false, false, false⟩, .running due due⟩) }

theorem test_arm : (after (.trackArm .a 1 1 100) show310).track 1
      = some ⟨.a, 100, [], ⟨false, false, false⟩, .armed⟩
    ∧ (after (.trackArm .a 1 1 100) show310).ports.a.notices = [⟨.trackState, 1, 1, 60000, .none⟩] := by decide +kernel

/-- Clock 60000: record 100 has delta 0, so TRACK_START is followed at once by the first due event. -/
theorem test_start : let t := after (.trackStart .a 1 1) { show310 with
      tracks := show310.tracks.set 1 (some ⟨.a, 100, [], ⟨false, false, false⟩, .armed⟩) }
    (t.track 1).map (fun b => (b.cue, b.phase.items.1)) = some (103, some 60500)
      ∧ t.ports.a.notices = [⟨.trackState, 1, 2, 60000, .none⟩, ⟨.cueSkipped, 1, 1, 60000, .cue 102⟩] := by
  decide +kernel

/-- The first due event: three records taken, J3 skipped. -/
theorem test_due_event_first :
    ((after (.dueEvent 1) (dueAt 100 [] 60000)).track 1) = some ⟨.a, 103, [.loop 102 3 (some 7) false],
        ⟨false, false, false⟩, .running 60500 60500⟩
      ∧ ((after (.dueEvent 1) (dueAt 100 [] 60000)).entry 2).slot = some (.height 1000)
      ∧ ((after (.dueEvent 1) (dueAt 100 [] 60000)).entry 3).slot = none
      ∧ ((after (.dueEvent 1) (dueAt 100 [] 60000)).entry 176).slot = some (.gain 200)
      ∧ (after (.dueEvent 1) (dueAt 100 [] 60000)).ports.a.notices = [⟨.cueSkipped, 1, 1, 60000, .cue 102⟩] := by
  decide +kernel

/-- Clock 62000: the loop ends on its marker and the track waits for marker 9. -/
theorem test_due_event_loop_ends :
    (after (.dueEvent 1) (dueAt 104 [.loop 102 2 (some 7) true] 62000)).track 1
      = some ⟨.a, 106, [], ⟨false, false, false⟩, .waiting 9⟩ := by decide +kernel

theorem test_due_event_window_end :
    ((after (.dueEvent 1) { dueAt 1023 [] 62000 with
        cues := Memory.writeBytes [] (16 * 1023) (rec16 [0x01]).rows }).track 1).map (fun b => (b.cue, b.phase))
      = some (1023, .faulted .windowEnd) := by decide +kernel

theorem test_pause : ((after (.trackPause .a 1 1) (dueAt 103 [] 61500)).track 1).map (fun b => (b.reasons.owner, b.phase))
    = some (true, .paused 0) := by decide +kernel

/-- Clock 63500: the remaining time is 0, so record 106 stages J0 0 at once. -/
theorem test_resume : let t := after (.trackResume .a 1 1) { dueAt 106 [] 63500 with
      tracks := show310.tracks.set 1 (some ⟨.a, 106, [], ⟨true, false, false⟩, .paused 0⟩) }
    (t.track 1).map (fun b => (b.cue, b.phase.items.1)) = some (107, some 65500)
      ∧ (t.entry 0).slot = some (.height 0) := by decide +kernel

theorem test_stop_track : (after (.trackStop .a 1 1) (dueAt 103 [] 61500)).track 1 = none
    ∧ (after (.trackStop .a 1 1) (dueAt 103 [] 61500)).ports.a.notices = [⟨.trackState, 1, 0, 61500, .none⟩] := by
  decide +kernel

theorem test_track_status : (after (.trackStatus .b 1 1) (dueAt 103 [] 61500)).ports.b.state
    = .answering 0x27 1 ⟨.ok, .trackStatus ((dueAt 103 [] 61500).track 1)⟩ := by decide +kernel

theorem test_cue_load_stops_at_window : (after (.cueLoad .a 1 1023 2 [rec16 [0x1F], rec16 [0x1F]]) live).cues
      = [(16368, 0x1F)]
    ∧ (after (.cueLoad .a 1 1023 2 [rec16 [0x1F], rec16 [0x1F]]) live).ports.a.error
      = some ⟨.noRight, 0x20, 1, 1024, 1⟩ := by decide +kernel

theorem test_cue_read : (after (.cueRead .b 1 107 1) show310).ports.b.state
    = .answering 0x21 1 ⟨.ok, .cueRecords [rec16 [0x1F, 0, 0x07, 0xD0]]⟩ := by decide +kernel


/-! ## The audio stream (04 4.12) -/

/-- A block of frames that all hold one sample on both sides. -/
def blockOf (start n : Nat) (marker : Option Marker) (x : Sample) : Block := ⟨start, marker, List.replicate n (x, x)⟩

/-- The queue of 04 4.12 at play position 96000, A holding AUD with gain 200 staged. -/
def music : State :=
  { live with
    directory := ⟨(Table.fill ChannelEntry.reset : Table ChannelEntry 177).set 176 ⟨.held .a 1, noPorts, some (.gain 200)⟩,
      [], 1⟩
    clock := { ClockUnit.reset with
      run := .running, source := .audio, position := 96000, value := 2000
      queue := [blockOf 96000 256 none 32767, blockOf 96256 256 (some ⟨4, 96356⟩) 1] } }

/-- The same at the end of block 3 of the sequence, its last frame to be played. -/
def lastFrame (policy : Policy) : State :=
  { music with
    clock := { music.clock with position := 96599, value := 2012, queue := [blockOf 96512 88 none 0] }
    config := { music.config with global := { music.config.global with policy := policy } } }

theorem test_audio_frame_takes_gain : (after .audioFrame music).clock.output = ⟨25599, 25599⟩
    ∧ (after .audioFrame music).clock.gain = 200 ∧ ((after .audioFrame music).entry 176).slot = none
    ∧ (after .audioFrame music).clock.position = 96001 := by decide +kernel

theorem test_marker_passes : (after .audioFrame { music with
      clock := { music.clock with position := 96356, value := 2007, queue := [blockOf 96256 256 (some ⟨4, 96356⟩) 1] }
      }).clock.log = [⟨4, 2007⟩] := by decide +kernel

theorem test_audio_block_trimmed :
    (after (.audioBlock .a 1 96400 200 6 50 (List.replicate 9 0) (List.replicate 200 (0, 0)))
        { music with clock := { music.clock with position := 96100, value := 2002 } }).ports.a.state
      = .answering 0x32 1 ⟨.ok, .audioTaken 112 true⟩ := by decide +kernel

theorem test_audio_block_late :
    (after (.audioBlock .a 1 97000 0 0 0 (List.replicate 9 0) (List.replicate 256 (0, 0)))
        { music with clock := { music.clock with position := 98040, value := 2042, coasting := true, queue := [] } }
      ).ports.a.state = .answering 0x32 1 ⟨.late, .empty⟩ := by decide +kernel

theorem test_underrun_coast : (after .audioFrame (lastFrame .coast)).clock.coasting = true
    ∧ (after .audioFrame (lastFrame .coast)).clock.position = 96600
    ∧ (after .audioFrame (lastFrame .coast)).clock.value = 2012
    ∧ (after .audioFrame (lastFrame .coast)).ports.a.notices = [⟨.underrun, 176, 0, 2012, .none⟩] := by decide +kernel

theorem test_underrun_stall : (after .audioFrame (lastFrame .stall)).clock.run = .stalled
    ∧ (after .audioFrame (lastFrame .stall)).clock.value = 2012 := by decide +kernel

theorem test_coast_tick : (after .coastTick { music with
      clock := { music.clock with position := 97992, value := 2041, coasting := true, queue := [] } }).clock.position
        = 98040
    ∧ (after .coastTick { music with
      clock := { music.clock with position := 97992, value := 2041, coasting := true, queue := [] } }).clock.value
        = 2042 := by decide +kernel

theorem test_clock_tick : (after .clockTick { live with
      clock := { ClockUnit.reset with run := .running, value := 5 } }).clock.value = 6 := by decide +kernel

theorem test_clock_run_drops_passed_blocks :
    (after (.clockRun .a 1 2 96256) { music with clock := { music.clock with run := .stopped } }).clock.queue
      = [blockOf 96256 256 (some ⟨4, 96356⟩) 1]
    ∧ (after (.clockRun .a 1 2 96256) { music with clock := { music.clock with run := .stopped } }).clock.value = 2005 := by
  decide +kernel

theorem test_clock_stop : (after (.clockStop .a 1) music).clock.run = .stopped
    ∧ (after (.clockStop .a 1) music).clock.position = 96000 := by decide +kernel

theorem test_clock_status_span : (after (.clockStatus .b 1) music).ports.b.state = .answering 0x33 1 ⟨.ok, .clockStatus
    ⟨2000, .running, .audio, false, false, false, 96000, 2, some (96000, 96512), 256, .coast, []⟩⟩ := by decide +kernel

/-! ## Jet and pump shaping (05 5.9, 08's gusty spell) -/

/-- The configuration of 05 5.9, F5 of 06 6.7 following J40. -/
def config59 : Tables :=
  { Tables.factory with
    jets := Table.build fun j : Fin 128 =>
      if 40 ≤ j.val ∧ j.val ≤ 43 then
        ⟨true, 3, 1, 0, 2400, 10, 30, 25, ⟨[0, 180, 300, 400, 490, 570, 645, 715, 780], rfl⟩,
          ⟨[0, 120, 170, 208, 240, 268, 294, 317, 340], rfl⟩⟩
      else JetConfig.factory
    headers := (Table.fill HeaderConfig.factory : Table HeaderConfig 16).set 3 ⟨true, 9, 1500, 200, 20, 40⟩
    fixtures := (Table.fill FixtureConfig.factory : Table FixtureConfig 48).set 5 ⟨true, 6, 0, some 40⟩
    nodes := (Table.fill .none : Table NodeType 32).set 9 .drive }

/-- Before the first frame event of 05 5.9, with F5's fade of 06 6.7 staged. -/
def frame0 : State :=
  { live with
    now := 20
    config := config59
    directory := ⟨Table.build fun ch : Fin 177 =>
      if 40 ≤ ch.val ∧ ch.val ≤ 43 then ⟨.held .a 1, noPorts, none⟩
      else if ch.val = 133 then ⟨.held .b 1, noPorts, some (.colour ⟨50, 80, 255, 0⟩ 4)⟩ else ChannelEntry.reset, [], 1⟩
    jets := Table.build fun j : Fin 128 =>
      if 40 ≤ j.val ∧ j.val ≤ 43 then { JetRecord.reset with commanded := 2000, valve := 450 } else JetRecord.reset
    headers := (Table.fill HeaderRecord.reset : Table HeaderRecord 16).set 3 { HeaderRecord.reset with commanded := 600 }
    nodes := (Table.fill (NodeRecord.fresh .none) : Table NodeRecord 32).set 9
      ⟨.online, 0, 0, 0, some ⟨600, false⟩, none⟩
    fixtures := (Table.fill FixtureRecord.reset : Table FixtureRecord 48).set 5
      ⟨⟨200, 80, 0, 255⟩, ⟨200, 80, 0, 255⟩, ⟨200, 80, 0, 255⟩, 25, 25, ⟨122, 49, 0, 156⟩, some 157, .follow⟩
    safety := { Supervisor.reset with standing := .present, gust := 110, wind := .derate } }

theorem test_frame_event_jet : (after .frameEvent frame0).jets.get 40 = ⟨2000, 1706, 621, 285, 490, 224, 480, 157⟩ := by
  decide +kernel

theorem test_frame_event_header :
    (after .frameEvent frame0).headers.get 3 = ⟨1140, 900, 896, 3233, 760, 620, 600, .saturated⟩
      ∧ (after .frameEvent frame0).ports.a.notices = [⟨.headerState, 3, 1, 0, .none⟩] := by decide +kernel

/-- The frame event after the second, the drive node LOST. -/
theorem test_frame_event_drive_lost :
    let s := { frame0 with
      jets := frame0.jets.set 40 { JetRecord.reset with commanded := 2000, valve := 506 }
      headers := frame0.headers.set 3 { HeaderRecord.reset with commanded := 640 }
      nodes := frame0.nodes.set 9 ⟨.lost, 0, 3, 0, some ⟨620, false⟩, none⟩ }
    ((after .frameEvent s).jets.get 40).valve = 481 ∧ ((after .frameEvent s).jets.get 40).follow = 157
      ∧ (after .frameEvent s).headers.get 3 = ⟨1140, 0, 0, 0, 0, 600, 0, .pumpLost⟩ := by decide +kernel

theorem test_frame_event_fixture : (after .frameEvent frame0).fixtures.get 5
    = ⟨⟨200, 80, 0, 255⟩, ⟨50, 80, 255, 0⟩, ⟨162, 80, 63, 191⟩, 4, 1, ⟨99, 49, 38, 117⟩, some 157, .follow⟩ := by
  decide +kernel

theorem test_fade_steps : fadePointOf ⟨200, 80, 0, 255⟩ ⟨50, 80, 255, 0⟩ 2 4 = ⟨125, 80, 127, 127⟩
    ∧ fadePointOf ⟨200, 80, 0, 255⟩ ⟨50, 80, 255, 0⟩ 3 4 = ⟨87, 80, 191, 63⟩ := by decide +kernel

theorem test_wind_heights : windHeight 2400 (windDerate 10 90 40) = 1903 ∧ windHeight 2400 (windDerate 10 155 40) = 1256
    ∧ windHeight 2400 (windDerate 10 30 40) = 2400 := by decide +kernel

theorem test_jet_status : (after (.jetStatus .b 1 40) frame0).ports.b.state
    = .answering 0x40 1 ⟨.ok, .jetStatus true 3 ⟨2000, 0, 0, 0, 0, 0, 450, 0⟩⟩ := by decide +kernel

theorem test_header_status : (after (.headerStatus .b 1 16) frame0).ports.b.state
    = .answering 0x41 1 ⟨.outOfRange, .empty⟩ := by decide +kernel

theorem test_fixture_status_staged : (after (.fixtureStatus .b 1 5) frame0).ports.b.state
    = .answering 0x42 1 ⟨.ok, .fixtureStatus true (some 40) FixtureRecord.reset true⟩ := by decide +kernel

/-! ## The field link (07 7.10) -/

/-- A sweep held at node 9 with an UPDATE in flight. -/
def atNode9 (s : State) (kind : SentKind) (r : NodeRecord) : State :=
  { s with
    config := { s.config with nodes := s.config.nodes.set 9 .drive }
    nodes := s.nodes.set 9 r
    sweep := ⟨some ⟨⟨9, kind, [], 500, true⟩, false⟩, false, false, 1⟩ }

theorem test_busy_first : (after .busy (atNode9 live .update ⟨.online, 0, 0, 0, some ⟨640, false⟩, none⟩)).node 9
    = ⟨.backoff, 1, 0, 1, some ⟨640, false⟩, none⟩ := by decide +kernel

theorem test_busy_fifth :
    (after .busy (atNode9 live .syncUpdate ⟨.backoff, 4, 0, 0, some ⟨640, false⟩, none⟩)).node 9
        = ⟨.lost, 5, 3, 0, some ⟨640, false⟩, none⟩
      ∧ (after .busy (atNode9 live .syncUpdate ⟨.backoff, 4, 0, 0, some ⟨640, false⟩, none⟩)).ports.b.notices
        = [⟨.nodeState, 9, 2, 0, .none⟩] := by decide +kernel

theorem test_ack_after_backoff :
    (after (.ack (.drive 0 false)) (atNode9 live .syncUpdate ⟨.backoff, 2, 1, 0, none, none⟩)).node 9
      = ⟨.online, 0, 0, 0, some ⟨0, false⟩, none⟩ := by decide +kernel

theorem test_ident_after_loss :
    (after (.ident 2) (atNode9 live .probe ⟨.lost, 5, 3, 0, some ⟨640, false⟩, none⟩)).node 9
        = ⟨.syncing, 0, 0, 0, some ⟨640, false⟩, none⟩
      ∧ (after (.ident 2) (atNode9 live .probe ⟨.lost, 5, 3, 0, some ⟨640, false⟩, none⟩)).ports.c.notices
        = [⟨.nodeState, 9, 0, 0, .none⟩] := by decide +kernel

theorem test_ident_wrong_type :
    ((after (.ident 1) (atNode9 live .probe ⟨.offline, 0, 1, 0, none, none⟩)).node 9).missCount = 2 := by decide +kernel

theorem test_third_miss : ((after .badCheckReply (atNode9 live .update ⟨.online, 0, 2, 0, none, none⟩)).node 9).state
    = .lost := by decide +kernel

theorem test_reply_window_expiry :
    ((after .replyWindowExpiry (atNode9 live .update ⟨.online, 0, 0, 0, none, none⟩)).node 9).missCount = 1 := by
  decide +kernel

theorem test_stray_reply : exec .strayReply live = .next live := by rfl

/-- 07 7.11: a frame event that finds a sweep running and one pending. -/
theorem test_overrun : (after .frameEvent { atNode9 live .update ⟨.online, 0, 0, 0, none, none⟩ with
      now := 20
      unit := ⟨.dark, none, none, .loaded⟩
      sweep := ⟨some ⟨⟨9, .update, [], 500, true⟩, false⟩, true, false, 1⟩ }).sweep
    = ⟨some ⟨⟨9, .update, [], 500, true⟩, false⟩, true, true, 1⟩ := by decide +kernel

/-- A drive update carries the header's commanded speed, and its frame the CRC-16 over what stands before it. -/
theorem test_update_body : frame0.updateBody 9 = [0x02, 0x58]
    ∧ Transmission.frame ⟨9, .update, [0x02, 0x58], 500, true⟩ = [9, 1, 0x02, 0x58] ++ crcBytes [9, 1, 0x02, 0x58] := by
  decide +kernel

theorem test_node_status_out_of_range : (after (.nodeStatus .a 1 32) live).ports.a.state
    = .answering 0x43 1 ⟨.outOfRange, .empty⟩ := by decide +kernel

/-! ## The Safety Supervisor (08) -/

/-- A reading of 08's gusty spell: node 9 is the SENSE node, ONLINE, its update answered with this wind at this time. -/
def reading (wind : U16) (gust : Nat) (hold : Option Nat) (state : Wind) (time : Nat) : State :=
  let s := { live with
    now := time
    config := { live.config with nodes := live.config.nodes.set 9 .sense }
    nodes := live.nodes.set 9 ⟨.online, 0, 0, 0, none, none⟩
    sweep := ⟨some ⟨⟨9, .update, [], 500, true⟩, false⟩, false, false, 1⟩
    safety := { Supervisor.reset with standing := .present, gust := gust, holdDeadline := hold, wind := state } }
  after (.ack (.sense wind false)) s

theorem test_gust_rises : (reading 185 90 (some 3000) .derate 1200).safety.gust = 185
    ∧ (reading 185 90 (some 3000) .derate 1200).safety.holdDeadline = some 4200
    ∧ (reading 185 90 (some 3000) .derate 1200).safety.wind = .windStop
    ∧ (reading 185 90 (some 3000) .derate 1200).ports.a.notices = [⟨.safetyState, 255, 12, 0, .none⟩] := by
  decide +kernel

theorem test_gust_falls : (reading 60 90 (some 3000) .derate 500).safety.gust = 90
    ∧ (reading 170 185 none .windStop 4300).safety.wind = .windStop
    ∧ (reading 155 175 none .windStop 7900).safety.wind = .derate
    ∧ (reading 30 155 none .derate 8000).safety.wind = .calm := by decide +kernel

theorem test_hold_timer_expiry :
    (after .holdTimerExpiry { live with now := 4200, safety := { Supervisor.reset with holdDeadline := some 4200 } }
      ).safety.holdDeadline = none := by decide +kernel

/-- 08 8.9: A holds J0, C holds the SAFETY right. -/
def guarded : State :=
  { live with
    directory := ⟨(Table.fill ChannelEntry.reset : Table ChannelEntry 177).set 0
      ⟨.held .a 1, noPorts, some (.height 5)⟩, [⟨.b, 0, 1, 1⟩], 2⟩ }

set_option maxRecDepth 20000 in
theorem test_safety_stop : (after (.safetyStop .c 1) guarded).entry 0 = ⟨.safed, noPorts, none⟩
    ∧ (after (.safetyStop .c 1) guarded).ports.b.notices
      = [⟨.claimDropped, 0, 2, 0, .none⟩, ⟨.safetyState, 255, 4, 0, .none⟩] := by decide +kernel

theorem test_safety_stop_no_right : (after (.safetyStop .a 1) guarded).ports.a.state
    = .answering 0x50 1 ⟨.noRight, .empty⟩ := by decide +kernel

/-- 08 8.9 in STOPPED, with the line asserted and the level LOW. -/
def stopped : State :=
  { live with
    directory := ⟨Table.build fun ch : Fin 177 => ⟨if ch.val < 176 then .safed else .free, noPorts, none⟩, [], 1⟩
    safety := { Supervisor.reset with
      state := .stopped, causes := [.manual, .level, .estop], first := some .manual, further := true
      estopAsserted := true, levelLow := true, standing := .present } }

theorem test_safety_ack_waits : (after (.safetyAck .c 1) stopped).safety.causes = [.level, .estop]
    ∧ (after (.safetyAck .c 1) stopped).ports.c.error = some ⟨.wrongState, 0x51, 0, 3, 0⟩ := by decide +kernel

theorem test_safety_ack_ends : let s := { stopped with safety := { stopped.safety with
      causes := [.level, .estop], estopAsserted := false, levelLow := false } }
    (after (.safetyAck .c 1) s).safety.state = .normal ∧ (after (.safetyAck .c 1) s).safety.first = none
      ∧ ((after (.safetyAck .c 1) s).entry 175).hold = .free
      ∧ (after (.safetyAck .c 1) s).ports.b.notices = [⟨.safetyState, 255, 0, 0, .none⟩] := by decide +kernel

theorem test_estop_asserted : (after .estopAsserted { stopped with safety := { stopped.safety with
      causes := [.manual, .level], estopAsserted := false } }).safety.causes = [.manual, .level, .estop] := by
  decide +kernel

theorem test_estop_released : (after .estopReleased stopped).safety.estopAsserted = false
    ∧ (after .estopReleased stopped).safety.causes = [.manual, .level, .estop] := by decide +kernel

theorem test_intrusion_edge : (after .intrusionEdge { stopped with safety := { stopped.safety with
      causes := [.intrusion] } }).safety.intrusionPending = true := by decide +kernel

theorem test_freeze : (after (.freeze .c 1) live).safety.freeze = .requested .c
    ∧ (after (.freeze .c 1) live).ports.c.state = .answering 0x52 1 ⟨.accepted, .empty⟩ := by decide +kernel

theorem test_thaw_withdraws : let s := { live with safety := { Supervisor.reset with freeze := .requested .c } }
    (after (.thaw .c 1) s).safety.freeze = .none
      ∧ (after (.thaw .c 1) s).ports.c.notices = [⟨.thawed, 255, 1, 0, .none⟩] := by decide +kernel

theorem test_safety_status : (after (.safetyStatus .a 1) { live with now := 10, safety := { Supervisor.reset with
      holdDeadline := some 25, standing := .missing } }).ports.a.state
    = .answering 0x54 1 ⟨.ok, .safetyStatus { Supervisor.reset with holdDeadline := some 25, standing := .missing }
      true 15⟩ := by decide +kernel

/-! ## Modes and configuration (09 9.11) -/

/-- The tables of 09 9.11 as C writes them: 32 jets of 8 to a node, with the slot of jet 9 and the curves to be given. -/
def commissioned (slotOf9 : Fin 8) (curve : Table Nat 9) : Tables :=
  { Tables.factory with
    jets := Table.build fun j : Fin 128 =>
      if j.val < 32 then
        { JetConfig.factory with
          enabled := true
          node := Fin.ofNat 32 (1 + j.val / 8)
          slot := if j.val = 9 then slotOf9 else Fin.ofNat 8 (j.val % 8)
          openings := curve
          flows := curve }
      else JetConfig.factory
    headers := (Table.fill HeaderConfig.factory : Table HeaderConfig 16).set 0 ⟨true, 5, 1500, 200, 20, 40⟩
    nodes := Table.build fun n : Fin 32 =>
      if n.val = 0 then .sense else if n.val ≤ 4 then .valve8 else if n.val = 5 then .drive
      else if n.val = 6 then .lamp4 else .none }

theorem test_mode_finds_shared_slot :
    (after (.mode .c 1 2) { State.reset with config := commissioned 0 (Table.fill 0) }).ports.c.error
      = some ⟨.configInvalid, 0x63, 2, 9, 3⟩ := by decide +kernel

theorem test_mode_finds_flat_curve :
    (after (.mode .c 1 2) { State.reset with config := commissioned 1 (Table.fill 0) }).ports.c.error
      = some ⟨.configInvalid, 0x63, 2, 0, 4⟩ := by decide +kernel

theorem test_mode_dark :
    let s := { State.reset with config := commissioned 1 ⟨[0, 180, 300, 400, 490, 570, 645, 715, 780], rfl⟩ }
    (after (.mode .c 1 2) s).unit = ⟨.dark, none, none, .blank⟩
      ∧ (after (.mode .c 1 2) s).ports.a.notices = [⟨.modeChanged, 255, 1, 0, .none⟩] := by decide +kernel

theorem test_config_write_node : (after (.configWrite .c 1 5 9 [2]) State.reset).config.nodes.get 9 = .drive
    ∧ (after (.configWrite .c 1 5 9 [2]) State.reset).node 9 = ⟨.offline, 0, 0, 0, none, none⟩ := by decide +kernel

theorem test_config_write_last_safety_right :
    (after (.configWrite .c 1 1 2 [3, 0x07, 0x06, 0x00, 0x02, 0x00]) State.reset).ports.c.error
      = some ⟨.configInvalid, 0x60, 4, 0, 0⟩ := by decide +kernel

theorem test_config_read_node : (after (.configRead .a 1 5 9) frame0).ports.a.state
    = .answering 0x61 1 ⟨.ok, .configEntry (.node .drive)⟩ := by decide +kernel

theorem test_config_save : (after (.configSave .c 1) State.reset).unit.saving = some .c
    ∧ (after (.configSave .c 1) State.reset).ports.c.state = .working 0x62 1 := by decide +kernel

theorem test_save_end : let s := { State.reset with
      unit := { State.reset.unit with saving := some .c }
      ports := { State.reset.ports with c := { LinkPort.reset false with state := .working 0x62 1 } } }
    (after (.saveEnd true) s).ports.c.state = .answering 0x62 1 ⟨.ok, .empty⟩
      ∧ (after (.saveEnd false) s).image = .spoiled := by decide +kernel

/-- The bytes of the tables: 3 of 6, 128 of 47, 16 of 8, 48 of 4, 32 of 1 and 1 of 17 (10 R172). -/
theorem test_image_bytes : Tables.factory.bytes.length = 3 * 6 + 128 * 47 + 16 * 8 + 48 * 4 + 32 * 1 + 17 := by
  decide +kernel

theorem test_idle_timer_expiry :
    (after .idleTimerExpiry { live with now := 50, unit := ⟨.live, some 50, none, .loaded⟩ }).unit.mode = .dark
      ∧ (after .idleTimerExpiry { live with now := 50, unit := ⟨.live, some 50, none, .loaded⟩ }).ports.a.notices
        = [⟨.modeChanged, 255, 3, 0, .none⟩] := by decide +kernel

theorem test_show_reset : (after (.showReset .c 1) show310).unit.mode = .dark
    ∧ (after (.showReset .c 1) show310).entry 0 = ChannelEntry.reset
    ∧ (after (.showReset .c 1) show310).clock = ClockUnit.reset := by decide +kernel

theorem test_show_reset_line_in_a_stop : ((after .showResetLine stopped).entry 0).hold = .safed
    ∧ (after .showResetLine stopped).safety.causes = [.manual, .level, .estop] := by decide +kernel

/-- The end of 09 9.11: a written image of validated tables is loaded and the mode is DARK. -/
theorem test_power_on_loaded :
    let t := commissioned 1 ⟨[0, 180, 300, 400, 490, 570, 645, 715, 780], rfl⟩
    startUp (Image.holding t) = (t, .dark, .loaded) := by
  simp only [startUp]
  rw [Image.good_holding _ (by decide +kernel) (by decide +kernel)]
  have v : (commissioned 1 ⟨[0, 180, 300, 400, 490, 570, 645, 715, 780], rfl⟩).validate = none := by decide +kernel
  simp only [v]

set_option maxRecDepth 20000 in
theorem test_power_on_estop : (after (.powerOnReset true ⟨false, false, false⟩) live).ports.a.notices
    = [⟨.safetyState, 255, 1, 0, .none⟩] := by decide +kernel

/-! ## The link ports (10) -/

/-- A port answering an IDENTIFY. -/
def answering : State :=
  { live with ports := { live.ports with a := { LinkPort.reset false with
      state := .answering 0x72 9 ⟨.ok, .identity .a⟩ } } }

theorem test_identity_bytes : (Body.identity .b).bytes
    = [0x06, 0x20, 0x01, 0xB1, 0x10, 0x08, 0x00, 0x04, 0x30, 0x20, 0x20, 0x01] := by decide +kernel

theorem test_identify : (after (.identify .b 9) live).ports.b.state = .answering 0x72 9 ⟨.ok, .identity .b⟩ := by
  decide +kernel

theorem test_response_frame : responseFrame 0x02 7 ⟨.notHolder, .empty⟩
    = [0x02, 7, 11, 0, 0] ++ crcBytes [0x02, 7, 11, 0, 0] := by decide +kernel

/-- IDENTIFY's response is 19 bytes: five, a body of twelve, and the CRC-16. -/
theorem test_response_collect : (after (.responseCollect .a 19) answering).ports.a.state = .ready
    ∧ (after (.responseCollect .a 18) answering).ports.a.state = answering.ports.a.state := by decide +kernel

theorem test_request_while_answering_is_lost : (after (.watch .a 1 5) answering).entry 5 = ChannelEntry.reset := by
  decide +kernel

theorem test_bad_frame : (after (.badFrame .a [0x01, 7, 0, 3, 12, 3, 0, 0, 0]) live).ports.a.state
    = .answering 0x01 7 ⟨.badFrame, .empty⟩ := by decide +kernel

theorem test_link_reset : (after (.linkReset .a) answering).ports.a = LinkPort.reset true := by decide +kernel

theorem test_link_reset_released : (after (.linkResetReleased .a) { live with
      ports := { live.ports with a := LinkPort.reset true } }).ports.a = LinkPort.reset false := by decide +kernel

theorem test_error_detail_kept : let s := { live with ports := { live.ports with
      a := { LinkPort.reset false with error := some ⟨.noRight, 1, 2, 0, 0⟩ } } }
    (after (.errorDetail .a 1) s).ports.a.error = some ⟨.noRight, 1, 2, 0, 0⟩ := by decide +kernel

/-- 10 R177: nine notices waiting, eight are read. -/
theorem test_notice_read : let n : Notice := ⟨.frozen, 255, 0, 0, .none⟩
    let s := { live with ports := { live.ports with a := ⟨.ready, none, List.replicate 9 n, true, false⟩ } }
    (after (.noticeRead .a 1) s).ports.a.notices = [n] ∧ (after (.noticeRead .a 1) s).ports.a.lost = true := by
  decide +kernel

theorem test_notice_bytes : Notice.bytes ⟨.recall, 12, 1, 0x01020304, .none⟩
    = [1, 12, 1, 0, 1, 2, 3, 4, 0, 0, 0, 0] := by decide +kernel

theorem test_show_status_clears_overrun : let s := { live with sweep := { Sweep.reset with overrun := true } }
    (after (.showStatus .a 1) s).sweep.overrun = false := by decide +kernel

/-! ## The queue (logs 1 and 2) -/

theorem test_step_takes_the_front : (match step { live with pending := [.estopReleased, .freeze .c 1] } with
    | .next t => t.pending
    | .fault _ => []
    | .refused _ => []) = [.freeze .c 1] := by decide +kernel

theorem test_step_lets_time_pass : (match step { live with range := ⟨some ⟨.b, .watch, 0, 8, 0, 0, none⟩, none⟩ } with
    | .next t => (t.now, t.pending)
    | .fault _ => (0, [])
    | .refused _ => (0, [])) = (1, [.rwatchStep]) := by decide +kernel

/-! ## Witnesses: states and operands that meet the hypotheses of each statement, clause by clause -/

/-- A state with a channel in this hold. -/
def held (s : State) (ch : Fin 177) (h : Hold) : State := s.setEntry ch ⟨h, noPorts, none⟩

/-- A state with this wait queue. -/
def waited (s : State) (l : List WaitEntry) : State := { s with directory := ⟨s.directory.entries, l, l.length + 1⟩ }

/-- A state with a track in this phase, owned by A at record 0. -/
def tracked (s : State) (t : Fin 4) (phase : Phase) (reasons : PauseReasons) (stack : List StackFrame) : State :=
  s.setTrack t (some ⟨.a, 0, stack, reasons, phase⟩)

/-- No pause reason. -/
def noReasons : PauseReasons := ⟨false, false, false⟩

/-- LIVE with the frame timer's expiry far away. -/
def quiet : State := { live with now := 100, shaper := ⟨20000, true, true, true⟩ }

/-- DARK with the clock and the tracks as in `live`. -/
def dark : State := { live with unit := ⟨.dark, none, none, .loaded⟩ }

/-- The clock RUNNING from its own ticks. -/
def ticking : State := { live with clock := { ClockUnit.reset with run := .running, value := 100 } }

/-- The factory tables with a SENSE node: the least that the validation passes (09 R161 check 9). -/
def sensed : Tables := { Tables.factory with nodes := Tables.factory.nodes.set 0 .sense }

theorem witness_StepRunsFrontCommand : ({ live with pending := [.busy, .clockTick] }).pending = .busy :: [.clockTick] := by
  decide +kernel

theorem witness_TimeWaitsForDeadlines :
    quiet.pending = [] ∧ quiet.owed = none ∧ (held quiet 5 (.recalling .a 1 101)).owed = none
      ∧ (tracked { quiet with clock := ticking.clock } 1 (.running 101 101) noReasons []).owed = none
      ∧ (tracked { quiet with clock := ticking.clock } 1 (.running 100 100) noReasons []).owed = some (.dueEvent 1)
      ∧ (held quiet 5 (.recalling .a 1 100)).owed = some (.recallExpiry 5)
      ∧ { quiet with safety := { Supervisor.reset with holdDeadline := some 100 } }.owed = some .holdTimerExpiry
      ∧ { quiet with unit := ⟨.live, some 100, none, .loaded⟩ }.owed = some .idleTimerExpiry
      ∧ { quiet with now := 20000 }.owed = some .frameEvent
      ∧ { quiet with
          safety := { Supervisor.reset with holdDeadline := some 101 }
          unit := ⟨.live, some 101, none, .loaded⟩ }.owed = none := by decide +kernel

theorem witness_PowerOnReset :
    (live.unit.saving = none ∧ { live with unit := ⟨.setup, none, some .c, .blank⟩ }.unit.saving ≠ none
      ∧ live.image = .blank ∧ { live with image := .spoiled }.image = .spoiled
      ∧ Tables.factory.inRange = true ∧ Tables.factory.keepsSafety = true ∧ Tables.factory.validate ≠ none
      ∧ sensed.inRange = true
      ∧ sensed.keepsSafety = true
      ∧ sensed.validate = none
      ∧ ({ Tables.factory with global := { Global.factory with framePeriod := 0 } }).inRange = false)
      ∧ { live with image := Image.holding sensed }.image
        = .written Config.formatCode sensed (crc16 (Config.formatCode :: sensed.bytes)) :=
  ⟨by decide +kernel, rfl⟩

theorem witness_DirectoryChecks :
    live.portReady .a ∧ State.reset.portReady .a ∧ 177 ≤ (177 : U8).val ∧ (176 : U8).val < 177 ∧ 3 < (4 : U8).val
      ∧ (3 : U8).val ≤ 3 ∧ 1 < (2 : U8).val ∧ (1 : U8).val ≤ 1 ∧ State.reset.unit.mode = .setup ∧ live.unit.mode ≠ .setup
      ∧ (live.rights .a).ceiling < (3 : U8).val := by
  simp only [State.portReady]; decide +kernel

theorem witness_ClaimOfFreeOrOwnChannel :
    live.portReady .a ∧ live.unit.mode ≠ .setup ∧ (2 : U8).val ≤ (live.rights .a).ceiling ∧ (live.entry 5).hold = .free
      ∧ ((held live 5 (.held .a 2)).entry 5).hold = .held .a 2 ∧ ¬ (held live 5 (.held .a 2)).outranked 5 2
      ∧ (waited (held live 5 (.held .a 2)) [⟨.c, 5, 3, 1⟩]).outranked 5 2
      ∧ ((held live 5 (.recalling .a 2 90)).entry 5).hold = .recalling .a 2 90
      ∧ ¬ (waited (held live 5 (.recalling .a 1 90)) [⟨.c, 5, 2, 1⟩]).outranked 5 2
      ∧ (waited (held live 5 (.recalling .a 1 90)) [⟨.c, 5, 3, 1⟩]).outranked 5 2
      ∧ (waited (held live 5 (.held .a 2)) [⟨.c, 5, 3, 1⟩]).portReady .a
      ∧ (waited (held live 5 (.recalling .a 1 90)) [⟨.c, 5, 3, 1⟩]).portReady .a := by
  simp only [State.portReady, State.outranked]; decide +kernel

/-- Channel 5 held by B at 1, channel 9 full of waiters. -/
def crowded : State := waited (held (held live 5 (.held .b 1)) 9 (.held .b 0)) (List.replicate 16 ⟨.a, 9, 0, 1⟩)

theorem witness_ClaimOfContestedChannel :
    live.portReady .c ∧ live.unit.mode ≠ .setup ∧ (3 : U8).val ≤ (live.rights .c).ceiling
      ∧ ((held live 5 (.held .b 3)).entry 5).hold = .held .b 3 ∧ (3 : U8).val ≤ 3 ∧ (0 : U8).val = 0
      ∧ (crowded.entry 5).hold = .held .b 1 ∧ ¬ crowded.waitsFor .c 5 ∧ 16 ≤ crowded.directory.waiters.length
      ∧ (1 : U8).val ≤ 1 ∧ (waited (held live 5 (.held .b 1)) [⟨.c, 5, 0, 1⟩]).waitsFor .c 5
      ∧ ¬ (waited (held live 5 (.held .b 1)) (List.replicate 15 ⟨.a, 9, 0, 1⟩)).waitsFor .c 5
      ∧ (waited (held live 5 (.held .b 1)) (List.replicate 15 ⟨.a, 9, 0, 1⟩)).directory.waiters.length < 16
      ∧ 1 < (2 : U8).val
      ∧ ((waited (held live 5 (.recalling .b 1 90)) [⟨.a, 5, 2, 1⟩]).entry 5).hold = .recalling .b 1 90
      ∧ (waited (held live 5 (.recalling .b 1 90)) [⟨.a, 5, 2, 1⟩]).outranked 5 1
      ∧ ¬ (waited (held live 5 (.recalling .b 1 90)) [⟨.a, 5, 2, 1⟩]).waitsFor .c 5
      ∧ (waited (held live 5 (.recalling .b 1 90)) [⟨.c, 5, 2, 1⟩]).waitsFor .c 5
      ∧ ((waited (held live 5 (.recalling .b 1 90)) [⟨.a, 5, 2, 1⟩, ⟨.c, 5, 2, 2⟩]).reprioritise .c 5 1).outranked 5 1
      ∧ ¬ ((waited (held live 5 (.recalling .b 1 90)) [⟨.c, 5, 2, 1⟩]).reprioritise .c 5 1).outranked 5 1
      ∧ ((held live 5 .safed).entry 5).hold = .safed := by
  simp only [State.portReady, State.outranked, State.waitsFor]; decide +kernel

theorem witness_WaitQueueOrder : live.directory.arrivals ≠ 65535
    ∧ { live with directory := ⟨live.directory.entries, [⟨.a, 5, 0, 65534⟩], 65535⟩ }.directory.arrivals = 65535
    ∧ crowded.waitsFor .a 9 ∧ (waited live [⟨.c, 5, 0, 1⟩]).waitsFor .c 5 := by
  simp only [State.waitsFor]; decide +kernel

theorem witness_ReleaseAndRecallExpiry :
    (recall1.entry 12).hold = .recalling .a 1 10500 ∧ 10500 ≤ { recall1 with now := 10500 }.now
      ∧ { recall1 with now := 10500 }.wins ⟨.b, 12, 2, 3⟩ ∧ recall1.now < 10500
      ∧ (crowded.entry 5).hold = .held .b 1 ∧ (live.entry 5).hold = .free ∧ (stopped.entry 5).hold = .safed
      ∧ recall1.portReady .a ∧ recall1.unit.mode ≠ .setup
      ∧ ((held live 5 (.held .a 1)).entry 5).hold.holder = some .a ∧ (held live 5 (.held .a 1)).waitersOf 5 = []
      ∧ (recall1.entry 12).hold.holder = some .a ∧ recall1.wins ⟨.b, 12, 2, 3⟩
      ∧ (recall1.entry 12).hold.holder ≠ some .b ∧ recall1.waitsFor .b 12 ∧ ¬ (recall1.dropWaiter .b 12).outranked 12 1
      ∧ (waited recall1 [⟨.b, 12, 2, 3⟩, ⟨.c, 12, 3, 4⟩]).waitsFor .b 12
      ∧ ((waited recall1 [⟨.b, 12, 2, 3⟩, ⟨.c, 12, 3, 4⟩]).dropWaiter .b 12).outranked 12 1
      ∧ ¬ recall1.waitsFor .c 12 ∧ (recall1.entry 12).hold.holder ≠ some .c := by
  simp only [State.portReady, State.wins, State.outranked, State.waitsFor]; decide +kernel

theorem witness_SetStagesTheHoldersSetpoint :
    live.portReady .a ∧ live.unit.mode ≠ .setup
      ∧ ((held live 127 (.held .a 1)).entry (jetChannel 127)).hold.holder = some .a
      ∧ ((held live 128 (.recalling .a 1 9)).entry (fixtureChannel 0)).hold.holder = some .a
      ∧ ((held live 176 (.held .a 1)).entry audChannel).hold.holder = some .a
      ∧ (stopped.entry 0).hold = .safed ∧ (live.entry 0).hold ≠ .safed ∧ (live.entry 0).hold.holder ≠ some .a := by
  simp only [State.portReady]; decide +kernel

theorem witness_WatchUnwatchAndInquire :
    live.portReady .a ∧ State.reset.portReady .c
      ∧ recall1.portReady .c ∧ (recall1.entry 12).hold = .recalling .a 1 10500 ∧ (recall1.entry 0).hold = .free
      ∧ (recall1.entry 131).hold = .held .b 2 ∧ (stopped.entry 0).hold = .safed ∧ stopped.portReady .c := by
  simp only [State.portReady]; decide +kernel

theorem witness_RangeRequests :
    live.portReady .b ∧ State.reset.portReady .b ∧ ranged.portReady .b ∧ (0 : U8).val = 0 ∧ 5 < (6 : U8).val
      ∧ rangeOpOf (1 : U8).val (2 : U8).val ⟨0, 0, 0, 0, 0, 0⟩ = some (.claim 2)
      ∧ rangeOpOf (3 : U8).val (0 : U8).val ⟨0, 1, 0, 0, 0, 0⟩ = some (.set ⟨0, 1, 0, 0, 0, 0⟩)
      ∧ rangeOpOf (5 : U8).val (0 : U8).val ⟨0, 0, 0, 0, 0, 0⟩ = some .unwatch
      ∧ 175 < (176 : U8).val ∧ (175 : U8).val ≤ 175
      ∧ (if (127 : U8).val < 128 then 128 else 176) < (127 : U8).val + (2 : U8).val
      ∧ (127 : U8).val + (1 : U8).val ≤ (if (127 : U8).val < 128 then 128 else 176)
      ∧ (if (175 : U8).val < 128 then 128 else 176) < (175 : U8).val + (2 : U8).val
      ∧ 3 < (4 : U8).val ∧ State.reset.unit.mode = .setup ∧ live.unit.mode ≠ .setup
      ∧ (live.rights .b).ceiling < (3 : U8).val ∧ (2 : U8).val ≤ (live.rights .b).ceiling
      ∧ ranged.range.active ≠ none ∧ live.range.active = none ∧ ranged.portReady .a
      ∧ (ranged.range.active.map RangeRecord.issuer) = some .b := by
  simp only [State.portReady]; decide +kernel

/-- B's RCLAIM at priority 2, its next channel J6 in this hold. -/
def rclaiming (h : Hold) (l : List WaitEntry) : State :=
  waited (held { live with range := ⟨some ⟨.b, .claim 2, 0, 8, 5, 1, some 4⟩, none⟩ } 6 h) l

/-- B's range operation with its next channel J6 held by B, or F0 with J0 to J127 behind it. -/
def ranging (op : RangeOp) (first : Nat) : State :=
  held (held (held { live with range := ⟨some ⟨.b, op, first, 2, 0, 0, none⟩, none⟩ } 6 (.held .b 1)) 128 (.held .b 1))
    7 (.held .a 1)

theorem witness_RangeSteps :
    live.range.active = none
      ∧ (⟨.b, .watch, 0, 8, 0, 0, none⟩ : RangeRecord).op.isClaim = false
      ∧ (rclaiming .free []).range.active = some ⟨.b, .claim 2, 0, 8, 5, 1, some 4⟩ ∧ 0 + 5 + 1 = (6 : Fin 177).val
      ∧ ((rclaiming .free []).entry 6).hold = .free ∧ ((rclaiming (.held .b 2) []).entry 6).hold = .held .b 2
      ∧ ((rclaiming (.held .a 2) []).entry 6).hold = .held .a 2 ∧ ((rclaiming (.held .b 3) []).entry 6).hold = .held .b 3
      ∧ ((rclaiming (.recalling .b 1 9) [⟨.c, 6, 2, 1⟩]).entry 6).hold = .recalling .b 1 9
      ∧ ¬ (rclaiming (.recalling .b 1 9) [⟨.c, 6, 2, 1⟩]).outranked 6 2
      ∧ (rclaiming (.recalling .b 1 9) [⟨.c, 6, 3, 1⟩]).outranked 6 2
      ∧ ((rclaiming (.recalling .a 1 9) [⟨.c, 6, 2, 1⟩]).entry 6).hold = .recalling .a 1 9
      ∧ ((rclaiming .safed []).entry 6).hold = .safed
      ∧ (ranging .release 6).range.active = some ⟨.b, .release, 6, 2, 0, 0, none⟩
      ∧ RangeOp.watch ≠ .release ∧ RangeOp.isSet .release = false
      ∧ 6 + 0 + 0 = (jetChannel 6).val
      ∧ ((ranging (.set ⟨0, 1, 0, 0, 0, 0⟩) 6).entry (jetChannel 6)).hold.holder = some .b
      ∧ 128 + 0 + 0 = (fixtureChannel 0).val
      ∧ ((ranging (.set ⟨0, 1, 0, 0, 0, 0⟩) 128).entry (fixtureChannel 0)).hold.holder = some .b
      ∧ ((ranging (.set ⟨0, 1, 0, 0, 0, 0⟩) 7).entry 7).hold.holder ≠ some .b
      ∧ ((ranging .release 7).entry 7).hold.holder ≠ some .b
      ∧ (ranging .release 6).waitersOf 6 = [] ∧ (waited (ranging .release 6) [⟨.c, 6, 2, 1⟩]).wins ⟨.c, 6, 2, 1⟩ := by
  simp only [State.outranked, State.wins]; decide +kernel

theorem witness_CueLoadAndRead :
    live.portReady .a ∧ Memory.wf live.cues = true ∧ 0 ≤ 16 ∧ (2032 : U16).val + 16 ≤ 2048 ∧ 16 < (17 : U8).val ∧ 2048 < (2033 : U16).val + 16
      ∧ 2047 < (2048 : U16).val ∧ (1023 : U16).val ≤ 2047
      ∧ ((live.rights .a).base ≤ 1023 ∧ 1023 < (live.rights .a).base + (live.rights .a).length)
      ∧ ¬ ((live.rights .a).base ≤ 1024 ∧ 1024 < (live.rights .a).base + (live.rights .a).length)
      ∧ CueRecord.fault (rec16 [0x1F]) = none ∧ [rec16 [0x1F], rec16 [0x05]][1]?.bind CueRecord.fault = some 0
      ∧ [rec16 [0x1F]].length = (if (1 : U8).val = 0 then 16 else (1 : U8).val) := by
  simp only [State.portReady]; decide +kernel

theorem witness_TrackChecks :
    live.portReady .a ∧ 4 ≤ (4 : U8).val ∧ 2047 < (2048 : U16).val ∧ (2047 : U16).val ≤ 2047
      ∧ (tracked live 1 .armed noReasons []).portReady .b
      ∧ (tracked live 1 .armed noReasons []).track 1 = some ⟨.a, 0, [], noReasons, .armed⟩ ∧ Port.a ≠ .b
      ∧ ((tracked live 1 .armed noReasons []).rights .b).safety = false
      ∧ (∀ c ∈ (live.track 1).toList, c.owner = .a)
      ∧ (∀ c ∈ ((tracked live 1 .armed noReasons []).track 1).toList, c.owner = .a)
      ∧ State.reset.unit.mode = .setup ∧ State.reset.portReady .a ∧ dark.unit.mode ≠ .live ∧ dark.portReady .a
      ∧ trackName ((tracked live 1 (.running 9 9) noReasons []).track 1) ∈ [.running, .waiting, .paused]
      ∧ trackName ((tracked live 1 (.waiting 7) noReasons []).track 1) ∈ [.running, .waiting, .paused]
      ∧ trackName ((tracked live 1 (.paused 3) noReasons []).track 1) ∈ [.running, .waiting, .paused]
      ∧ live.unit.mode = .live ∧ trackName (live.track 1) ≠ .armed ∧ trackName (live.track 1) = .idle
      ∧ trackName ((tracked live 1 .armed noReasons []).track 1) ∈ [.idle, .armed, .faulted]
      ∧ trackName ((tracked live 1 (.faulted .nesting) noReasons []).track 1) ∈ [.idle, .armed, .faulted]
      ∧ ¬ ((live.rights .a).base ≤ 1024 ∧ 1024 < (live.rights .a).base + (live.rights .a).length)
      ∧ live.clock.run = .stopped ∧ trackName ((tracked live 1 .armed noReasons []).track 1) = .armed := by
  simp only [State.portReady]; decide +kernel

theorem witness_TrackRequests :
    live.portReady .a ∧ live.unit.mode ≠ .setup ∧ (1023 : U16).val ≤ 2047 ∧ (live.rights .a).base ≤ (0 : U16).val
      ∧ (1023 : U16).val < (live.rights .a).base + (live.rights .a).length ∧ live.track 1 = none
      ∧ (tracked live 1 (.faulted .nesting) noReasons []).track 1 = some ⟨.a, 0, [], noReasons, .faulted .nesting⟩
      ∧ (tracked ticking 1 .armed noReasons []).track 1 = some ⟨.a, 0, [], noReasons, .armed⟩
      ∧ (tracked ticking 1 .armed noReasons []).portReady .a ∧ ticking.unit.mode = .live ∧ ticking.safety.state = .normal
      ∧ ticking.clock.run ≠ .stopped
      ∧ CueRecord.delta (Memory.record (tracked ticking 1 .armed noReasons []).cues 0) = 0
      ∧ 0 < CueRecord.delta (Memory.record show310.cues 103) ∧ ticking.clock.run = .running
      ∧ ({ ticking.clock with run := .stalled }).run ≠ .running ∧ 0 < 5
      ∧ (tracked ticking 1 (.running 120 120) noReasons []).portReady .a
      ∧ (tracked ticking 1 (.running 120 120) noReasons []).track 1 = some ⟨.a, 0, [], noReasons, .running 120 120⟩
      ∧ (tracked ticking 1 (.waiting 7) noReasons []).track 1 = some ⟨.a, 0, [], noReasons, .waiting 7⟩
      ∧ (tracked ticking 1 (.waiting 7) ⟨true, true, false⟩ []).track 1
        = some ⟨.a, 0, [], ⟨true, true, false⟩, .waiting 7⟩
      ∧ (tracked ticking 1 (.paused 0) ⟨true, false, false⟩ []).track 1
        = some ⟨.a, 0, [], ⟨true, false, false⟩, .paused 0⟩
      ∧ (tracked ticking 1 (.paused 5) ⟨true, true, false⟩ []).track 1
        = some ⟨.a, 0, [], ⟨true, true, false⟩, .paused 5⟩
      ∧ ticking.unit.mode = .live ∧ ticking.safety.state = .normal ∧ ticking.clock.run ≠ .stopped
      ∧ (tracked ticking 1 (.paused 5) ⟨true, true, false⟩ []).portReady .c ∧ (ticking.rights .c).safety = true := by
  simp only [State.portReady]; decide +kernel

/-- A track of A due now, its record 0 of these bytes and its record 1 a SET_GAIN of delta 1. -/
def dueWith (l : List Byte) (stack : List StackFrame) : State :=
  tracked { ticking with cues := Memory.writeBytes [] 0 ((rec16 l).rows ++ (rec16 [0x04, 0, 0, 1]).rows) } 1
    (.running 100 100) noReasons stack

theorem witness_DueEventTakesTheRecord :
    (dueWith [] []).track 1 = some ⟨.a, 0, [], noReasons, .running 100 100⟩ ∧ (dueWith [] []).clock.run = .running
      ∧ 100 ≤ (dueWith [] []).clock.value
      ∧ CueRecord.cue (Memory.record (dueWith [0x1F] []).cues 0) = .end_
      ∧ CueRecord.cue (Memory.record (dueWith [] []).cues 0) = .empty
      ∧ CueRecord.cue (Memory.record (dueWith [0x10, 0, 0, 0, 9] []).cues 0) = .waitMarker 9
      ∧ (live.rights .a).inWindow (0 + 1) = true ∧ (live.rights .a).inWindow (1023 + 1) = false
      ∧ CueRecord.cue (Memory.record (dueWith [0x01, 0, 0, 0, 127, 0, 5, 0xDC] []).cues 0) = .setJet 127 1500
      ∧ (dueWith [] []).pausesAt ⟨.a, 0, [], noReasons, .running 100 100⟩ 1
      ∧ ((held (dueWith [] []) 127 (.held .a 1)).entry (jetChannel 127)).hold.holder = some .a
      ∧ ((dueWith [] []).entry (jetChannel 127)).hold.holder ≠ some .a
      ∧ CueRecord.cue (Memory.record (dueWith [0x11, 1, 0, 0, 3, 7] []).cues 0) = .loop 3 (some 7)
      ∧ (List.replicate 5 (StackFrame.call 1)).length < 6 ∧ 6 ≤ (List.replicate 6 (StackFrame.call 1)).length
      ∧ CueRecord.cue (Memory.record (dueWith [0x12] []).cues 0) = .loopEnd
      ∧ ((dueWith [0x12] [.loop 1 1 none false]).track 1).map (·.stack) = some [.loop 1 1 none false]
      ∧ ((dueWith [0x12] [.loop 1 2 (some 7) true]).track 1).map (·.stack) = some [.loop 1 2 (some 7) true]
      ∧ ((dueWith [0x12] [.loop 1 2 (some 7) false]).track 1).map (·.stack) = some [.loop 1 2 (some 7) false]
      ∧ ((dueWith [0x12] [.call 1]).track 1).map (·.stack) = some [.call 1]
      ∧ CueRecord.cue (Memory.record (dueWith [0x13, 0, 0, 0, 0, 0, 0, 1] []).cues 0) = .call 1
      ∧ CueRecord.cue (Memory.record (dueWith [0x13, 0, 0, 0, 0, 0, 4, 0] []).cues 0) = .call 1024
      ∧ CueRecord.cue (Memory.record (dueWith [0x14] []).cues 0) = .return_ := by
  simp only [State.pausesAt]; decide +kernel

/-- A track of A due now, its record 0 a LOOP and its record 1 an END of delta 0. -/
def dueOn : State :=
  tracked { ticking with cues := Memory.writeBytes [] 0 ((rec16 [0x11, 0, 0, 0, 2]).rows ++ (rec16 [0x1F]).rows) } 1
    (.running 100 100) noReasons []

/-- The first clause of DueEventTakesTheRecord: the record after the LOOP has delta 0, and the END there is the last. -/
theorem witness_DueEventTakesTheRecord_same_event :
    (dueOn.track 1 = some ⟨.a, 0, [], noReasons, .running 100 100⟩ ∧ dueOn.clock.run = .running ∧ 100 ≤ dueOn.clock.value)
      ∧ (⟨.a, 1, [.loop 1 2 none false], noReasons, .running 100 100⟩ : TrackBody)
        ∈ ((dueOn.takeRecord 1 ⟨.a, 0, [], noReasons, .running 100 100⟩).runningBody 1).toList
      ∧ CueRecord.delta (Memory.record dueOn.cues 1) = 0
      ∧ (dueOn.takeRecord 1 ⟨.a, 0, [], noReasons, .running 100 100⟩).eventEnds 31 1 := by
  refine ⟨by decide +kernel, by decide +kernel, by decide +kernel, ?_⟩
  have last : ∀ b ∈ ((dueOn.takeRecord 1 ⟨.a, 0, [], noReasons, .running 100 100⟩).runningBody 1).toList,
      (((dueOn.takeRecord 1 ⟨.a, 0, [], noReasons, .running 100 100⟩).takeRecord 1 b).runningBody 1).toList = [] := by
    decide +kernel
  rw [State.eventEnds]
  intro b hb c hc
  rw [last b hb] at hc
  cases hc

/-- R57: the LOOP at record 0 and the END of delta 0 after it are taken in one due event, which leaves the track IDLE. -/
theorem test_delta_zero_joins_the_due_event :
    (after (.dueEvent 1) dueOn).track 1 = none := by decide +kernel

/-- A track of A due now at record 1023, the last of its window, the record of these bytes. -/
def dueEdge (l : List Byte) (stack : List StackFrame) : State :=
  { ticking with
    cues := Memory.writeBytes [] (16 * 1023) (rec16 l).rows
    tracks := ticking.tracks.set 1 (some ⟨.a, 1023, stack, noReasons, .running 100 100⟩) }

theorem witness_DueEventStagesAndMeetsTheWindow :
    (dueWith [] []).track 1 = some ⟨.a, 0, [], noReasons, .running 100 100⟩ ∧ (dueWith [] []).clock.run = .running
      ∧ 100 ≤ (dueWith [] []).clock.value ∧ (dueWith [] []).pausesAt ⟨.a, 0, [], noReasons, .running 100 100⟩ 1
      ∧ (dueEdge [] []).track 1 = some ⟨.a, 1023, [], noReasons, .running 100 100⟩
      ∧ (dueEdge [] []).clock.run = .running ∧ 100 ≤ (dueEdge [] []).clock.value
      ∧ ((dueEdge [] []).rights .a).inWindow (1023 + 1) = false ∧ ((dueEdge [] []).rights .a).inWindow 1024 = false
      ∧ CueRecord.cue (Memory.record (dueWith [0x02, 0, 0, 0, 112, 16, 5, 0xDC] []).cues 0) = .setJets 112 16 1500
      ∧ 112 + 16 ≤ 128
      ∧ CueRecord.cue (Memory.record (dueEdge [0x02, 0, 0, 0, 112, 16, 5, 0xDC] []).cues 1023) = .setJets 112 16 1500
      ∧ CueRecord.cue (Memory.record (dueWith [0x03, 0, 0, 0, 175, 1, 2, 3, 4, 0, 3, 0xE9] []).cues 0)
        = .setFix (fixtureChannel 47) ⟨1, 2, 3, 4⟩ 1001
      ∧ CueRecord.cue (Memory.record (dueEdge [0x03, 0, 0, 0, 128] []).cues 1023) = .setFix (fixtureChannel 0) ⟨0, 0, 0, 0⟩ 0
      ∧ ((held (dueWith [] []) 175 (.held .a 1)).entry (fixtureChannel 47)).hold.holder = some .a
      ∧ ((dueWith [] []).entry (fixtureChannel 47)).hold.holder ≠ some .a
      ∧ CueRecord.cue (Memory.record (dueWith [0x04, 0, 0, 0, 0, 0, 1, 1] []).cues 0) = .setGain 257
      ∧ CueRecord.cue (Memory.record (dueEdge [0x04, 0, 0, 0, 0, 0, 1, 1] []).cues 1023) = .setGain 257
      ∧ ((held (dueWith [] []) 176 (.held .a 1)).entry audChannel).hold.holder = some .a
      ∧ ((dueWith [] []).entry audChannel).hold.holder ≠ some .a
      ∧ CueRecord.cue (Memory.record (dueEdge [0x01, 0, 0, 0, 127, 0, 5, 0xDC] []).cues 1023) = .setJet 127 1500
      ∧ ((held (dueEdge [] []) 127 (.recalling .a 1 9)).entry (jetChannel 127)).hold.holder = some .a
      ∧ ((dueEdge [] []).entry (jetChannel 127)).hold.holder ≠ some .a
      ∧ CueRecord.cue (Memory.record (dueEdge [0x11, 1, 0, 0, 3, 7] []).cues 1023) = .loop 3 (some 7)
      ∧ (List.replicate 5 (StackFrame.call 1)).length < 6
      ∧ CueRecord.cue (Memory.record (dueEdge [0x12] []).cues 1023) = .loopEnd
      ∧ ((dueEdge [0x12] [.loop 1 1 none false]).track 1).map (·.stack) = some [.loop 1 1 none false]
      ∧ ((dueEdge [0x12] [.loop 1024 2 (some 7) false]).track 1).map (·.stack) = some [.loop 1024 2 (some 7) false]
      ∧ CueRecord.cue (Memory.record (dueEdge [0x14] []).cues 1023) = .return_
      ∧ ((dueEdge [0x14] [.call 1024]).track 1).map (·.stack) = some [.call 1024] := by
  simp only [State.pausesAt]; decide +kernel

theorem witness_DueEventsInTurn :
    (dueWith [] []).dueNow 1 = some 100 ∧ (dueWith [] []).dueNow 0 = none ∧ live.dueNow 1 = none := by decide +kernel

/-- A chain of 33 SET_GAIN records of delta 0. -/
def chain : State :=
  tracked { ticking with
    cues := Memory.writeBytes [] 0 ((List.replicate 33 (rec16 [0x04, 0, 0, 0, 0, 0, 0, 9]).rows).flatten) } 1
    (.running 100 100) noReasons []

theorem witness_DueEventStopsAt32Records :
    chain.track 1 = some ⟨.a, 0, [], noReasons, .running 100 100⟩ ∧ chain.clock.run = .running
      ∧ 100 ≤ chain.clock.value ∧ ∀ i : Fin 33, (chain.rights .a).inWindow (0 + i.val) = true
        ∧ CueRecord.cue (Memory.record chain.cues (0 + i.val)) = .setGain 9
        ∧ CueRecord.delta (Memory.record chain.cues (0 + i.val)) = 0 := by decide +kernel

theorem witness_DueEventTouchesOwnHoldings :
    (tracked live 1 (.running 100 100) noReasons []).track 1 = some ⟨.a, 0, [], noReasons, .running 100 100⟩
      ∧ live.clock.run ≠ .running ∧ trackName ((tracked live 1 .armed noReasons []).track 1) ≠ .running
      ∧ ticking.clock.value < 101 ∧ ticking.clock.run = .running ∧ 100 ≤ ticking.clock.value ∧ (0 : Fin 4) ≠ 1
      ∧ ((dueWith [] []).entry 127).hold.holder ≠ some .a := by decide +kernel

/-- `music` with its clock STOPPED, and with the queue empty. -/
def paused : State := { music with clock := { music.clock with run := .stopped } }

theorem witness_ClockRunAndStop :
    paused.portReady .a ∧ (0 : U8).val = 0 ∧ 2 < (3 : U8).val ∧ paused.audHolder = some .a ∧ paused.audHolder ≠ some .b
      ∧ paused.portReady .b ∧ paused.unit.mode = .live ∧ paused.safety.state = .normal ∧ paused.anyTrackMoves = false
      ∧ (held dark 176 (.held .a 1)).audHolder = some .a ∧ (held dark 176 (.held .a 1)).unit.mode ≠ .live
      ∧ (held stopped 176 (.held .a 1)).safety.state ≠ .normal ∧ (held stopped 176 (.held .a 1)).unit.mode = .live
      ∧ (tracked paused 1 (.waiting 7) noReasons []).anyTrackMoves = true
      ∧ { paused with clock := { paused.clock with freeze := true } }.clock.freeze = true ∧ paused.clock.freeze = false
      ∧ (96256 : U32).val < 4294967295 ∧ queueFrom paused.clock.queue (96511 : U32).val ≠ []
      ∧ (4294967295 : U32).val = 4294967295 ∧ queueFrom paused.clock.queue (96512 : U32).val = []
      ∧ paused.config.global.policy = .coast ∧ (lastFrame .stall).config.global.policy = .stall := by
  simp only [State.portReady]; decide +kernel

/-- `music` coasting with this queue at this position. -/
def coastingAt (position : Nat) (queue : List Block) : State :=
  { music with clock := { music.clock with coasting := true, position := position, value := position / 48, queue := queue } }

/-- Nine bytes 0. -/
def nine : List Byte := [0, 0, 0, 0, 0, 0, 0, 0, 0]

theorem witness_AudioBlock :
    music.portReady .a ∧ [(0 : Byte)].length ≠ 9
      ∧ [((0 : Sample), (0 : Sample))].length ≠ (if (0 : U8).val = 0 then 256 else (0 : U8).val)
      ∧ nine.length = 9 ∧ [((0 : Sample), (0 : Sample))].length = (if (1 : U8).val = 0 then 256 else (1 : U8).val)
      ∧ ((0 : U8).val = 0 ∧ (1 : U8).val ≠ 0) ∧ ((1 : U8).val ≠ 0 ∧ [((0 : Sample), (0 : Sample))].length ≤ (1 : U8).val)
      ∧ (∃ b ∈ (1 : Byte) :: nine.tail, b ≠ 0) ∧ 4294967295 < (4294967295 : U32).val + 1
      ∧ (4294967294 : U32).val + 1 ≤ 4294967295 ∧ (∀ b ∈ nine, b = 0)
      ∧ State.reset.unit.mode = .setup ∧ State.reset.portReady .a ∧ music.unit.mode ≠ .setup
      ∧ music.audHolder = some .a ∧ music.audHolder ≠ some .b ∧ music.portReady .b
      ∧ 48 ≤ (List.replicate 48 (blockOf 96000 1 none 0)).length ∧ music.clock.queue.length < 48
      ∧ (96511 : U32).val + 1 ≤ music.clock.lateBound ∧ music.clock.lateBound < (96512 : U32).val + 1
      ∧ music.clock.underrun = false ∧ music.clock.coasting = false
      ∧ (after .audioFrame (lastFrame .stall)).clock.underrun = true
      ∧ (after .audioFrame (lastFrame .coast)).clock.underrun = false
      ∧ (after .audioFrame (lastFrame .coast)).clock.coasting = true
      ∧ (after .audioFrame (lastFrame .coast)).clock.queue = []
      ∧ (after .audioFrame (lastFrame .coast)).clock.position < (96601 : U32).val
      ∧ (96600 : U32).val ≤ (after .audioFrame (lastFrame .coast)).clock.position
      ∧ (coastingAt 96600 [blockOf 96649 1 none 0]).clock.queue.head? = some (blockOf 96649 1 none 0)
      ∧ (coastingAt 96600 [blockOf 96649 1 none 0]).clock.position < 96649
      ∧ (coastingAt 96600 [blockOf 96600 1 none 0]).clock.queue.head? = some (blockOf 96600 1 none 0)
      ∧ 96600 ≤ (coastingAt 96600 [blockOf 96600 1 none 0]).clock.position
      ∧ (coastingAt 96600 [blockOf 96600 1 none 0]).clock.underrun = false
      ∧ (coastingAt 96600 [blockOf 96600 1 none 0]).audHolder = some .a := by
  simp only [State.portReady]; decide +kernel

theorem witness_ClockTicks :
    live.clock.queue = [] ∧ music.clock.queue.getLast? = some (blockOf 96256 256 (some ⟨4, 96356⟩) 1)
      ∧ ticking.clock.run = .running ∧ ticking.clock.source = .internal ∧ ticking.clock.value < 4294967295
      ∧ 4294967295 ≤ { ticking with clock := { ticking.clock with value := 4294967295 } }.clock.value
      ∧ live.clock.run ≠ .running ∧ music.clock.coasting = false
      ∧ (coastingAt 96600 []).clock.coasting = true ∧ (coastingAt 96600 []).clock.source = .audio
      ∧ (coastingAt 96600 []).clock.run = .running
      ∧ 4294967295 ≤ (coastingAt 4294967247 []).clock.position + 48
      ∧ (coastingAt 4294967246 []).clock.position + 48 < 4294967295
      ∧ (∀ x ∈ (queueFrom (coastingAt 96600 [blockOf 96649 1 none 0]).clock.queue 96648).head?.toList, 96648 < x.start)
      ∧ (∃ x ∈ (queueFrom (coastingAt 96600 [blockOf 96648 1 none 0]).clock.queue 96648).head?.toList,
          x.start ≤ 96648) := by decide +kernel

theorem witness_AudioFrame :
    live.clock.run ≠ .running ∧ music.clock.run = .running ∧ music.clock.source = .audio
      ∧ (coastingAt 96600 []).clock.coasting = true
      ∧ (∀ x ∈ (coastingAt 96600 []).clock.queue.head?.toList, (coastingAt 96600 []).clock.position < x.start)
      ∧ (coastingAt 96600 [blockOf 96600 1 none 0]).clock.queue.head? = some (blockOf 96600 1 none 0)
      ∧ music.clock.coasting = false ∧ music.clock.queue.head? = some (blockOf 96000 256 none 32767)
      ∧ 95999 < (blockOf 96000 256 none 32767).start ∧ queuePast music.clock.queue (95999 + 1) ≠ []
      ∧ (∀ m ∈ (blockOf 96000 256 none 32767).marker.toList, m.position ≠ 96000)
      ∧ (blockOf 96000 256 none 32767).start = music.clock.position
      ∧ (music.entry audChannel).slot = some (.gain 200) ∧ music.unit.mode = .live ∧ music.frozen = false
      ∧ music.clock.position + 1 < 4294967295 ∧ queuePast music.clock.queue (96000 + 1) ≠ []
      ∧ (live.entry audChannel).slot = none
      ∧ (blockOf 96512 88 none 0).start < (lastFrame .coast).clock.position
      ∧ 4294967294 + 1 = 4294967295 ∧ queuePast (lastFrame .coast).clock.queue (96599 + 1) = []
      ∧ (lastFrame .coast).config.global.policy = .coast ∧ (lastFrame .stall).config.global.policy = .stall := by
  decide +kernel

/-- `music` at its marker, with a track in this phase. -/
def atMarker (phase : Phase) (reasons : PauseReasons) : State :=
  tracked { music with
    clock := { music.clock with position := 96356, value := 2007, queue := [blockOf 96256 256 (some ⟨4, 96356⟩) 1] } } 1
    phase reasons []

theorem witness_MarkerPassage :
    (atMarker (.waiting 4) noReasons).clock.run = .running ∧ (atMarker (.waiting 4) noReasons).clock.source = .audio
      ∧ (atMarker (.waiting 4) noReasons).clock.coasting = false
      ∧ (atMarker (.waiting 4) noReasons).clock.queue.head? = some (blockOf 96256 256 (some ⟨4, 96356⟩) 1)
      ∧ (blockOf 96256 256 (some ⟨4, 96356⟩) 1).marker = some ⟨4, 96356⟩
      ∧ (⟨4, 96356⟩ : Marker).position = (atMarker (.waiting 4) noReasons).clock.position
      ∧ (atMarker (.waiting 4) noReasons).clock.log.length < 8 ∧ (atMarker (.waiting 4) noReasons).track 0 = none
      ∧ (atMarker (.waiting 4) noReasons).track 1 = some ⟨.a, 0, [], noReasons, .waiting 4⟩
      ∧ (⟨true, false, false⟩ : PauseReasons).owner = true
      ∧ trackName ((atMarker (.running 2100 2100) noReasons).track 1) = .running
      ∧ trackName ((atMarker (.paused 5) ⟨true, false, false⟩).track 1) = .paused
      ∧ trackName ((atMarker (.waiting 6) noReasons).track 1) = .waiting ∧ Phase.waiting 6 ≠ .waiting 4
      ∧ trackName ((atMarker (.faulted .nesting) noReasons).track 1) = .faulted
      ∧ (atMarker (.waiting 4) noReasons).dueNow 1 = none ∧ (atMarker (.running 2007 2007) noReasons).dueNow 1 ≠ none := by
  decide +kernel

theorem witness_FrameEventTouchesOwnParts :
    live.now < live.shaper.frameDue ∧ { live with now := 20 }.shaper.frameDue ≤ { live with now := 20 }.now
      ∧ live.safety.state ≠ .stopping ∧ { stopped with safety := { stopped.safety with state := .stopping }
        }.safety.state = .stopping
      ∧ (atNode9 live .update ⟨.online, 0, 0, 0, none, none⟩).sweep.running
        = some ⟨⟨9, .update, [], 500, true⟩, false⟩ := by decide +kernel

theorem witness_FrameEventJets :
    frame0.shaper.frameDue ≤ frame0.now ∧ (stopped.entry (jetChannel 127)).hold = .safed
      ∧ (frame0.entry (jetChannel 40)).hold ≠ .safed ∧ frame0.unit.mode = .live
      ∧ ((held live 127 (.held .a 1)).setSlot 127 (some (.height 7)) |>.entry (jetChannel 127)).slot = some (.height 7)
      ∧ (frame0.entry (jetChannel 40)).slot = none ∧ dark.unit.mode ≠ .live
      ∧ (frame0.config.jets.get 0).enabled = false ∧ (frame0.config.jets.get 40).enabled = true
      ∧ 0 < (frame0.config.jets.get 40).exposure ∧ frame0.safety.wind ≠ .windStop
      ∧ 0 < ((after .frameEvent frame0).jets.get 40).target
      ∧ (5 : Fin 8).val * 2400 ≤ ((after .frameEvent frame0).jets.get 40).target * 8
      ∧ ((after .frameEvent frame0).jets.get 40).target * 8 < ((5 : Fin 8).val + 1) * 2400
      ∧ 0 < (frame0.config.jets.get 40).openings.get 8 := by decide +kernel

theorem witness_FrameEventHeaders :
    (frame0.config.headers.get 0).enabled = false ∧ (frame0.config.headers.get 3).enabled = true
      ∧ frame0.safety.state = .normal ∧ stopped.safety.state ≠ .normal ∧ (frame0.node 9).state = .online
      ∧ 0 < ((after .frameEvent frame0).headers.get 3).demand
      ∧ (frame0.node (frame0.config.headers.get 3).driveNode).drive = some ⟨600, false⟩
      ∧ (live.node 9).state ≠ .online
      ∧ ((after .frameEvent frame0).headers.get 3).state ≠ (frame0.headers.get 3).state
      ∧ (frame0.config.jets.get 40).enabled = true ∧ (frame0.config.jets.get 40).header = 3
      ∧ ((held frame0 40 (.held .a 1)).entry (jetChannel 40)).hold.holder = some .a := by decide +kernel

theorem witness_FrameEventFixtures :
    (stopped.entry (fixtureChannel 47)).hold = .safed ∧ (frame0.entry (fixtureChannel 5)).hold ≠ .safed
      ∧ frame0.unit.mode = .live ∧ frame0.frozen = false
      ∧ (frame0.entry (fixtureChannel 5)).slot = some (.colour ⟨50, 80, 255, 0⟩ 4) ∧ 0 < 4
      ∧ (frame0.entry (fixtureChannel 0)).slot = none ∧ dark.unit.mode = .dark ∧ State.reset.unit.mode = .setup
      ∧ (frame0.config.fixtures.get 0).enabled = false ∧ (frame0.config.fixtures.get 5).enabled = true
      ∧ Cause.level ∈ stopped.safety.causes ∧ Cause.level ∉ frame0.safety.causes ∧ frame0.safety.state = .normal
      ∧ { stopped with safety := { stopped.safety with causes := [.manual] } }.safety.state ≠ .normal
      ∧ (frame0.config.fixtures.get 5).followJet = some 40
      ∧ ({ frame0.config.fixtures.get 5 with followJet := none }).followJet = none := by decide +kernel

theorem witness_StatusRequests :
    live.portReady .a ∧ 4 ≤ (4 : U8).val ∧ 128 ≤ (128 : U8).val ∧ 16 ≤ (16 : U8).val ∧ 48 ≤ (48 : U8).val
      ∧ 32 ≤ (32 : U8).val ∧ live.clock.queue = []
      ∧ music.clock.queue.head? = some (blockOf 96000 256 none 32767)
      ∧ music.clock.queue.getLast? = some (blockOf 96256 256 (some ⟨4, 96356⟩) 1)
      ∧ live.safety.holdDeadline = none
      ∧ { live with safety := { Supervisor.reset with holdDeadline := some 25 } }.safety.holdDeadline = some 25 := by
  simp only [State.portReady]; decide +kernel

/-- `atNode9` with node 9 of a type. -/
def atNodeOf (t : NodeType) (kind : SentKind) (r : NodeRecord) : State :=
  let s := atNode9 live kind r
  { s with config := { s.config with nodes := s.config.nodes.set 9 t } }

theorem witness_AckReply :
    live.sweep.running = none ∧ (atNodeOf .valve8 .update ⟨.online, 0, 0, 0, none, none⟩).updating 9
      ∧ (atNodeOf .valve8 .update ⟨.online, 0, 0, 0, none, none⟩).config.nodes.get 9 = .valve8
      ∧ (atNodeOf .lamp4 .update ⟨.online, 0, 0, 0, none, none⟩).config.nodes.get 9 = .lamp4
      ∧ (atNodeOf .drive .syncUpdate ⟨.backoff, 1, 0, 0, none, none⟩).config.nodes.get 9 = .drive
      ∧ (atNodeOf .drive .syncUpdate ⟨.backoff, 1, 0, 0, none, none⟩).updating 9
      ∧ (atNodeOf .sense .update ⟨.online, 0, 0, 0, none, none⟩).config.nodes.get 9 = .sense
      ∧ ackFits .empty .drive = false ∧ (atNodeOf .drive .probe ⟨.offline, 0, 0, 0, none, none⟩).probed 9 := by
  simp only [State.updating, State.probed]; decide +kernel

theorem witness_BusyReply :
    live.sweep.running = none ∧ (atNodeOf .drive .probe ⟨.offline, 0, 0, 0, none, none⟩).probed 9
      ∧ (atNodeOf .drive .syncUpdate ⟨.backoff, 3, 0, 0, none, none⟩).updating 9
      ∧ ((atNodeOf .drive .syncUpdate ⟨.backoff, 3, 0, 0, none, none⟩).node 9).busyCount < 4
      ∧ (atNodeOf .drive .syncUpdate ⟨.backoff, 3, 0, 0, none, none⟩).sweep.pending = false
      ∧ (atNodeOf .sense .update ⟨.online, 0, 0, 0, none, none⟩).config.nodes.get 9 = .sense
      ∧ ((atNodeOf .sense .update ⟨.online, 0, 0, 0, none, none⟩).node 9).state = .online
      ∧ (atNodeOf .sense .update ⟨.online, 0, 0, 0, none, none⟩).safety.standing ≠ .missing
      ∧ (atNodeOf .drive .syncUpdate ⟨.backoff, 4, 0, 0, none, none⟩).updating 9
      ∧ 4 ≤ ((atNodeOf .drive .syncUpdate ⟨.backoff, 4, 0, 0, none, none⟩).node 9).busyCount := by
  simp only [State.updating, State.probed]; decide +kernel

theorem witness_MissIdentAndStrayReply :
    live.sweep.running = none ∧ (atNodeOf .drive .update ⟨.online, 0, 1, 0, none, none⟩).updating 9
      ∧ (atNodeOf .drive .probe ⟨.lost, 0, 3, 0, none, none⟩).probed 9
      ∧ ((atNodeOf .drive .probe ⟨.lost, 0, 3, 0, none, none⟩).node 9).state = .lost
      ∧ nodeTypeCode .drive ≠ 1 ∧ nodeTypeCode .drive = 2 ∧ NodeType.drive ≠ .none
      ∧ ((atNodeOf .drive .probe ⟨.offline, 0, 0, 0, none, none⟩).node 9).state ≠ .lost
      ∧ ((atNodeOf .drive .update ⟨.online, 0, 1, 0, none, none⟩).node 9).missCount < 2
      ∧ 2 ≤ ((atNodeOf .sense .update ⟨.online, 0, 2, 0, none, none⟩).node 9).missCount
      ∧ (atNodeOf .sense .update ⟨.online, 0, 2, 0, none, none⟩).updating 9 := by
  simp only [State.updating, State.probed]; decide +kernel

/-- A sweep held at node 9 with nodes 10 and 11 behind it, every other node ABSENT. -/
def sweeping (r10 r11 : NodeRecord) (pending : Bool) : State :=
  let s := atNodeOf .drive .update ⟨.online, 0, 0, 0, none, none⟩
  { s with nodes := (s.nodes.set 10 r10).set 11 r11, sweep := { s.sweep with pending := pending } }

/-- A node in BACKOFF with one skip left. -/
def skipping : NodeRecord := ⟨.backoff, 1, 0, 1, none, none⟩

/-- The tables of a small field: J3 at slot 2 of node 1, header 0 driven by node 5, F1 at slot 3 of node 6. -/
def wired : State :=
  { live with now := 20, config := { Tables.factory with
      jets := Tables.factory.jets.set 3 { JetConfig.factory with enabled := true, node := 1, slot := 2 }
      headers := Tables.factory.headers.set 0 { HeaderConfig.factory with enabled := true, driveNode := 5 }
      fixtures := Tables.factory.fixtures.set 1 ⟨true, 6, 3, none⟩
      nodes := (((Tables.factory.nodes.set 0 .sense).set 1 .valve8).set 5 .drive).set 6 .lamp4 } }

theorem witness_SweepStarts :
    (live.shaper.frameDue ≤ { wired with now := 20 }.now ∧ wired.sweep.running = none
      ∧ (∀ i : Fin 32, i < 9 → ((live.setNode 9 ⟨.online, 0, 0, 0, none, none⟩).node i).passedOver
        (decide (live.sweep.probeCounter = 0)))
      ∧ ¬ ((live.setNode 9 ⟨.online, 0, 0, 0, none, none⟩).node 9).passedOver (decide (live.sweep.probeCounter = 0))
      ∧ (∀ i : Fin 32, (live.node i).passedOver (decide (live.sweep.probeCounter = 0)))
      ∧ wired.config.nodes.get 1 = .valve8)
      ∧ (wired.config.nodes.get 5 = .drive ∧ wired.config.nodes.get 6 = .lamp4
      ∧ wired.config.nodes.get 0 = .sense ∧ wired.config.nodes.get 7 = .none
      ∧ (wired.config.jets.get 3).enabled = true ∧ (wired.config.jets.get 3).node = 1 ∧ (wired.config.jets.get 3).slot = 2
      ∧ (∀ i : Fin 128, i < 3 → (wired.config.jets.get i).enabled = false)
      ∧ (∀ i : Fin 128, (wired.config.jets.get i).enabled = true → (wired.config.jets.get i).node = 1 →
        (wired.config.jets.get i).slot ≠ 7))
      ∧ ((wired.config.headers.get 0).enabled = true ∧ (wired.config.headers.get 0).driveNode = 5
      ∧ (∀ i : Fin 16, (live.config.headers.get i).enabled = false)
      ∧ (wired.config.fixtures.get 1).enabled = true ∧ (wired.config.fixtures.get 1).node = 6
      ∧ (wired.config.fixtures.get 1).slot = 3
      ∧ (∀ i : Fin 48, i < 1 → (wired.config.fixtures.get i).enabled = false)
      ∧ (∀ i : Fin 48, (wired.config.fixtures.get i).enabled = true → (wired.config.fixtures.get i).node = 6 →
        (wired.config.fixtures.get i).slot ≠ 0)) := by
  refine ⟨?_, ?_, ?_⟩ <;> (try simp only [NodeRecord.passedOver]) <;> decide +kernel

theorem witness_SweepGoesOn :
    (sweeping skipping ⟨.online, 0, 0, 0, none, none⟩ false).sweep.running = some ⟨⟨9, .update, [], 500, true⟩, false⟩
      ∧ (∀ i : Fin 32, 9 < i → i < 11 →
        ((sweeping skipping ⟨.online, 0, 0, 0, none, none⟩ false).node i).passedOver false)
      ∧ ¬ ((sweeping skipping ⟨.online, 0, 0, 0, none, none⟩ false).node 11).passedOver false
      ∧ (∀ i : Fin 32, 9 < i → ((sweeping skipping ⟨.offline, 0, 0, 0, none, none⟩ true).node i).passedOver false)
      ∧ (sweeping skipping skipping false).sweep.pending = false
      ∧ (sweeping skipping skipping true).sweep.pending = true
      ∧ (∃ ty : U8, Instr.ident 4 = .ident ty) ∧ ∃ body, Instr.ack (.drive 1200 true) = .ack body := by
  refine ⟨?_, ?_, ?_, ?_, ?_, ?_, ⟨4, rfl⟩, _, rfl⟩ <;> (try simp only [NodeRecord.passedOver]) <;> decide +kernel

/-- `guarded` with A's track T1 in a phase, A's range claim running, and B watching J0. -/
def busyShow (phase : Phase) (op : RangeOp) : State :=
  tracked { guarded with
    directory := ⟨guarded.directory.entries.set 0 ⟨.held .a 1, ⟨false, true, false⟩, some (.height 5)⟩,
      [⟨.b, 0, 1, 1⟩, ⟨.c, 176, 3, 2⟩], 3⟩
    range := ⟨some ⟨.a, op, 0, 8, 1, 0, none⟩, none⟩ } 1 phase noReasons []

theorem witness_StopTakesEverything :
    (busyShow .armed .release).safety.state = .normal ∧ (busyShow .armed .release).portReady .c
      ∧ ((busyShow .armed .release).rights .c).safety = true ∧ (busyShow .armed .release).safety.estopAsserted = false
      ∧ Cause.manual ∉ (busyShow .armed .release).safety.causes ∧ (175 : Fin 177).val < 176
      ∧ ((busyShow .armed .release).entry 0).hold.holder = some .a
      ∧ ((busyShow .armed .release).entry 0).watchers.get .b = true ∧ (busyShow .armed .release).waitsFor .b 0
      ∧ (busyShow .armed .release).range.active = some ⟨.a, .release, 0, 8, 1, 0, none⟩
      ∧ RangeOp.isClaim (.claim 2) = true ∧ RangeOp.isSet .release = false ∧ RangeOp.isClaim .release = false
      ∧ (busyShow .armed .release).track 0 = none
      ∧ (busyShow (.running 9 9) .release).track 1 = some ⟨.a, 0, [], noReasons, .running 9 9⟩
      ∧ (busyShow (.waiting 7) .release).track 1 = some ⟨.a, 0, [], noReasons, .waiting 7⟩
      ∧ (busyShow (.paused 0) .release).track 1 = some ⟨.a, 0, [], noReasons, .paused 0⟩
      ∧ trackName ((busyShow .armed .release).track 1) = .armed := by
  simp only [State.portReady, State.waitsFor]; decide +kernel

/-- Node 9 a SENSE node in a state, with its BUSY and miss counts and a transmission in flight, in SETUP and a stop with MANUAL. -/
def sensorGoing (busy miss : Nat) (kind : SentKind) (state : NodeState) : State :=
  let s := atNodeOf .sense kind ⟨state, busy, miss, 0, none, none⟩
  { s with safety := { stopped.safety with causes := [.manual], levelLow := false }, unit := ⟨.setup, none, none, .blank⟩ }

theorem witness_CausesDuringAStopAndAck :
    (stopped.portReady .c ∧ stopped.portReady .a ∧ (stopped.rights .a).safety = false ∧ (stopped.rights .c).safety = true
      ∧ Cause.manual ∈ stopped.safety.causes
      ∧ Cause.manual ∉ { stopped with safety := { stopped.safety with causes := [.level] } }.safety.causes
      ∧ stopped.safety.state ≠ .normal ∧ stopped.safety.estopAsserted = true
      ∧ { stopped with safety := { stopped.safety with estopAsserted := false } }.safety.estopAsserted = false
      ∧ Cause.estop ∈ stopped.safety.causes
      ∧ Cause.estop ∉ { stopped with safety := { stopped.safety with causes := [.level] } }.safety.causes
      ∧ Cause.intrusion ∈ { stopped with safety := { stopped.safety with
          causes := [.intrusion], intrusionPending := true } }.safety.causes
      ∧ stopped.safety.intrusionPending = false ∧ Cause.intrusion ∉ stopped.safety.causes)
      ∧ ((sensorGoing 4 0 .syncUpdate .backoff).config.nodes.get 9 = .sense
      ∧ (sensorGoing 4 0 .syncUpdate .backoff).safety.standing ≠ .missing
      ∧ (sensorGoing 4 0 .syncUpdate .backoff).updating 9 ∧ 4 ≤ ((sensorGoing 4 0 .syncUpdate .backoff).node 9).busyCount
      ∧ (sensorGoing 0 0 .update .online).updating 9 ∧ ((sensorGoing 0 0 .update .online).node 9).state = .online
      ∧ (sensorGoing 0 2 .probe .offline).probed 9 ∧ ((sensorGoing 0 2 .probe .offline).node 9).state ≠ .lost
      ∧ 2 ≤ ((sensorGoing 0 2 .probe .offline).node 9).missCount
      ∧ (sensorGoing 0 0 .update .online).portReady .c ∧ ((sensorGoing 0 0 .update .online).rights .c).config = true
      ∧ (sensorGoing 0 0 .update .online).unit.mode = .setup ∧ (sensorGoing 0 0 .update .online).unit.saving = none
      ∧ (sensorGoing 0 0 .update .online).config.keepsSafety = true ∧ parseEntry 5 [2] = .ok (.node .drive)
      ∧ NodeType.drive ≠ .sense ∧ Cause.level ∉ (sensorGoing 0 0 .update .online).safety.causes
      ∧ Cause.level ∈ stopped.safety.causes ∧ (sensorGoing 0 0 .update .online).safety.state ≠ .normal
      ∧ (atNodeOf .sense .update ⟨.online, 0, 0, 0, none, none⟩).safety.state = .normal)
      ∧ (stopped.portReady .a ∧ stopped.portReady .c ∧ (stopped.rights .a).safety = false
      ∧ (stopped.rights .c).safety = true ∧ live.safety.state ≠ .stopped ∧ stopped.safety.state = .stopped
      ∧ live.portReady .c
      ∧ stopped.safety.causes.filter (fun k => decide (k = .intrusion ∧ stopped.safety.intrusionPending = true
          ∨ k = .level ∧ (stopped.safety.levelLow = true ∨ stopped.safety.standing = .missing)
          ∨ k = .estop ∧ stopped.safety.estopAsserted = true)) = .level :: [.estop]
      ∧ (∀ k ∈ [Cause.manual, .level, .estop], ¬ (k = .intrusion ∧ false = true
          ∨ k = .level ∧ (false = true ∨ Standing.present = .missing) ∨ k = .estop ∧ false = true))
      ∧ (stopped.entry 0).hold = .safed ∧ ({ stopped.entry 0 with watchers := everyPort }).watchers.get .b = true) := by
  refine ⟨?_, ?_, ?_⟩ <;> simp only [State.portReady, State.updating, State.probed] <;> decide +kernel

/-- `live` with a freeze record. -/
def freezing (f : Freeze) : State := { live with safety := { Supervisor.reset with freeze := f } }

theorem witness_FreezeAndThaw :
    live.portReady .a ∧ live.portReady .c ∧ (live.rights .a).freeze = false ∧ (live.rights .c).freeze = true
      ∧ live.safety.freeze = .none ∧ (freezing (.requested .c)).safety.freeze = .requested .c
      ∧ (freezing (.inEffect .c)).safety.freeze = .inEffect .c
      ∧ (freezing (.thawRequested .c)).safety.freeze = .thawRequested .c ∧ Port.b ≠ .c
      ∧ (freezing (.requested .b)).safety.freeze = .requested .b
      ∧ Port.c ≠ .a ∧ (live.rights .a).safety = false
      ∧ (live.rights .c).safety = true
      ∧ (freezing (.inEffect .b)).safety.freeze = .inEffect .b
      ∧ (freezing (.thawRequested .b)).safety.freeze = .thawRequested .b := by
  simp only [State.portReady]; decide +kernel

/-- A freeze record at a frame event, the clock in a run state, and T1 in a phase. -/
def freezeFrame (f : Freeze) (run : RunState) (phase : Phase) (reasons : PauseReasons) : State :=
  tracked { freezing f with now := 20, clock := { music.clock with run := run } } 1 phase reasons []

theorem witness_FreezeAtFrameEvent :
    (freezeFrame .none .running .armed noReasons).shaper.frameDue ≤ (freezeFrame .none .running .armed noReasons).now
      ∧ (freezeFrame .none .running .armed noReasons).safety.freeze = .none
      ∧ (freezeFrame (.requested .c) .running (.running 2100 2100) noReasons).safety.freeze = .requested .c
      ∧ (freezeFrame (.requested .c) .running (.running 2100 2100) noReasons).track 1
        = some ⟨.a, 0, [], noReasons, .running 2100 2100⟩
      ∧ trackName ((freezeFrame (.requested .c) .running (.waiting 7) noReasons).track 1) = .waiting
      ∧ trackName ((freezeFrame (.requested .c) .running .armed noReasons).track 1) = .armed
      ∧ (freezeFrame (.thawRequested .c) .stalled (.paused 0) ⟨false, true, false⟩).safety.freeze = .thawRequested .c
      ∧ (freezeFrame (.thawRequested .c) .stalled (.paused 0) ⟨false, true, false⟩).clock.run = .stalled
      ∧ (freezeFrame (.thawRequested .c) .stalled (.paused 0) ⟨false, true, false⟩).clock.underrun = false
      ∧ music.clock.position < 4294967295 ∧ music.clock.queue ≠ []
      ∧ (freezeFrame (.thawRequested .c) .stalled (.paused 0) ⟨false, true, false⟩).track 1
        = some ⟨.a, 0, [], ⟨false, true, false⟩, .paused 0⟩
      ∧ trackName ((freezeFrame (.thawRequested .c) .stalled (.waiting 7) ⟨false, true, false⟩).track 1) = .waiting
      ∧ trackName ((freezeFrame (.thawRequested .c) .stalled (.running 2100 2101) noReasons).track 1) = .running
      ∧ (freezeFrame (.thawRequested .c) .stalled .armed noReasons).track 0 = none
      ∧ (freezeFrame (.thawRequested .c) .stopped (.paused 3) ⟨true, true, false⟩).clock.run = .stopped
      ∧ (⟨true, true, false⟩ : PauseReasons).owner = true
      ∧ ({ music.clock with run := .stalled, underrun := true }).underrun = true
      ∧ ({ music.clock with position := 4294967295, queue := [] }).position = 4294967295
      ∧ ({ music.clock with queue := [] }).queue = [] ∧ music.clock.coasting = false ∧ music.clock.source = .audio
      ∧ music.config.global.policy = .coast ∧ (lastFrame .stall).config.global.policy = .stall
      ∧ music.audHolder = some .a := by decide +kernel

/-- The sense node's update in flight, with a standing, a gust, a hold and a wind state. -/
def sensing (standing : Standing) (gust : Nat) (hold : Option Nat) (wind : Wind) : State :=
  { atNodeOf .sense .update ⟨.online, 0, 0, 0, none, none⟩ with
    now := 500
    safety := { Supervisor.reset with standing := standing, gust := gust, holdDeadline := hold, wind := wind } }

theorem witness_ReadingAndHoldTimer :
    live.safety.holdDeadline = none ∧ (sensing .present 90 (some 3000) .derate).safety.holdDeadline = some 3000
      ∧ (sensing .present 90 (some 3000) .derate).now < 3000 ∧ (500 : Nat) ≤ (sensing .present 90 (some 500) .derate).now
      ∧ (sensing .present 90 (some 3000) .derate).updating 9
      ∧ (sensing .present 90 (some 3000) .derate).config.nodes.get 9 = .sense
      ∧ (sensing .present 90 (some 3000) .derate).safety.gust ≤ (90 : U16).val
      ∧ (89 : U16).val < (sensing .present 90 (some 3000) .derate).safety.gust
      ∧ (sensing .present 90 none .derate).safety.holdDeadline = none
      ∧ ((sensing .present 90 none .derate).node 9).state = .online
      ∧ ((atNodeOf .sense .syncUpdate ⟨.syncing, 0, 0, 0, none, none⟩).node 9).state ≠ .online
      ∧ (sensing .missing 0 none .windStop).safety.standing = .missing
      ∧ (sensing .present 90 none .derate).safety.standing ≠ .missing
      ∧ (sensing .present 90 none .derate).safety.wind ≠ .windStop
      ∧ (sensing .present 90 none .derate).config.global.wStop ≤ 180
      ∧ 179 < (sensing .present 90 none .derate).config.global.wStop
      ∧ (sensing .present 185 none .windStop).safety.wind = .windStop
      ∧ (sensing .present 185 none .windStop).config.global.wStop < 161 + (sensing .present 185 none .windStop).config.global.wHyst
      ∧ 160 + (sensing .present 185 none .windStop).config.global.wHyst ≤ (sensing .present 185 none .windStop).config.global.wStop
      ∧ Cause.level ∉ (sensing .present 90 none .derate).safety.causes
      ∧ (sensing .present 90 none .derate).safety.state = .normal ∧ stopped.safety.state ≠ .normal
      ∧ Cause.level ∈ stopped.safety.causes ∧ (sensing .unseen 90 none .derate).safety.standing ≠ .present
      ∧ windOf (sensing .missing 90 none .windStop).config.global .windStop 90 = .derate := by
  simp only [State.updating]; decide +kernel

/-- A node entry's write while a sweep is held at that node. -/
def rewiring : State :=
  { atNodeOf .sense .update ⟨.online, 0, 0, 0, none, none⟩ with unit := ⟨.setup, none, none, .blank⟩ }

theorem witness_ConfigWriteAndRead :
    State.reset.portReady .c ∧ State.reset.portReady .b ∧ live.portReady .c
      ∧ configWriteFits (5 : U8).val [0, 0].length = false ∧ configWriteFits (5 : U8).val [0].length = true
      ∧ (0 : U8).val = 0 ∧ 6 < (7 : U8).val ∧ configWriteFits (7 : U8).val 0 = true ∧ tableSize (5 : U8).val = some 32
      ∧ 32 ≤ (32 : U8).val ∧ (31 : U8).val < 32 ∧ (5 : U8).val < 6 ∧ (6 : U8).val = 6 ∧ tableSize (6 : U8).val = some 1
      ∧ ({ live.rights .c with config := false }).config = false ∧ (State.reset.rights .c).config = true
      ∧ State.reset.unit.mode = .setup ∧ live.unit.mode ≠ .setup
      ∧ { State.reset with unit := ⟨.setup, none, some .c, .blank⟩ }.unit.saving ≠ none
      ∧ State.reset.unit.saving = none ∧ parseEntry (5 : U8).val [5] = .error 3
      ∧ parseEntry (5 : U8).val [2] = .ok (.node .drive)
      ∧ parseEntry (1 : U8).val [3, 0x07, 0x06, 0x00, 0x02, 0x00] = .ok (.rights ⟨3, true, true, true, false, 1536, 512⟩)
      ∧ (State.reset.config.put (2 : U8).val (.rights ⟨3, true, true, true, false, 1536, 512⟩)).keepsSafety = false
      ∧ (State.reset.config.put (9 : U8).val (.node .drive)).keepsSafety = true
      ∧ (∃ k ∈ (tableSize (5 : U8).val).toList, (8 : U8).val < k) ∧ (8 : U8) ≠ 9
      ∧ rewiring.config.nodes.get 9 = .sense ∧ (rewiring.node 9).state = .online ∧ rewiring.portReady .c
      ∧ (rewiring.sweep.running.map fun r => r.tx.node) = some 9
      ∧ (tableSize (2 : U8).val) = some 128 ∧ State.reset.safety.standing ≠ .missing
      ∧ (sensing .missing 0 none .windStop).safety.standing = .missing := by
  simp only [State.portReady]; decide +kernel

theorem witness_ConfigSave :
    State.reset.portReady .c ∧ live.portReady .c ∧ (State.reset.rights .c).config = true
      ∧ ({ State.reset.rights .c with config := false }).config = false ∧ live.unit.mode ≠ .setup
      ∧ State.reset.unit.mode = .setup ∧ State.reset.unit.saving = none
      ∧ { State.reset with unit := ⟨.setup, none, some .c, .blank⟩ }.unit.saving = some .c
      ∧ (({ State.reset with ports := { State.reset.ports with c := ⟨.working 0x62 1, none, [], false, false⟩ }
          } : State).port .c).state = .working 0x62 1
      ∧ (State.reset.port .c).state = .ready ∧ (answering.port .a).state = .answering 0x72 9 ⟨.ok, .identity .a⟩ := by
  simp only [State.portReady]; decide +kernel

theorem witness_Validation : (commissioned 0 (Table.fill 0)).validate = some ⟨2, 9, 3⟩ := by decide +kernel

/-- DARK with validated tables, everything at rest. -/
def ready : State := { dark with config := sensed }

theorem witness_ModeAndIdleTimer :
    live.unit.idleDeadline = none ∧ { live with unit := ⟨.live, some 50, none, .loaded⟩ }.unit.idleDeadline = some 50
      ∧ live.now < 50 ∧ 50 ≤ { live with now := 50 }.now ∧ live.unit.mode = .live ∧ live.portReady .c
      ∧ State.reset.portReady .c ∧ State.reset.unit.mode = .setup ∧ (0 : U8).val = 0 ∧ 3 < (4 : U8).val
      ∧ (live.rights .c).config = true ∧ (live.rights .c).showRight = true
      ∧ ({ live.rights .c with config := false, showRight := false }).config = false
      ∧ State.reset.unit.saving = none ∧ { State.reset with unit := ⟨.setup, none, some .c, .blank⟩ }.unit.saving ≠ none
      ∧ State.reset.config.validate = some ⟨5, 0, 9⟩ ∧ ready.config.validate = none
      ∧ live.anyTrackMoves = false ∧ live.clock.run = .stopped ∧ ticking.clock.run ≠ .stopped
      ∧ ready.unit.mode = .dark ∧ ready.portReady .c ∧ ready.shaper.outputsAtRest = true
      ∧ ({ ready.shaper with outputsAtRest := false }).outputsAtRest = false
      ∧ ((held ready 5 (.held .a 1)).entry 5).hold.holder = some .a
      ∧ (waited (held ready 5 (.held .a 1)) [⟨.b, 5, 0, 1⟩]).waitsFor .b 5 := by
  simp only [State.portReady, State.waitsFor]; decide +kernel

theorem witness_IdleEvaluation :
    live.idleCondition = true ∧ live.unit.mode = .live ∧ live.clock.run = .stopped ∧ live.shaper.jetsStill = true
      ∧ live.unit.idleDeadline = none ∧ live.config.global.idleTime ≠ 0 ∧ ticking.idleCondition = false
      ∧ { live with unit := ⟨.live, some 50, none, .loaded⟩ }.unit.idleDeadline ≠ none
      ∧ { live with unit := ⟨.live, some 50, none, .loaded⟩ }.idleCondition = true
      ∧ { ticking with unit := ⟨.live, some 50, none, .loaded⟩ }.idleCondition = false
      ∧ ({ live.config.global with idleTime := 0 }).idleTime = 0
      ∧ trackName ((tracked live 1 .armed noReasons []).track 1) ≠ trackName (live.track 1)
      ∧ ticking.clock.run ≠ live.clock.run ∧ dark.unit.mode ≠ live.unit.mode
      ∧ live.shaper.frameDue ≤ { live with now := 20 }.now := by decide +kernel

theorem witness_ShowReset :
    show310.portReady .a ∧ show310.portReady .c ∧ (show310.rights .a).safety = false
      ∧ (show310.rights .c).safety = true ∧ show310.unit.mode = .live ∧ dark.unit.mode ≠ .live ∧ dark.portReady .c
      ∧ Port.b ≠ .c := by
  simp only [State.portReady]; decide +kernel

theorem witness_LinkEvents :
    requestPort (.identify .a 1) = some .a ∧ ¬ answering.portReady .a ∧ live.portReady .a
      ∧ checkFrame .a [0x01, 7, 0, 3, 12, 3, 0, 0, 0] = .error .badFrame ∧ (0x01 : Byte) ≠ 0
      ∧ checkFrame .a ([0x07, 7, 0, 0] ++ crcBytes [0x07, 7, 0, 0]) = .error .badRequest
      ∧ Config.missingTag live.freeCount = Config.missingTag 0
      ∧ (live.port .a).state = .ready ∧ (answering.port .a).state = .answering 0x72 9 ⟨.ok, .identity .a⟩
      ∧ (answering.port .a).resetHeld = false ∧ (responseFrame 0x72 9 ⟨.ok, .identity .a⟩).length = 19
      ∧ (({ live with ports := { live.ports with a := LinkPort.reset true } } : State).port .a).resetHeld = true
      ∧ (({ live with ports := { live.ports with a := ⟨.working 0x62 1, none, [], false, false⟩ } } : State).port .a).state
        = .working 0x62 1 := by
  refine ⟨?_, ?_, ?_, ?_, ?_, ?_, rfl, ?_⟩ <;> (try simp only [State.portReady]) <;> decide +kernel

/-- The clauses of LinkEvents on the checks of R171, each at the edge of its range: no length field, a body length of 1041, a frame
one byte short, a wrong CRC-16, an IDENTIFY with a body, and bodies that pass. -/
theorem witness_LinkEvents_checks :
    (([0] : List Byte).length < 2 ∧ 1040 < 256 * (4 : Byte).toNat + (17 : Byte).toNat
      ∧ ([0] : List Byte).length ≠ 256 * (0 : Byte).toNat + (0 : Byte).toNat + 2
      ∧ 256 * (0 : Byte).toNat + (1 : Byte).toNat = ([0] : List Byte).length
      ∧ 256 * (0 : Byte).toNat + (0 : Byte).toNat = ([] : List Byte).length
      ∧ 256 * (4 : Byte).toNat + (16 : Byte).toNat = (List.replicate 1040 (0 : Byte)).length
      ∧ ([0, 0] : List Byte) ≠ crcBytes [0x72, 9, 0, 0])
      ∧ ¬ bodyPasses 0x72 [0] ∧ ¬ bodyPasses 0x07 [] ∧ ¬ bodyPasses 0x20 (List.replicate 275 17)
      ∧ bodyPasses 0x72 [] ∧ bodyPasses 0x20 (List.replicate 259 0) ∧ bodyPasses 0x32 (List.replicate 1040 0)
      ∧ bodyPasses 0x60 [0] ∧ bodyPasses 0x60 (2 :: List.replicate 48 0) := by
  refine ⟨?_, ?_, ?_, ?_, ?_, ?_, ?_, ?_, ?_⟩ <;> (try simp only [bodyPasses]) <;> decide +kernel

theorem witness_NoticesAndIdentify : live.portReady .a ∧ (live.port .a).notices.length < 32
    ∧ 32 ≤ (⟨.ready, none, List.replicate 32 ⟨.frozen, 255, 0, 0, .none⟩, false, false⟩ : LinkPort).notices.length
    ∧ music.audHolder = some .a ∧ live.audHolder = none
    ∧ (⟨.frozen, 255, 0, 0, .none⟩ : Notice) ∈ [(⟨.frozen, 255, 0, 0, .none⟩ : Notice)] := by
  simp only [State.portReady]; decide +kernel

theorem witness_RequestFramesRoundTrip :
    (Instr.cueLoad .a 1 0 1 [rec16 [0x1F]]).wellFormed = true
      ∧ requestPort (.cueLoad .a 1 0 1 [rec16 [0x1F]]) = some .a := by decide +kernel

/-! ### The standing properties, at a state of the worked sequences and a step from it -/

/-- A step answers a next state. -/
def steps (s : State) : Bool :=
  match step s with
  | .next _ => true
  | .fault _ => false
  | .refused _ => false

/-- `Hold.owed` as a test. -/
def owedTest (above : Nat → Bool) : Hold → Bool
  | .free => true
  | .held _ q => !above q
  | .recalling _ q _ => above q
  | .safed => true

theorem owed_of_test (above : Nat → Bool) (h : Hold) (t : owedTest above h = true) : h.owed above := by
  cases h <;> simp_all [owedTest, Hold.owed]

theorem witness_StepKeepsDirectorySound : { recall1 with pending := [.recallExpiry 12] }.SlotsSound
    ∧ { recall1 with pending := [.recallExpiry 12] }.WaitersSound
    ∧ { recall1 with pending := [.recallExpiry 12] }.RecallsSound ∧ steps { recall1 with pending := [.recallExpiry 12] } = true := by
  refine ⟨?_, ?_, fun ch => owed_of_test _ _ ?_, ?_⟩
  · simp only [State.SlotsSound]; decide +kernel
  · simp only [State.WaitersSound]; decide +kernel
  · revert ch; decide +kernel
  · decide +kernel

theorem witness_StepKeepsStoreAndTracksSound :
    { tracked live 1 .armed noReasons [] with pending := [.trackStart .a 1 1] }.StoreSound
      ∧ { tracked live 1 .armed noReasons [] with pending := [.trackStart .a 1 1] }.TracksSound
      ∧ steps { tracked live 1 .armed noReasons [] with pending := [.trackStart .a 1 1] } = true := by
  refine ⟨⟨rfl, fun i => ?_⟩, ⟨fun t => ?_, fun h => absurd h (by decide +kernel)⟩, by decide +kernel⟩
  · have e : Memory.record [] i.val = emptyRecord := Table.ext_get fun k => by simp [Memory.record, Memory.read, emptyRecord]
    exact (congrArg CueRecord.fault e).trans (by decide +kernel)
  match t with
  | 0 => exact trivial
  | 1 => exact ⟨by decide +kernel, by decide +kernel⟩
  | 2 => exact trivial
  | 3 => exact trivial

theorem witness_StepKeepsDueEventsSound :
    { dueWith [] [] with pending := [.dueEvent 1] }.StallsSound ∧ { dueWith [] [] with pending := [.dueEvent 1] }.DueSound
      ∧ steps { dueWith [] [] with pending := [.dueEvent 1] } = true := by
  refine ⟨?_, fun t b due at_ h ph => ?_, ?_⟩
  · simp only [State.StallsSound]; decide +kernel
  · match t with
    | 0 => cases h
    | 1 => cases h; cases ph; exact ⟨le_refl _, fun h => absurd rfl h⟩
    | 2 => cases h
    | 3 => cases h
  · decide +kernel

theorem witness_StepKeepsClockSoundAndMonotone : { music with pending := [.audioFrame] }.ClockSound
    ∧ steps { music with pending := [.audioFrame] } = true
    ∧ (tracked music 1 (.waiting 4) noReasons []).anyTrackMoves = true := by
  simp only [State.ClockSound, ClockUnit.QueueSound, ClockUnit.AudioSound, Block.Sound]; decide +kernel

theorem witness_StepKeepsOutputsSound : { stopped with pending := [.safetyAck .c 1] }.SafedSound
    ∧ { stopped with pending := [.safetyAck .c 1] }.OutputsSound ∧ steps { stopped with pending := [.safetyAck .c 1] } = true := by
  simp only [State.SafedSound, State.OutputsSound, State.ValvesClosed, State.PumpsStopped]; decide +kernel

theorem witness_StepKeepsNodesAndNoticesSound :
    { atNodeOf .drive .syncUpdate ⟨.backoff, 4, 0, 0, none, none⟩ with pending := [.busy] }.NodesSound
      ∧ { atNodeOf .drive .syncUpdate ⟨.backoff, 4, 0, 0, none, none⟩ with pending := [.busy] }.NoticesSound
      ∧ steps { atNodeOf .drive .syncUpdate ⟨.backoff, 4, 0, 0, none, none⟩ with pending := [.busy] } = true := by
  refine ⟨?_, fun p => ?_, ?_⟩
  · simp only [State.NodesSound, NodeRecord.Sound, NodeRecord.awaits]; decide +kernel
  · cases p <;> decide +kernel
  · decide +kernel

theorem witness_StepKeepsSafetySound : { stopped with pending := [.estopReleased] }.safety.CausesSound
    ∧ { stopped with pending := [.estopReleased] }.SafedSound ∧ steps { stopped with pending := [.estopReleased] } = true := by
  simp only [Supervisor.CausesSound, State.SafedSound]; decide +kernel

theorem witness_StepKeepsModesSound : { ready with pending := [.mode .c 1 1] }.ConfigSound
    ∧ { ready with pending := [.mode .c 1 1] }.IdleSound ∧ { ready with pending := [.mode .c 1 1] }.SetupSound
    ∧ steps { ready with pending := [.mode .c 1 1] } = true := by
  refine ⟨?_, ?_, fun h => absurd h (by decide +kernel), ?_⟩
  · simp only [State.ConfigSound]; decide +kernel
  · simp only [State.IdleSound]; decide +kernel
  · decide +kernel

end Sys2Proof.Tests
end

/-!
# The Channel Directory: the checks of R8, WATCH, UNWATCH and INQUIRE

A request at a port that takes frames, in terms of what its owning block answers; then what each action of the Directory
answers; then O12 and O6.
-/

namespace Sys2Proof.Machine

/-! ## One request at a port that takes it (10 R169, R174) -/

@[simp] theorem PerPort.set_set {α : Type} (t : PerPort α) (p : Port) (v w : α) : (t.set p v).set p w = t.set p w := by
  cases p <;> rfl

@[simp] theorem State.setPort_setPort (s : State) (p : Port) (lp lq : LinkPort) :
    (s.setPort p lp).setPort p lq = s.setPort p lq := by
  simp only [State.setPort, PerPort.set_set]

theorem State.takesFrame_of_portReady {s : State} {p : Port} (h : s.portReady p) : s.takesFrame p = true := by
  obtain ⟨hstate, hheld⟩ := h
  simp [State.takesFrame, hstate, hheld]

@[simp] theorem State.rights_beginRequest (s : State) (p q : Port) (kind tag : Nat) :
    (s.beginRequest p kind tag).rights q = s.rights q := rfl

/-- The response overwrites the request in progress: what is left of a request is the response alone. -/
theorem State.respond_beginRequest (s : State) (p : Port) (kind tag : Nat) (a : Answer) :
    (s.beginRequest p kind tag).respond p kind tag a = s.respond p kind tag a := by
  simp only [State.beginRequest, State.respond, State.port_setPort_self, State.setPort_setPort]

theorem State.request_of_portReady {s : State} {p : Port} (h : s.portReady p) (kind : Nat) (tag : U8)
    (act : State → State × Answer) :
    s.request p kind tag act =
      (act (s.beginRequest p kind tag.val)).1.respond p kind tag.val (act (s.beginRequest p kind tag.val)).2 := by
  rcases s.request_cases p kind tag act with ⟨hlost, -⟩ | ⟨-, hanswered⟩
  · rw [State.takesFrame_of_portReady h] at hlost
    cases hlost
  · exact hanswered

theorem Answer.responseBody_refuse (st : Status) (field : Nat) : (Answer.refuse st field).responseBody = .empty := by
  cases st <;> rfl

theorem nextErrorDetail_refuse {st : Status} (hst : st.isRefusal = true) (old : Option ErrorDetail) (kind field : Nat) :
    nextErrorDetail old kind (.refuse st field) = some ⟨st, kind, field, 0, 0⟩ :=
  if_pos hst

/-- A block that refuses and changes nothing leaves the port's refusal alone. -/
theorem State.request_refuse {s : State} {p : Port} (h : s.portReady p) (kind : Nat) (tag : U8)
    {act : State → State × Answer} {st : Status} {field : Nat} (hst : st.isRefusal = true)
    (hact : act (s.beginRequest p kind tag.val) = (s.beginRequest p kind tag.val, .refuse st field)) :
    s.request p kind tag act = s.refusal p kind tag st field 0 0 := by
  rw [State.request_of_portReady h, hact, State.respond_beginRequest]
  simp only [State.respond, Answer.responseBody_refuse, nextErrorDetail_refuse hst]
  rfl

theorem Answer.report_empty : Answer.report .empty = .ok := rfl

/-- A block that answers OK with a body, and whose effect does not meet the port's request in progress, leaves its effect and
the port's answer. -/
theorem State.request_report {s t : State} {p : Port} (h : s.portReady p) {kind : Nat} (hkind : kind ≠ errorDetailKind)
    (tag : U8) {act : State → State × Answer} {body : Body}
    (hact : act (s.beginRequest p kind tag.val) = (t.beginRequest p kind tag.val, .report body)) :
    s.request p kind tag act = t.answered p kind tag .ok body := by
  rw [State.request_of_portReady h, hact, State.respond_beginRequest]
  simp [State.respond, State.answered, Answer.responseBody, nextErrorDetail, Answer.report, Status.isRefusal, hkind]

theorem State.error_answered (s : State) (p : Port) (kind : Nat) (tag : U8) (st : Status) (body : Body) :
    ((s.answered p kind tag st body).port p).error = none := by
  simp only [State.answered, State.port_setPort_self]

/-! ## The channel field (01 R8 check 1) -/

theorem channelByte_val_lt (ch : Fin 177) : (channelByte ch).val < 177 := ch.isLt

/-- A channel field below 177 names a channel. -/
theorem exists_eq_channelByte {channel : U8} (h : channel.val < 177) : ∃ ch : Fin 177, channel = channelByte ch :=
  ⟨⟨channel.val, h⟩, rfl⟩

section UnknownChannel

variable {channel : U8} (h : 177 ≤ channel.val) (p : Port) (s : State)
include h

theorem claimAction_unknownChannel (pr w : U8) : claimAction p channel pr w s = (s, .refuse .outOfRange 1) :=
  dif_neg (Nat.not_lt.mpr h)

theorem releaseAction_unknownChannel : releaseAction p channel s = (s, .refuse .outOfRange 1) :=
  dif_neg (Nat.not_lt.mpr h)

theorem setAction_unknownChannel (v : SetValue) : setAction p channel v s = (s, .refuse .outOfRange 1) :=
  dif_neg (Nat.not_lt.mpr h)

theorem watchAction_unknownChannel (on : Bool) : watchAction p channel on s = (s, .refuse .outOfRange 1) :=
  dif_neg (Nat.not_lt.mpr h)

theorem inquireAction_unknownChannel : inquireAction channel s = (s, .refuse .outOfRange 1) :=
  dif_neg (Nat.not_lt.mpr h)

end UnknownChannel

/-! ## The later checks of CLAIM, RELEASE and SET on a channel (01 R8 checks 2 to 4) -/

/-- CLAIM on a channel: checks 2 to 4 in order, then the claim itself. -/
theorem claimAction_channelByte (p : Port) (ch : Fin 177) (pr w : U8) (s : State) :
    claimAction p (channelByte ch) pr w s =
      if pr.val > 3 then (s, .refuse .outOfRange 2)
      else if w.val > 1 then (s, .refuse .outOfRange 3)
      else if s.unit.mode = .setup then (s, .refuse .wrongMode)
      else if pr.val > (s.rights p).ceiling then (s, .refuse .noRight 2)
      else s.claimChannel p ch pr.val (w.val == 1) :=
  dif_pos (channelByte_val_lt ch)

/-- RELEASE on a channel: check 3, then the release itself. -/
theorem releaseAction_channelByte (p : Port) (ch : Fin 177) (s : State) :
    releaseAction p (channelByte ch) s =
      if s.unit.mode = .setup then (s, .refuse .wrongMode) else s.releaseChannel p ch :=
  dif_pos (channelByte_val_lt ch)

/-- SET on a channel: check 3, then the staged write. -/
theorem setAction_channelByte (p : Port) (ch : Fin 177) (v : SetValue) (s : State) :
    setAction p (channelByte ch) v s =
      if s.unit.mode = .setup then (s, .refuse .wrongMode)
      else ((s.stage p ch (SetValue.setpoint v ch)).1, (s.stage p ch (SetValue.setpoint v ch)).2.answer) :=
  dif_pos (channelByte_val_lt ch)

/-! ## WATCH, UNWATCH and INQUIRE on a channel (01 R23, R24) -/

theorem watchAction_channelByte (p : Port) (ch : Fin 177) (on : Bool) (s : State) :
    watchAction p (channelByte ch) on s = (s.setWatch p ch on, .ok) :=
  dif_pos (channelByte_val_lt ch)

/-- The watchers stand in the Directory and the request in progress at the port: setting one leaves the other. -/
theorem State.setWatch_beginRequest (s : State) (p q : Port) (kind tag : Nat) (ch : Fin 177) (on : Bool) :
    (s.beginRequest p kind tag).setWatch q ch on = (s.setWatch q ch on).beginRequest p kind tag := rfl

theorem inquireAction_channelByte (ch : Fin 177) (s : State) :
    inquireAction (channelByte ch) s = (s, .report (.inquire (s.entry ch) (s.recallRemaining ch)
      ((s.waitersOf ch).map fun w => (w.port, w.priority)))) :=
  dif_pos (channelByte_val_lt ch)

theorem State.recallRemaining_recalling {s : State} {ch : Fin 177} {x : Port} {q d : Nat}
    (h : (s.entry ch).hold = .recalling x q d) : s.recallRemaining ch = some (d - s.now) := by
  simp only [State.recallRemaining, h]

theorem State.recallRemaining_not_recalling {s : State} {ch : Fin 177} {x : Port} {q : Nat}
    (h : (s.entry ch).hold = .free ∨ (s.entry ch).hold = .held x q ∨ (s.entry ch).hold = .safed) :
    s.recallRemaining ch = none := by
  rcases h with h | h | h <;> simp only [State.recallRemaining, h]

/- `exec` of a command from a port is `.next` of one request at the port: `congrArg` takes an equation of that request to the
command. -/
section OnAChannel

variable {s : State} {p : Port} (h : s.portReady p) (tag : U8) (ch : Fin 177)
include h

theorem exec_watch_channelByte : exec (.watch p tag (channelByte ch)) s = .next ((s.setWatch p ch true).ok p 0x04 tag) :=
  congrArg _ (State.request_report h (by decide) tag
    (by rw [watchAction_channelByte, State.setWatch_beginRequest, Answer.report_empty]))

theorem exec_unwatch_channelByte :
    exec (.unwatch p tag (channelByte ch)) s = .next ((s.setWatch p ch false).ok p 0x05 tag) :=
  congrArg _ (State.request_report h (by decide) tag
    (by rw [watchAction_channelByte, State.setWatch_beginRequest, Answer.report_empty]))

theorem exec_inquire_channelByte :
    exec (.inquire p tag (channelByte ch)) s = .next (s.answered p 0x06 tag .ok (.inquire (s.entry ch)
      (s.recallRemaining ch) ((s.waitersOf ch).map fun w => (w.port, w.priority)))) :=
  congrArg _ (State.request_report h (by decide) tag (inquireAction_channelByte ch _))

end OnAChannel

/-- Settles O12: each of the three answers OK with the effect its lemma gives; the two clauses of INQUIRE differ in the
remaining time alone. -/
theorem watchUnwatchAndInquire : Obligations.WatchUnwatchAndInquire := by
  intro s p x tag ch q d hready
  refine ⟨exec_watch_channelByte hready tag ch, exec_unwatch_channelByte hready tag ch, fun hrecalling => ?_, fun hother => ?_⟩
  · rw [exec_inquire_channelByte hready, State.recallRemaining_recalling hrecalling]; rfl
  · rw [exec_inquire_channelByte hready, State.recallRemaining_not_recalling hother]; rfl

/-! ## The checks as the commands answer them (01 R8) -/

section Checks

variable {s : State} {p : Port} (hready : s.portReady p) (tag : U8)
include hready

/-- Check 1, on all six requests. -/
theorem exec_unknownChannel {channel : U8} (h : 177 ≤ channel.val) (pr w : U8) (v : SetValue) :
    exec (.claim p tag channel pr w) s = .next (s.refusal p 0x01 tag .outOfRange 1 0 0)
    ∧ exec (.release p tag channel) s = .next (s.refusal p 0x02 tag .outOfRange 1 0 0)
    ∧ exec (.set p tag channel v) s = .next (s.refusal p 0x03 tag .outOfRange 1 0 0)
    ∧ exec (.watch p tag channel) s = .next (s.refusal p 0x04 tag .outOfRange 1 0 0)
    ∧ exec (.unwatch p tag channel) s = .next (s.refusal p 0x05 tag .outOfRange 1 0 0)
    ∧ exec (.inquire p tag channel) s = .next (s.refusal p 0x06 tag .outOfRange 1 0 0) :=
  ⟨congrArg _ (State.request_refuse hready _ tag rfl (claimAction_unknownChannel h p _ pr w)),
    congrArg _ (State.request_refuse hready _ tag rfl (releaseAction_unknownChannel h p _)),
    congrArg _ (State.request_refuse hready _ tag rfl (setAction_unknownChannel h p _ v)),
    congrArg _ (State.request_refuse hready _ tag rfl (watchAction_unknownChannel h p _ true)),
    congrArg _ (State.request_refuse hready _ tag rfl (watchAction_unknownChannel h p _ false)),
    congrArg _ (State.request_refuse hready _ tag rfl (inquireAction_unknownChannel h _))⟩

variable (ch : Fin 177) {pr w : U8}

/-- Check 2 on the priority, whatever the wait flag (log 8). -/
theorem exec_claim_priorityOutOfRange (hpr : 3 < pr.val) :
    exec (.claim p tag (channelByte ch) pr w) s = .next (s.refusal p 0x01 tag .outOfRange 2 0 0) :=
  congrArg _ (State.request_refuse hready _ tag rfl (by rw [claimAction_channelByte, if_pos hpr]))

/-- Check 2 on the wait flag. -/
theorem exec_claim_waitOutOfRange (hpr : pr.val ≤ 3) (hw : 1 < w.val) :
    exec (.claim p tag (channelByte ch) pr w) s = .next (s.refusal p 0x01 tag .outOfRange 3 0 0) :=
  congrArg _ (State.request_refuse hready _ tag rfl
    (by rw [claimAction_channelByte, if_neg (Nat.not_lt.mpr hpr), if_pos hw]))

/-- Check 3 on CLAIM. -/
theorem exec_claim_setup (hpr : pr.val ≤ 3) (hw : w.val ≤ 1) (hmode : s.unit.mode = .setup) :
    exec (.claim p tag (channelByte ch) pr w) s = .next (s.refused p 0x01 tag .wrongMode) :=
  congrArg _ (State.request_refuse hready _ tag rfl
    (by rw [claimAction_channelByte, if_neg (Nat.not_lt.mpr hpr), if_neg (Nat.not_lt.mpr hw), State.beginRequest_unit,
      if_pos hmode]))

/-- Check 3 on RELEASE. -/
theorem exec_release_setup (hmode : s.unit.mode = .setup) :
    exec (.release p tag (channelByte ch)) s = .next (s.refused p 0x02 tag .wrongMode) :=
  congrArg _ (State.request_refuse hready _ tag rfl
    (by rw [releaseAction_channelByte, State.beginRequest_unit, if_pos hmode]))

/-- Check 3 on SET. -/
theorem exec_set_setup (hmode : s.unit.mode = .setup) (v : SetValue) :
    exec (.set p tag (channelByte ch) v) s = .next (s.refused p 0x03 tag .wrongMode) :=
  congrArg _ (State.request_refuse hready _ tag rfl
    (by rw [setAction_channelByte, State.beginRequest_unit, if_pos hmode]))

/-- Check 4. -/
theorem exec_claim_aboveCeiling (hpr : pr.val ≤ 3) (hw : w.val ≤ 1) (hmode : s.unit.mode ≠ .setup)
    (hceiling : (s.rights p).ceiling < pr.val) :
    exec (.claim p tag (channelByte ch) pr w) s = .next (s.refusal p 0x01 tag .noRight 2 0 0) :=
  congrArg _ (State.request_refuse hready _ tag rfl
    (by rw [claimAction_channelByte, if_neg (Nat.not_lt.mpr hpr), if_neg (Nat.not_lt.mpr hw), State.beginRequest_unit,
      if_neg hmode, State.rights_beginRequest, if_pos hceiling]))

end Checks

/-- Settles O6: one lemma for each check, and for the requests that pass every check in every mode the lemmas of O12. -/
theorem directoryChecks : Obligations.DirectoryChecks := by
  intro s p tag channel pr w v hready
  refine ⟨fun hunknown => exec_unknownChannel hready tag hunknown pr w v, fun hknown => ?_⟩
  obtain ⟨ch, rfl⟩ := exists_eq_channelByte hknown
  refine ⟨fun hpr _ => exec_claim_priorityOutOfRange hready tag ch hpr,
    fun hpr _ => .inl (exec_claim_priorityOutOfRange hready tag ch hpr),
    fun hpr hw => exec_claim_waitOutOfRange hready tag ch hpr hw,
    fun hmode => ⟨fun hpr hw => exec_claim_setup hready tag ch hpr hw hmode, exec_release_setup hready tag ch hmode,
      exec_set_setup hready tag ch hmode v⟩,
    fun hmode hpr hw => exec_claim_aboveCeiling hready tag ch hpr hw hmode,
    ⟨_, exec_watch_channelByte hready tag ch, State.error_answered ..⟩,
    ⟨_, exec_unwatch_channelByte hready tag ch, State.error_answered ..⟩,
    ⟨_, exec_inquire_channelByte hready tag ch, State.error_answered ..⟩⟩

end Sys2Proof.Machine

/-!
# The Safety Supervisor: FREEZE and THAW

What a request leaves that is ACCEPTED, and a notice beside a request in progress; then what FREEZE and THAW answer in each
state of the freeze record; then O47.
-/

namespace Sys2Proof.Machine

/-! ## One request that is ACCEPTED or posts a notice (10 R169, R174, R176) -/

/-- A block that accepts, and whose effect does not meet the port's request in progress, leaves its effect and the answer
ACCEPTED, which carries no body. -/
theorem State.request_accepted {s t : State} {p : Port} (h : s.portReady p) {kind : Nat} (hkind : kind ≠ errorDetailKind)
    (tag : U8) {act : State → State × Answer}
    (hact : act (s.beginRequest p kind tag.val) = (t.beginRequest p kind tag.val, { status := .accepted })) :
    s.request p kind tag act = t.answered p kind tag .accepted .empty := by
  rw [State.request_of_portReady h, hact, State.respond_beginRequest]
  simp [State.respond, State.answered, Answer.responseBody, nextErrorDetail, Status.isRefusal, hkind]

/-- The queue and the lost flag stand beside the port's state: a notice joins the one and leaves the other. -/
theorem LinkPort.receive_with_state (lp : LinkPort) (st : PortState) (n : Notice) :
    ({ lp with state := st } : LinkPort).receive n = { lp.receive n with state := st } := by
  unfold LinkPort.receive
  split <;> rfl

theorem PerPort.set_comm {α : Type} (t : PerPort α) {p q : Port} (v w : α) (h : p ≠ q) :
    (t.set p v).set q w = (t.set q w).set p v := by
  cases p <;> cases q <;> simp_all [PerPort.set]

theorem State.setPort_comm (s : State) {p q : Port} (lp lq : LinkPort) (h : p ≠ q) :
    (s.setPort p lp).setPort q lq = (s.setPort q lq).setPort p lp := by
  simp only [State.setPort, PerPort.set_comm _ _ _ h]

/-- A notice to any port, the requesting one among them, leaves the request in progress. -/
theorem State.post_beginRequest (s : State) (p q : Port) (kind tag : Nat) (k : NoticeKind) (subject detail : Nat) :
    (s.beginRequest p kind tag).post q k subject detail = (s.post q k subject detail).beginRequest p kind tag := by
  rcases eq_or_ne p q with rfl | hpq
  · simp only [State.beginRequest, State.post, State.deliver, State.port_setPort_self, State.setPort_setPort,
      LinkPort.receive_with_state, State.setPort_clock]
  · simp only [State.beginRequest, State.post, State.deliver, State.port_setPort_ne _ _ hpq,
      State.port_setPort_ne _ _ hpq.symm, State.setPort_comm s _ _ hpq, State.setPort_clock]

/-- The freeze record stands in the Safety Supervisor and the request in progress at the port. -/
theorem State.setFreeze_beginRequest (s : State) (p : Port) (kind tag : Nat) (r : Freeze) :
    (s.beginRequest p kind tag).setFreeze r = (s.setFreeze r).beginRequest p kind tag := rfl

/-! ## The freezing port (08 R135) -/

theorem freezer_eq_some_iff {r : Freeze} {f : Port} :
    freezer r = some f ↔ r = .requested f ∨ r = .inEffect f ∨ r = .thawRequested f := by
  cases r <;> simp [freezer]

/-! ## FREEZE (R149) -/

section FreezeAction

variable (s : State) {p : Port}

theorem freezeAction_noRight (hright : (s.rights p).freeze = false) : freezeAction p s = (s, .refuse .noRight) :=
  if_pos hright

variable (hright : (s.rights p).freeze = true)
include hright

theorem freezeAction_none (hr : s.safety.freeze = .none) :
    freezeAction p s = (s.setFreeze (.requested p), { status := .accepted }) := by
  simp [freezeAction, hright, hr]

/-- The freezing port's own freeze, asked for or in effect, stands. -/
theorem freezeAction_standing (hr : s.safety.freeze = .requested p ∨ s.safety.freeze = .inEffect p) :
    freezeAction p s = (s, .ok) := by
  rcases hr with hr | hr <;> simp [freezeAction, hright, hr]

/-- The freezing port takes back its thaw. -/
theorem freezeAction_thawRequested (hr : s.safety.freeze = .thawRequested p) :
    freezeAction p s = (s.setFreeze (.inEffect p), .ok) := by
  simp [freezeAction, hright, hr]

/-- Another port's freeze, in any of its three states. -/
theorem freezeAction_otherPort {f : Port} (hf : freezer s.safety.freeze = some f) (hne : f ≠ p) :
    freezeAction p s = (s, .refuse .busy) := by
  rcases freezer_eq_some_iff.mp hf with hr | hr | hr <;> simp [freezeAction, hright, hr, hne]

end FreezeAction

/-! ## THAW (R150) -/

theorem State.mayThaw_iff {s : State} {p f : Port} : s.mayThaw p f = true ↔ f = p ∨ (s.rights p).safety = true := by
  rw [State.mayThaw, Bool.or_eq_true, beq_iff_eq, @eq_comm _ p f]

section ThawAction

variable (s : State) {p f : Port}

theorem thawAction_none (hr : s.safety.freeze = .none) : thawAction p s = (s, .refuse .wrongState) := by
  simp only [thawAction, hr]

/-- A port that may not thaw, at a freeze in any of its three states. -/
theorem thawAction_noRight (hf : freezer s.safety.freeze = some f) (hmay : ¬ s.mayThaw p f = true) :
    thawAction p s = (s, .refuse .noRight) := by
  rcases freezer_eq_some_iff.mp hf with hr | hr | hr <;> simp only [thawAction, hr, if_neg hmay]

variable (hmay : s.mayThaw p f = true)
include hmay

/-- A freeze not yet in effect is withdrawn at once. -/
theorem thawAction_requested (hr : s.safety.freeze = .requested f) :
    thawAction p s = ((s.setFreeze .none).post f .thawed noSubject 1, .ok) := by
  simp only [thawAction, hr, if_pos hmay]

/-- A freeze in effect waits for a frame event. -/
theorem thawAction_inEffect (hr : s.safety.freeze = .inEffect f) :
    thawAction p s = (s.setFreeze (.thawRequested f), { status := .accepted }) := by
  simp only [thawAction, hr, if_pos hmay]

theorem thawAction_thawRequested (hr : s.safety.freeze = .thawRequested f) : thawAction p s = (s, .ok) := by
  simp only [thawAction, hr, if_pos hmay]

end ThawAction

/-! ## The two commands -/

/- The rights and the freeze record are the same after `beginRequest`, by definition: a hypothesis on them at `s` serves the
action, which the request runs at `s.beginRequest`. -/
section OnTheFreezeRecord

variable {s : State} {p : Port} (hready : s.portReady p) (tag : U8)
include hready

/-- R149 for a port with the FREEZE right: the freeze record NONE, the port's own freeze, and another port's. -/
theorem exec_freeze_of_right (hright : (s.rights p).freeze = true) (f : Port) :
    (s.safety.freeze = .none →
      exec (.freeze p tag) s = .next ((s.setFreeze (.requested p)).answered p 0x52 tag .accepted .empty))
    ∧ (s.safety.freeze = .requested p ∨ s.safety.freeze = .inEffect p →
      exec (.freeze p tag) s = .next (s.ok p 0x52 tag))
    ∧ (s.safety.freeze = .thawRequested p →
      exec (.freeze p tag) s = .next ((s.setFreeze (.inEffect p)).ok p 0x52 tag))
    ∧ (f ≠ p → freezer s.safety.freeze = some f → exec (.freeze p tag) s = .next (s.refused p 0x52 tag .busy)) :=
  ⟨fun hr => congrArg _ (State.request_accepted hready (by decide) tag
      (freezeAction_none (s.beginRequest ..) hright hr)),
    fun hr => congrArg _ (State.request_report hready (by decide) tag (freezeAction_standing _ hright hr)),
    fun hr => congrArg _ (State.request_report hready (by decide) tag
      (freezeAction_thawRequested (s.beginRequest ..) hright hr)),
    fun hne hf => congrArg _ (State.request_refuse hready _ tag rfl (freezeAction_otherPort _ hright hf hne))⟩

/-- R150 for a port that may thaw: the three states of the freeze it thaws. -/
theorem exec_thaw_of_mayThaw {f : Port} (hmay : s.mayThaw p f = true) :
    (s.safety.freeze = .requested f →
      exec (.thaw p tag) s = .next (((s.setFreeze .none).post f .thawed noSubject 1).ok p 0x53 tag))
    ∧ (s.safety.freeze = .inEffect f →
      exec (.thaw p tag) s = .next ((s.setFreeze (.thawRequested f)).answered p 0x53 tag .accepted .empty))
    ∧ (s.safety.freeze = .thawRequested f → exec (.thaw p tag) s = .next (s.ok p 0x53 tag)) :=
  ⟨fun hr => congrArg _ (State.request_report hready (by decide) tag
      (by rw [thawAction_requested (s.beginRequest ..) hmay hr, State.setFreeze_beginRequest,
        State.post_beginRequest, Answer.report_empty])),
    fun hr => congrArg _ (State.request_accepted hready (by decide) tag
      (thawAction_inEffect (s.beginRequest ..) hmay hr)),
    fun hr => congrArg _ (State.request_report hready (by decide) tag (thawAction_thawRequested _ hmay hr))⟩

end OnTheFreezeRecord

/-- Settles O47: the refusals that leave every state as it stands, one action lemma each, and the rows of R149 and R150 for a
port that has the right. -/
theorem freezeAndThaw : Obligations.FreezeAndThaw := by
  intro s p f tag hready
  refine ⟨fun hright => congrArg _ (State.request_refuse hready _ tag rfl (freezeAction_noRight _ hright)),
    fun hright => ?_,
    fun hr => congrArg _ (State.request_refuse hready _ tag rfl (thawAction_none _ hr)),
    fun hne hsafety hr => ?_,
    fun hmay => exec_thaw_of_mayThaw hready tag (State.mayThaw_iff.mpr hmay)⟩
  · obtain ⟨hnone, hstanding, hback, hbusy⟩ := exec_freeze_of_right hready tag hright f
    exact ⟨hnone, hstanding, hback, fun hne hr => hbusy hne (freezer_eq_some_iff.mpr hr)⟩
  · have hmay : ¬ s.mayThaw p f = true := by simp [State.mayThaw_iff, hne, hsafety]
    exact congrArg _ (State.request_refuse hready _ tag rfl (thawAction_noRight _ (freezer_eq_some_iff.mpr hr) hmay))

end Sys2Proof.Machine

/-!
# The link ports: notices, NOTICE_READ and IDENTIFY

What a posting does to each port and when the attention line is asserted; the port NOTICE_READ leaves; the bytes of the two
bodies; then O59.
-/

namespace Sys2Proof.Machine

/-! ## Posting and the attention line (10 R176) -/

/-- A queue with room takes the notice at its tail. -/
theorem LinkPort.receive_of_room {lp : LinkPort} (h : lp.notices.length < 32) (n : Notice) :
    lp.receive n = { lp with notices := lp.notices ++ [n] } := by
  rcases lp.receive_cases n with ⟨-, e⟩ | ⟨hfull, -⟩
  · exact e
  · omega

/-- A full queue stands, and the lost-notice flag says that a notice was discarded. -/
theorem LinkPort.receive_of_full {lp : LinkPort} (h : 32 ≤ lp.notices.length) (n : Notice) :
    lp.receive n = { lp with lost := true } := by
  rcases lp.receive_cases n with ⟨hroom, -⟩ | ⟨-, e⟩
  · omega
  · exact e

/-- A posting to a set reaches the ports of the set, each once, and no other. -/
theorem State.port_postTo (s : State) (ports : PortSet) (k : NoticeKind) (subject detail : Nat) (q : Port) :
    (s.postTo ports k subject detail).port q =
      if ports.get q then (s.port q).receive ⟨k, subject, detail, s.clock.value, .none⟩ else s.port q := by
  rw [State.postTo_eq]
  cases q <;> rfl

theorem State.postAud_of_holder {s : State} {q : Port} (h : s.audHolder = some q) (k : NoticeKind) (detail : Nat) :
    s.postAud k detail = s.post q k 176 detail := by
  simp only [State.postAud, h]

theorem State.postAud_of_no_holder {s : State} (h : s.audHolder = none) (k : NoticeKind) (detail : Nat) :
    s.postAud k detail = s := by
  simp only [State.postAud, h]

theorem State.attention_iff (s : State) (p : Port) : s.attention p = true ↔ (s.port p).notices ≠ [] := by
  simp [State.attention]

/-! ## NOTICE_READ (10 R177) -/

/-- The flag outlasts the read exactly where it was set and notices remain. -/
theorem LinkPort.lost_afterRead (lp : LinkPort) :
    lp.afterRead.lost = (lp.lost && decide (lp.notices.drop 8 ≠ [])) := by
  simp only [LinkPort.afterRead, Config.noticesPerRead, List.isEmpty_iff]
  split
  · next hempty => rw [decide_eq_false (not_not_intro hempty), Bool.and_false]
  · next hremain => rw [decide_eq_true hremain, Bool.and_true]

/-- The read takes notices and the flag; the request in progress stands in the port's state. -/
theorem noticeReadAction_beginRequest (s : State) (p : Port) (kind tag : Nat) :
    noticeReadAction p (s.beginRequest p kind tag) = ((s.setPort p (s.port p).afterRead).beginRequest p kind tag,
      .report (.notices (s.port p).lost ((s.port p).notices.take 8))) := by
  simp only [noticeReadAction, State.beginRequest, State.port_setPort_self, State.setPort_setPort]
  rfl

/-! ## The two commands -/

section AtAReadyPort

variable {s : State} {p : Port} (hready : s.portReady p) (tag : U8)
include hready

/-- R177: the eight oldest and the flag as it stood are reported, and the port keeps what is left after the read. -/
theorem exec_noticeRead : exec (.noticeRead p tag) s = .next ((s.setPort p (s.port p).afterRead).answered p 0x71 tag .ok
    (.notices (s.port p).lost ((s.port p).notices.take 8))) :=
  congrArg _ (State.request_report hready (by decide) tag (noticeReadAction_beginRequest s p _ _))

theorem exec_identify : exec (.identify p tag) s = .next (s.answered p 0x72 tag .ok (.identity p)) :=
  congrArg _ (State.request_report hready (by decide) tag rfl)

end AtAReadyPort

/-- The answer to NOTICE_READ field by field: the port's new record replaces the old one. -/
theorem State.answered_afterRead (s : State) (p : Port) (kind : Nat) (tag : U8) (body : Body) :
    (s.setPort p (s.port p).afterRead).answered p kind tag .ok body = s.setPort p
      ⟨.answering kind tag.val ⟨.ok, body⟩, none, (s.port p).notices.drop 8,
        (s.port p).lost && decide ((s.port p).notices.drop 8 ≠ []), (s.port p).resetHeld⟩ := by
  simp only [State.answered, State.port_setPort_self, State.setPort_setPort, LinkPort.lost_afterRead]
  rfl

/-! ## The bytes of the two bodies (10 R170, R175, R179) -/

theorem Body.bytes_notices (lost : Bool) (l : List Notice) :
    (Body.notices lost l).bytes = BitVec.ofNat 8 l.length :: (if lost then 1 else 0) :: (l.map Notice.bytes).flatten := by
  cases lost <;> rfl

/-- Eight bytes of kind, subject, detail and clock, and four extra bytes whatever the kind carries. -/
theorem Notice.length_bytes (n : Notice) : n.bytes.length = 12 := by
  obtain ⟨kind, subject, detail, clock, extra⟩ := n
  cases extra <;> rfl

theorem Body.bytes_identity (p : Port) :
    (Body.identity p).bytes =
      [0x06, 0x20, 1, 177, 16, 0x08, 0x00, 4, 48, 32, 32, if p = .a then 0 else if p = .b then 1 else 2] := by
  cases p <;> rfl

/-- Settles O59: a posting by the room in the queue, the ports it reaches, the two commands at a port that takes them, and
the bytes of what they report. -/
theorem noticesAndIdentify : Obligations.NoticesAndIdentify := by
  intro s p q ports tag lost l lp x kind subject detail extra
  exact ⟨fun hroom => LinkPort.receive_of_room hroom x, fun hfull => LinkPort.receive_of_full hfull x, rfl,
    s.postTo_only ports kind subject detail, s.port_postTo ports kind subject detail q, rfl,
    fun hholder => State.postAud_of_holder hholder kind detail,
    fun hnone => State.postAud_of_no_holder hnone kind detail,
    s.attention_iff p,
    fun hready => (exec_noticeRead hready tag).trans (congrArg _ (s.answered_afterRead p 0x71 tag _)),
    Body.bytes_notices lost l, fun n _ => n.length_bytes,
    fun hready => exec_identify hready tag, Body.bytes_identity p⟩

end Sys2Proof.Machine

/-!
# What a command can do

Every command is a course of effects: actions of one block each, a posting or a change of a port beside them, and the idle
condition evaluated where the command asks for it. The invariants of the later parts are proved of each effect.
-/

namespace Sys2Proof.Machine

open Relation (ReflTransGen)

/-! ## The effects -/

/-- The four ways a transmission ends on its node's record (07 R124). -/
inductive EndOfTransmission : (State → Transmission → State) → Prop
  | ack (body : AckBody) : EndOfTransmission (State.endAck body)
  | busy : EndOfTransmission State.endBusy
  | ident (ty : U8) : EndOfTransmission (State.endIdent ty)
  | miss : EndOfTransmission State.endMiss

/-- The manner of an effect: one after which the idle condition is evaluated with the rest of its command; one that sets the show
clock back, or clears it, while no track moves; one that settles the idle timer itself. -/
inductive Manner
  | plain | restart | own

/-- One action of a block, with what the checks before it have established, and its manner. -/
inductive Effect : Manner → State → State → Prop
  | port {s : State} (p : Port) (lp : LinkPort) (h : lp.notices.length ≤ (s.port p).notices.length) : Effect .plain s (s.setPort p lp)
  | deliver {s : State} (p : Port) (n : Notice) : Effect .plain s (s.deliver p n)
  | drawFree {s : State} (k : Nat) : Effect .plain s { s with freeCount := k }
  | claim {s : State} (p : Port) (ch : Fin 177) (q : Nat) (wait : Bool) (h : s.unit.mode ≠ .setup) :
      Effect .plain s (s.claimChannel p ch q wait).1
  | release {s : State} (p : Port) (ch : Fin 177) : Effect .plain s (s.releaseChannel p ch).1
  | stage {s : State} (p : Port) (ch : Fin 177) (v : Setpoint) : Effect .plain s (s.stage p ch v).1
  | watch {s : State} (p : Port) (ch : Fin 177) (on : Bool) : Effect .plain s (s.setWatch p ch on)
  | expireRecall {s : State} (ch : Fin 177) : Effect .plain s (s.expireRecall ch)
  | beginRange {s : State} (r : RangeRecord) (h : r.op.needsMode = true → s.unit.mode ≠ .setup) :
      Effect .plain s { s with range := { s.range with active := some r } }
  | endRange {s : State} (r : RangeRecord) (e : EndReason) : Effect .plain s (s.endRange r e)
  | rangeStep {s : State} (r : RangeRecord) (h : s.range.active = some r) : Effect .plain s (s.rangeStep r)
  | load {s : State} (p : Port) (start : Nat) (records : List CueRecord) :
      Effect .plain s { s with cues := (loadRecords (s.rights p) s.cues start records).1 }
  | arm {s : State} (t : Fin 4) (p : Port) (cue : Nat) (mode : s.unit.mode ≠ .setup)
      (window : (s.rights p).inWindow cue = true) : Effect .plain s (s.setTrack t (some ⟨p, cue, [], noReasons, .armed⟩))
  | retime {s : State} (t : Fin 4) (b : TrackBody) (r : PauseReasons) (phase : Phase) (track : s.track t = some b)
      (h : phase = b.phase ∨ (∃ n, phase = .paused n) ∨ ∃ n, phase = s.runningAt n) :
      Effect .plain s (s.setTrack t (some { b with reasons := r, phase := phase }))
  | idle {s : State} (t : Fin 4) : Effect .plain s (s.setTrack t none)
  | due {s : State} (t : Fin 4) : Effect .plain s (s.takeDue t)
  | startClock {s : State} (source : Source) (point : U32) (live : s.unit.mode = .live)
      (still : s.anyTrackMoves = false) : Effect .restart s (s.setClock (s.clock.start source point.val)).meetStart
  | stopClock {s : State} (still : s.anyTrackMoves = false) : Effect .plain s (s.setClock s.clock.stop)
  | block {s : State} (p : Port) (start : U32) (count marker offset : U8) (reserved : List Byte)
      (frames : List (Sample × Sample)) : Effect .plain s (audioBlockAction p start count marker offset reserved frames s).1
  | clockTick {s : State} : Effect .plain s s.clockTick
  | audioFrame {s : State} : Effect .plain s s.audioFrame
  | coastTick {s : State} : Effect .plain s s.coastTick
  | supervise {s : State} (r : Supervisor) (state : r.state = s.safety.state) (causes : r.causes = s.safety.causes)
      (first : r.first = s.safety.first) (freeze : r.freeze = s.safety.freeze)
      (edge : r.intrusionPending = s.safety.intrusionPending ∨ Cause.intrusion ∈ r.causes) : Effect .plain s (s.setSafety r)
  | cause {s : State} (c : Cause) (h : c ∉ s.safety.causes) : Effect .plain s (s.addCause c)
  | freezeRecord {s : State} (f : Freeze) (h : f.isInEffect = s.safety.freeze.isInEffect) : Effect .plain s (s.setFreeze f)
  | acknowledge {s : State} (p : Port) : Effect .plain s (safetyAckAction p s).1
  | reply {s : State} {act : State → Transmission → State} (h : EndOfTransmission act) : Effect .plain s (s.endTransmission act)
  | overrun {s : State} (b : Bool) : Effect .plain s (s.setSweep { s.sweep with overrun := b })
  | write {s : State} (table : Nat) (bytes : List Byte) (index : Nat) (e : ConfigEntry) (mode : s.unit.mode = .setup)
      (parsed : parseEntry table bytes = .ok e) (safety : (s.config.put index e).keepsSafety = true) :
      Effect .plain s (s.writeEntry index e)
  | save {s : State} (p : Port) (mode : s.unit.mode = .setup) : Effect .plain s (s.setUnit { s.unit with saving := some p })
  | saved {s : State} (i : Image) : Effect .plain s (State.setUnit { s with image := i } { s.unit with saving := none })
  | leaveSetup {s : State} (saving : s.unit.saving = none) (valid : s.config.validate = none)
      (mode : s.unit.mode = .setup) : Effect .plain s s.leaveSetup
  | enterSetup {s : State} (mode : s.unit.mode = .dark) (rest : s.shaper.outputsAtRest = true) : Effect .plain s s.enterSetup
  | goLive {s : State} (mode : s.unit.mode = .dark) : Effect .plain s s.goLive
  | goDark {s : State} (detail : Nat) (mode : s.unit.mode = .live)
      (stopped : s.clock.run = .stopped) : Effect .plain s (s.goDark detail)
  | showReset {s : State} : Effect .restart s s.showReset
  | expireIdle {s : State} (mode : s.unit.mode = .live) (timer : s.unit.idleDeadline.isSome = true) : Effect .own s (s.goDark 3)
  | frame {s : State} : Effect .own s s.frame
  | powerOn {s : State} (estop : Bool) (held : PerPort Bool) : Effect .own s (s.powerOn estop held)

/-- Plain effects one after another. -/
abbrev Effects : State → State → Prop := ReflTransGen (Effect .plain)

/-- Nothing that the idle condition and its timer rest on has changed (09 R165). -/
def IdleUnmoved (s t : State) : Prop :=
  t.unit.mode = s.unit.mode ∧ t.unit.idleDeadline = s.unit.idleDeadline ∧ t.tracks = s.tracks
    ∧ t.clock.run = s.clock.run ∧ t.shaper.jetsStill = s.shaper.jetsStill

/-- One stage of a command: an effect that leaves the idle condition alone, effects after which it is evaluated, or one of the
two commands that settle it themselves. -/
inductive Stage : State → State → Prop
  | quiet {s t : State} (e : Effect .plain s t) (q : IdleUnmoved s t) : Stage s t
  | settle {s t : State} (e : Effects s t) : Stage s (settleIdle s t)
  | idleExpiry {s : State} (mode : s.unit.mode = .live) (timer : s.unit.idleDeadline.isSome = true) : Stage s (s.goDark 3)
  | frame (s : State) : Stage s s.frame

/-- A stage that sets the show clock back or clears it: CLOCK_RUN, a show reset and power-on reset. -/
inductive Restart : State → State → Prop
  | settled {s t : State} (e : Effect .restart s t) : Restart s (settleIdle s t)
  | powerOn (s : State) (estop : Bool) (held : PerPort Bool) : Restart s (s.powerOn estop held)

/-- Stages one after another, none of them a restart. -/
abbrev Course : State → State → Prop := ReflTransGen Stage

/-- The run of a command: a course, or one with a restart in it, after which no track changes. -/
inductive Run : State → State → Prop
  | steady {s t : State} (h : Course s t) : Run s t
  | restarted {s u v t : State} (before : Course s u) (e : Restart u v) (after : Course v t) (tracks : t.tracks = v.tracks) :
      Run s t

/-- What every stage keeps, every course keeps. -/
theorem Course.keeps {P : State → Prop} (stage : ∀ {s t}, Stage s t → P s → P t) {s t : State} (h : Course s t) (hs : P s) :
    P t := by
  induction h with
  | refl => exact hs
  | tail _ e ih => exact stage e ih

/-- What every effect keeps, every sequence of effects keeps. -/
theorem Effects.keeps {P : State → Prop} (effect : ∀ {s t}, Effect .plain s t → P s → P t) {s t : State} (h : Effects s t)
    (hs : P s) : P t := by
  induction h with
  | refl => exact hs
  | tail _ e ih => exact effect e ih

/-- What every stage and every restart keeps, every run keeps. -/
theorem Run.keeps {P : State → Prop} (stage : ∀ {s t}, Stage s t → P s → P t) (restart : ∀ {s t}, Restart s t → P s → P t)
    {s t : State} (h : Run s t) (hs : P s) : P t := by
  cases h with
  | steady h => exact h.keeps stage hs
  | restarted before e after => exact after.keeps stage (restart e (before.keeps stage hs))

section
variable {P : State → Prop} (effect : ∀ {b s t}, Effect b s t → P s → P t)
  (timer : ∀ s d, P s → P (s.setUnit { s.unit with idleDeadline := d }))
include effect timer

/-- What every effect keeps, whatever the idle timer shows, every stage keeps. -/
theorem Stage.keeps_of_effects {s t : State} (h : Stage s t) (hs : P s) : P t := by
  cases h with
  | quiet e _ => exact effect e hs
  | settle e => rw [settleIdle_only]; exact timer _ _ (Effects.keeps effect e hs)
  | idleExpiry mode timer => exact effect (.expireIdle mode timer) hs
  | frame => exact effect .frame hs

theorem Restart.keeps_of_effects {s t : State} (h : Restart s t) (hs : P s) : P t := by
  cases h with
  | settled e => rw [settleIdle_only]; exact timer _ _ (effect e hs)
  | powerOn => exact effect (.powerOn _ _) hs

/-- What every effect keeps, whatever the idle timer shows, every run keeps. -/
theorem Run.keeps_of_effects {s t : State} (h : Run s t) (hs : P s) : P t :=
  h.keeps (Stage.keeps_of_effects effect timer) (Restart.keeps_of_effects effect timer) hs

end

/-! ## Where the idle condition is left alone -/

theorem IdleUnmoved.rfl' (s : State) : IdleUnmoved s s := ⟨rfl, rfl, rfl, rfl, rfl⟩

theorem IdleUnmoved.trans {s t u : State} (h : IdleUnmoved s t) (k : IdleUnmoved t u) : IdleUnmoved s u := by
  obtain ⟨h1, h2, h3, h4, h5⟩ := h
  obtain ⟨k1, k2, k3, k4, k5⟩ := k
  exact ⟨k1.trans h1, k2.trans h2, k3.trans h3, k4.trans h4, k5.trans h5⟩

theorem OnlyDirectory.idleUnmoved {s t : State} (h : OnlyDirectory s t) : IdleUnmoved s t := by
  rw [OnlyDirectory] at h; rw [h]; exact .rfl' s

/-- Nothing but the Directory, the Range Engine and the ports differs. -/
def OnlyRanges (s t : State) : Prop := t = { s with directory := t.directory, range := t.range, ports := t.ports }

theorem OnlyRanges.trans {s t u : State} (h : OnlyRanges s t) (k : OnlyRanges t u) : OnlyRanges s u := by
  unfold OnlyRanges at *; rw [k, h]

theorem OnlyDirectory.ranges {s t : State} (h : OnlyDirectory s t) : OnlyRanges s t := by
  unfold OnlyDirectory OnlyRanges at *; rw [h]

theorem OnlyRanges.idleUnmoved {s t : State} (h : OnlyRanges s t) : IdleUnmoved s t := by
  rw [OnlyRanges] at h; rw [h]; exact .rfl' s

theorem State.setRange_ranges (s : State) (r : RangeEngine) : OnlyRanges s { s with range := r } := rfl

theorem State.endRange_ranges (s : State) (r : RangeRecord) (e : EndReason) : OnlyRanges s (s.endRange r e) := rfl

theorem State.rangeStep_ranges (s : State) (r : RangeRecord) : OnlyRanges s (s.rangeStep r) := by
  unfold State.rangeStep
  split
  · next h =>
    have acted := (s.rangeAct_only r.issuer r.op ⟨r.next, h⟩).ranges
    have counted := acted.trans (State.setRange_ranges _
      { (s.rangeAct r.issuer r.op ⟨r.next, h⟩).1.range with active := some (r.tally (s.rangeAct r.issuer r.op ⟨r.next, h⟩).2) })
    dsimp only
    split
    · exact counted.trans (State.endRange_ranges _ _ _)
    · exact counted
  · rfl

theorem State.returnToNormal_idleUnmoved (s : State) : IdleUnmoved s s.returnToNormal := by
  have left : IdleUnmoved s (s.setSafety { s.safety with state := .normal, first := none, further := false }) := .rfl' s
  exact left.trans ((State.directorySafetyExit_only _).trans (State.tellSafety_only _ 0).directory).idleUnmoved

theorem safetyAckAction_idleUnmoved (p : Port) (s : State) : IdleUnmoved s (safetyAckAction p s).1 := by
  unfold safetyAckAction
  split
  · exact .rfl' s
  · split
    · exact .rfl' s
    · have heard : IdleUnmoved s (s.setSafety s.safety.acknowledged) := .rfl' s
      dsimp only
      split
      · exact heard.trans (State.returnToNormal_idleUnmoved _)
      · exact heard

/-! ## Requests -/

theorem Course.quiet {s t : State} (e : Effect .plain s t) (q : IdleUnmoved s t) : Course s t := .single (.quiet e q)

theorem Course.settle {s t : State} (e : Effects s t) : Course s (settleIdle s t) := .single (.settle e)

theorem State.beginRequest_course (s : State) (p : Port) (kind tag : Nat) : Course s (s.beginRequest p kind tag) :=
  .quiet (.port p _ (le_refl _)) (.rfl' s)

theorem State.respond_course (s : State) (p : Port) (kind tag : Nat) (a : Answer) : Course s (s.respond p kind tag a) :=
  .quiet (.port p _ (le_refl _)) (.rfl' s)

/-- A request runs the course of its block between two changes of the port's state. -/
theorem State.request_course (s : State) (p : Port) (kind : Nat) (tag : U8) {act : State → State × Answer}
    (h : ∀ u, Course u (act u).1) : Course s (s.request p kind tag act) := by
  rcases s.request_cases p kind tag act with ⟨-, e⟩ | ⟨-, e⟩
  · rw [e]
  · rw [e]
    exact ((s.beginRequest_course p kind tag.val).trans (h _)).trans (State.respond_course _ _ _ _ _)

/-- A request whose block evaluates the idle condition after its effects. -/
theorem State.settledRequest_course (s : State) (p : Port) (kind : Nat) (tag : U8) {act : State → State × Answer}
    (h : ∀ u, Effects u (act u).1) : Course s (s.request p kind tag (settled act)) :=
  s.request_course p kind tag fun u => .settle (h u)

/-- A request whose block changes nothing, or restarts and evaluates the idle condition. -/
theorem State.restartingRequest_run (s : State) (p : Port) (kind : Nat) (tag : U8) {act : State → State × Answer}
    (h : ∀ u, (act u).1 = u ∨ Effect .restart u (act u).1) : Run s (s.request p kind tag (settled act)) := by
  rcases s.request_cases p kind tag (settled act) with ⟨-, e⟩ | ⟨-, e⟩
  · rw [e]; exact .steady .refl
  · rw [e]
    have begun := s.beginRequest_course p kind tag.val
    rcases h (s.beginRequest p kind tag.val) with same | restart
    · refine .steady ((begun.trans (Course.settle ?_)).trans (State.respond_course _ _ _ _ _))
      rw [same]
    · exact .restarted begun (.settled restart) (State.respond_course _ _ _ _ _) rfl

/-! ### The Channel Directory -/

theorem claimAction_course (p : Port) (channel pr w : U8) (s : State) : Course s (claimAction p channel pr w s).1 := by
  unfold claimAction
  split_ifs with h1 h2 h3 h4 h5
  any_goals exact .refl
  exact .quiet (.claim p _ _ _ h4) (s.claimChannel_only p _ _ _).idleUnmoved

theorem releaseAction_course (p : Port) (channel : U8) (s : State) : Course s (releaseAction p channel s).1 := by
  unfold releaseAction
  split_ifs
  any_goals exact .refl
  exact .quiet (.release p _) (s.releaseChannel_only p _).idleUnmoved

theorem setAction_course (p : Port) (channel : U8) (v : SetValue) (s : State) : Course s (setAction p channel v s).1 := by
  unfold setAction
  split_ifs
  any_goals exact .refl
  exact .quiet (.stage p _ _) (s.stage_only p _ _).idleUnmoved

theorem watchAction_course (p : Port) (channel : U8) (on : Bool) (s : State) : Course s (watchAction p channel on s).1 := by
  unfold watchAction
  split_ifs
  · exact .quiet (.watch p _ on) (.rfl' s)
  · exact .refl

theorem inquireAction_state (channel : U8) (s : State) : (inquireAction channel s).1 = s := by
  unfold inquireAction; split_ifs <;> rfl

/-! ### The Range Engine and the cue store -/

theorem rangeAction_course (p : Port) (op first count pr : U8) (v : SetValue) (s : State) :
    Course s (rangeAction p op first count pr v s).1 := by
  unfold rangeAction
  split
  · exact .refl
  · next o _ =>
    split_ifs with h1 h2 h3 h4 h5 h6
    any_goals exact .refl
    exact .quiet (.beginRange _ fun hn hm => h4 ⟨hn, hm⟩) (.rfl' s)

theorem rangeStopAction_course (p : Port) (s : State) : Course s (rangeStopAction p s).1 := by
  unfold rangeStopAction
  split
  · exact .refl
  · split_ifs
    · exact .quiet (.endRange _ _) (.rfl' s)
    · exact .refl

theorem State.stepIf_course (s : State) (isOp : RangeOp → Bool) : Course s (s.stepIf isOp) := by
  unfold State.stepIf
  split
  · next r h =>
    split_ifs
    · exact .quiet (.rangeStep r h) (s.rangeStep_ranges r).idleUnmoved
    · exact .refl
  · exact .refl

theorem cueLoadAction_course (p : Port) (start : U16) (count : U8) (records : List CueRecord) (s : State) :
    Course s (cueLoadAction p start count records s).1 := by
  have load : Course s { s with cues := (loadRecords (s.rights p) s.cues start.val records).1 } :=
    .quiet (.load p start.val records) (.rfl' s)
  unfold cueLoadAction
  split_ifs
  · exact .refl
  · dsimp only; split <;> exact load
  · exact .refl

theorem cueReadAction_state (start : U16) (count : U8) (s : State) : (cueReadAction start count s).1 = s := by
  unfold cueReadAction; dsimp only; split_ifs <;> rfl

/-! ### The tracks -/

theorem State.tellTrack_effect (s : State) (t : Fin 4) (p : Port) (detail : Nat) : Effect .plain s (s.tellTrack t p detail) :=
  .deliver p _

theorem State.setRunning_effects {s : State} {t : Fin 4} {b : TrackBody} (h : s.track t = some b) (n : Nat) :
    Effects s (s.setRunning t b n) :=
  (ReflTransGen.single (.retime t b noReasons _ h (.inr (.inr ⟨n, rfl⟩)))).tail (State.tellTrack_effect _ _ _ _)

theorem State.setPaused_effects {s : State} {t : Fin 4} {b : TrackBody} (h : s.track t = some b) (r : PauseReasons) (n : Nat) :
    Effects s (s.setPaused t b r n) :=
  (ReflTransGen.single (.retime t b r _ h (.inr (.inl ⟨n, rfl⟩)))).tail (State.tellTrack_effect _ _ _ _)

/-- A change of the pause reasons alone. -/
theorem State.setReasons_effects {s : State} {t : Fin 4} {b : TrackBody} (h : s.track t = some b) (r : PauseReasons) :
    Effects s (s.setTrack t (some { b with reasons := r })) :=
  .single (.retime t b r b.phase h (.inl rfl))

/-- A check that refuses and changes nothing stands before what follows it. -/
theorem Effects.unless {s : State} {c : Prop} [Decidable c] {a : Answer} {r : State × Answer} (h : ¬c → Effects s r.1) :
    Effects s (if c then (s, a) else r).1 := by
  split_ifs with hc
  · exact .refl
  · exact h hc

/-- A check that lets an action through, or refuses and changes nothing. -/
theorem Effects.provided {s : State} {c : Prop} [Decidable c] {a : Answer} {r : State × Answer} (h : c → Effects s r.1) :
    Effects s (if c then r else (s, a)).1 := by
  split_ifs with hc
  · exact h hc
  · exact .refl

/-! The five requests of a track that exists, as their rules write them. -/

theorem trackArmAction_trackByte (p : Port) (t : Fin 4) (cue : U16) (s : State) :
    trackArmAction p (trackByte t) cue s =
      if cue.val > 2047 then (s, .refuse .outOfRange 2)
      else if trackAdmits p (s.track t) = false then (s, .refuse .noRight 1)
      else if s.unit.mode = .setup then (s, .refuse .wrongMode)
      else
        match trackName (s.track t) with
        | .idle =>
          if (s.rights p).inWindow cue.val
          then ((s.setTrack t (some ⟨p, cue.val, [], noReasons, .armed⟩)).tellTrack t p 1, .ok)
          else (s, .refuse .noRight 2)
        | .faulted =>
          if (s.rights p).inWindow cue.val
          then ((s.setTrack t (some ⟨p, cue.val, [], noReasons, .armed⟩)).tellTrack t p 1, .ok)
          else (s, .refuse .noRight 2)
        | .armed =>
          if (s.rights p).inWindow cue.val then (s.setTrack t (some ⟨p, cue.val, [], noReasons, .armed⟩), .ok)
          else (s, .refuse .noRight 2)
        | _ => (s, .refuse .wrongState 1) := by
  refine (dif_pos t.isLt).trans ?_
  cases h : trackName (s.track t) <;> simp only [trackByte, h]

theorem trackStartAction_trackByte (p : Port) (t : Fin 4) (s : State) :
    trackStartAction p (trackByte t) s =
      if trackAdmits p (s.track t) = false then (s, .refuse .noRight 1)
      else if s.unit.mode ≠ .live then (s, .refuse .wrongMode)
      else
        match s.track t with
        | none => (s, .refuse .wrongState 1)
        | some b =>
          if b.phase = .armed then
            if s.showCanMove then (s.setRunning t b (s.clock.value + s.cueDelta b), .ok) else (s, .refuse .wrongState)
          else (s, .refuse .wrongState 1) := by
  refine (dif_pos t.isLt).trans ?_
  rcases h : s.track t with _ | ⟨owner, cue, stack, reasons, phase⟩
  · simp only [trackByte, h]
  · cases phase <;> simp [trackByte, h]

theorem trackPauseAction_trackByte (p : Port) (t : Fin 4) (s : State) :
    trackPauseAction p (trackByte t) s =
      if trackAdmits p (s.track t) = false then (s, .refuse .noRight 1)
      else
        match s.track t with
        | none => (s, .refuse .wrongState 1)
        | some b =>
          match b.phase with
          | .running nextDue _ => (s.setPaused t b { b.reasons with owner := true } (nextDue - s.clock.value), .ok)
          | .waiting _ => (s.setTrack t (some { b with reasons := { b.reasons with owner := true } }), .ok)
          | .paused _ => (s.setTrack t (some { b with reasons := { b.reasons with owner := true } }), .ok)
          | _ => (s, .refuse .wrongState 1) := by
  refine (dif_pos t.isLt).trans ?_
  rcases h : s.track t with _ | ⟨owner, cue, stack, reasons, phase⟩
  · simp only [trackByte, h]
  · cases phase <;> simp only [trackByte, h]

theorem trackResumeAction_trackByte (p : Port) (t : Fin 4) (s : State) :
    trackResumeAction p (trackByte t) s =
      if trackAdmits p (s.track t) = false then (s, .refuse .noRight 1)
      else if s.unit.mode ≠ .live then (s, .refuse .wrongMode)
      else
        match s.track t with
        | none => (s, .refuse .wrongState 1)
        | some b =>
          if trackName (some b) ∈ [.running, .waiting, .paused] then
            if s.showCanMove then (s.resumeTrack t b, .ok) else (s, .refuse .wrongState)
          else (s, .refuse .wrongState 1) := by
  refine (dif_pos t.isLt).trans ?_
  rcases h : s.track t with _ | ⟨owner, cue, stack, reasons, phase⟩
  · simp only [trackByte, h]
  · cases phase <;> simp [trackByte, trackName, h]

theorem trackStopAction_trackByte (p : Port) (t : Fin 4) (s : State) :
    trackStopAction p (trackByte t) s =
      match s.track t with
      | none => (s, .refuse .wrongState 1)
      | some b =>
        if b.owner = p ∨ (s.rights p).safety = true then ((s.setTrack t none).tellTrack t b.owner 0, .ok)
        else (s, .refuse .noRight 1) := by
  refine (dif_pos t.isLt).trans ?_
  rcases h : s.track t with _ | b <;> simp only [trackByte, h]

/-- A track field below 4 names a track. -/
theorem exists_eq_trackByte {track : U8} (h : track.val < 4) : ∃ t : Fin 4, track = trackByte t :=
  ⟨⟨track.val, h⟩, rfl⟩

theorem trackArmAction_effects (p : Port) (track : U8) (cue : U16) (s : State) :
    Effects s (trackArmAction p track cue s).1 := by
  by_cases ht : track.val < 4
  · obtain ⟨t, rfl⟩ := exists_eq_trackByte ht
    rw [trackArmAction_trackByte]
    refine .unless fun _ => .unless fun _ => .unless fun hm => ?_
    have arm := fun w => ReflTransGen.single (Effect.arm (s := s) t p cue.val hm w)
    split
    · exact .provided fun w => (arm w).tail (State.tellTrack_effect _ _ _ _)
    · exact .provided fun w => (arm w).tail (State.tellTrack_effect _ _ _ _)
    · exact .provided arm
    · exact .refl
  · rw [trackArmAction, dif_neg ht]

theorem trackStartAction_effects (p : Port) (track : U8) (s : State) : Effects s (trackStartAction p track s).1 := by
  by_cases ht : track.val < 4
  · obtain ⟨t, rfl⟩ := exists_eq_trackByte ht
    rw [trackStartAction_trackByte]
    refine .unless fun _ => .unless fun _ => ?_
    split
    · exact .refl
    · next b h => exact .provided fun _ => .provided fun _ => State.setRunning_effects h _
  · rw [trackStartAction, dif_neg ht]

theorem trackPauseAction_effects (p : Port) (track : U8) (s : State) : Effects s (trackPauseAction p track s).1 := by
  by_cases ht : track.val < 4
  · obtain ⟨t, rfl⟩ := exists_eq_trackByte ht
    rw [trackPauseAction_trackByte]
    refine .unless fun _ => ?_
    split
    · exact .refl
    · next b h =>
      split
      · exact State.setPaused_effects h _ _
      · exact State.setReasons_effects h _
      · exact State.setReasons_effects h _
      · exact .refl
  · rw [trackPauseAction, dif_neg ht]

theorem State.resumeTrack_effects {s : State} {t : Fin 4} {b : TrackBody} (h : s.track t = some b) :
    Effects s (s.resumeTrack t b) := by
  unfold State.resumeTrack
  dsimp only
  split
  · split_ifs
    · exact State.setRunning_effects h _
    · exact State.setReasons_effects h _
  · split_ifs
    · exact State.setRunning_effects h _
    · exact State.setPaused_effects h _ _
  all_goals exact .refl

theorem trackResumeAction_effects (p : Port) (track : U8) (s : State) : Effects s (trackResumeAction p track s).1 := by
  by_cases ht : track.val < 4
  · obtain ⟨t, rfl⟩ := exists_eq_trackByte ht
    rw [trackResumeAction_trackByte]
    refine .unless fun _ => .unless fun _ => ?_
    split
    · exact .refl
    · next b h => exact .provided fun _ => .provided fun _ => State.resumeTrack_effects h
  · rw [trackResumeAction, dif_neg ht]

theorem trackStopAction_effects (p : Port) (track : U8) (s : State) : Effects s (trackStopAction p track s).1 := by
  by_cases ht : track.val < 4
  · obtain ⟨t, rfl⟩ := exists_eq_trackByte ht
    rw [trackStopAction_trackByte]
    split
    · exact .refl
    · exact .provided fun _ => (ReflTransGen.single (.idle _)).tail (State.tellTrack_effect _ _ _ _)
  · rw [trackStopAction, dif_neg ht]

theorem State.dueAtOnce_effects (before s : State) (t : Fin 4) : Effects s (before.dueAtOnce s t) := by
  unfold State.dueAtOnce
  split_ifs
  · exact .single (.due t)
  · exact .refl

theorem State.thenDue_course (before s : State) (track : U8) : Course s (before.thenDue track s) := by
  unfold State.thenDue
  split_ifs
  · exact .settle (before.dueAtOnce_effects s _)
  · exact .refl

/-! ### The show clock -/

theorem clockRunAction_restart (p : Port) (source : U8) (point : U32) (s : State) :
    (clockRunAction p source point s).1 = s ∨ Effect .restart s (clockRunAction p source point s).1 := by
  unfold clockRunAction
  split
  · exact .inl rfl
  · split_ifs with h1 h2 h3 h4
    any_goals exact .inl rfl
    exact .inr (.startClock _ point (not_not.mp h2) (Bool.eq_false_iff.mpr h4))

theorem clockStopAction_effects (p : Port) (s : State) : Effects s (clockStopAction p s).1 := by
  unfold clockStopAction
  split_ifs with h1 h2
  any_goals exact .refl
  exact .single (.stopClock (Bool.eq_false_iff.mpr h2))

/-! ### The Safety Supervisor -/

theorem State.addCauseOnce_effects (s : State) (c : Cause) : Effects s (s.addCauseOnce c) := by
  unfold State.addCauseOnce Supervisor.has
  split_ifs with h
  · exact .refl
  · exact .single (.cause c (by simpa using h))

theorem safetyStopAction_effects (p : Port) (s : State) : Effects s (safetyStopAction p s).1 := by
  unfold safetyStopAction
  split_ifs
  · exact s.addCauseOnce_effects .manual
  · exact .refl

theorem State.assertEstop_effects (s : State) : Effects s s.assertEstop := by
  unfold State.assertEstop
  split_ifs
  · exact .refl
  · exact (ReflTransGen.single (.supervise _ rfl rfl rfl rfl (.inl rfl))).trans (State.addCauseOnce_effects _ _)

theorem State.postAll_effects (s : State) (k : NoticeKind) (subject detail : Nat) :
    Effects s (s.postAll k subject detail) :=
  ((ReflTransGen.single (.deliver .a _)).tail (.deliver .b _)).tail (.deliver .c _)

theorem State.intrusion_effects (s : State) : Effects s s.intrusion := by
  unfold State.intrusion Supervisor.has
  split_ifs with h1 h2
  · exact .refl
  · have h : Cause.intrusion ∈ s.safety.causes := by simpa using h1
    exact (ReflTransGen.single (.supervise _ rfl rfl rfl rfl (.inr h))).trans (State.postAll_effects _ _ _ _)
  · exact .single (.cause _ (by simpa using h1))

theorem freezeAction_course (p : Port) (s : State) : Course s (freezeAction p s).1 := by
  unfold freezeAction
  split_ifs
  · exact .refl
  · split
    · next h => exact .quiet (.freezeRecord _ (by rw [h]; rfl)) (.rfl' s)
    · split_ifs <;> exact .refl
    · split_ifs <;> exact .refl
    · next h =>
      split_ifs
      · exact .quiet (.freezeRecord _ (by rw [h]; rfl)) (.rfl' s)
      · exact .refl

theorem thawAction_course (p : Port) (s : State) : Course s (thawAction p s).1 := by
  unfold thawAction
  split
  · exact .refl
  · next h =>
    split_ifs
    · have withdrawn : Course s (s.setFreeze .none) := .quiet (.freezeRecord _ (by rw [h]; rfl)) (.rfl' s)
      exact withdrawn.tail (.quiet (.deliver _ _) (.rfl' _))
    · exact .refl
  · next h =>
    split_ifs
    · exact .quiet (.freezeRecord _ (by rw [h]; rfl)) (.rfl' s)
    · exact .refl
  · split_ifs <;> exact .refl

theorem State.expireHold_course (s : State) : Course s s.expireHold := by
  unfold State.expireHold
  split
  · split_ifs
    · exact .quiet (.supervise _ rfl rfl rfl rfl (.inl rfl)) (.rfl' s)
    · exact .refl
  · exact .refl

/-! ### The modes and the configuration -/

theorem configWriteAction_effects (p : Port) (table index : U8) (entry : List Byte) (s : State) :
    Effects s (configWriteAction p table index entry s).1 := by
  unfold configWriteAction
  split
  · exact .refl
  · split
    · exact .refl
    · split_ifs with h1 h2 h3 h4
      any_goals exact .refl
      split
      · exact .refl
      · next e parsed =>
        split_ifs with h5
        · exact .single (.write table.val entry index.val e (not_not.mp h3) parsed h5)
        · exact .refl

theorem configReadAction_state (table index : U8) (s : State) : (configReadAction table index s).1 = s := by
  unfold configReadAction
  split
  · rfl
  · split_ifs <;> rfl

theorem State.configSave_course (s : State) (p : Port) (tag : U8) : Course s (s.configSave p tag) := by
  have hb := s.beginRequest_course p configSaveKind tag.val
  unfold State.configSave
  dsimp only
  split_ifs with h1 h2 h3 h4
  · exact hb.trans (State.respond_course _ _ _ _ _)
  · exact hb.trans (State.respond_course _ _ _ _ _)
  · exact hb.trans (State.respond_course _ _ _ _ _)
  · exact hb.trans (Course.quiet (.save p (not_not.mp h3)) (.rfl' _))
  · exact .refl

theorem State.saveEnd_course (s : State) (written : Bool) : Course s (s.saveEnd written) := by
  unfold State.saveEnd
  split
  · exact .refl
  · have h : Course s (State.setUnit { s with image := s.savedImage written } { s.unit with saving := none }) :=
      .quiet (.saved _) (.rfl' s)
    dsimp only
    split
    · split
      · exact h.trans (State.respond_course _ _ _ _ _)
      · exact h
    · exact h
    · exact h

theorem modeAction_effects (p : Port) (target : U8) (s : State) : Effects s (modeAction p target s).1 := by
  unfold modeAction
  split
  · exact .refl
  · split
    any_goals exact .refl
    · next hm _ =>
      split_ifs with h1 h2
      any_goals exact .refl
      split
      · exact .refl
      · next valid => exact .single (.leaveSetup (by simpa using h2) valid hm)
    · next hm _ =>
      split_ifs with h1 h2
      · exact .refl
      · exact .refl
      · exact .single (.enterSetup hm (by simpa using h2))
    · next hm _ =>
      split_ifs
      · exact .refl
      · exact .single (.goLive hm)
    · next hm _ =>
      split_ifs with h1 h2
      any_goals exact .refl
      exact .single (.goDark 1 hm (not_not.mp (not_or.mp h2).2))

theorem State.idleExpiry_course (s : State) : Course s s.idleExpiry := by
  unfold State.idleExpiry
  split
  · next d h =>
    split_ifs with h1
    · exact .single (.idleExpiry h1.2 (by simp [h]))
    · exact .refl
  · exact .refl

theorem showResetAction_restart (p : Port) (s : State) :
    (showResetAction p s).1 = s ∨ Effect .restart s (showResetAction p s).1 := by
  unfold showResetAction
  split_ifs
  · exact .inr .showReset
  · exact .inl rfl

/-! ### The link ports -/

theorem noticeReadAction_course (p : Port) (s : State) : Course s (noticeReadAction p s).1 := by
  refine .quiet (.port p (s.port p).afterRead ?_) (.rfl' s)
  simp only [LinkPort.afterRead, List.length_drop]
  omega

theorem State.refuseFrame_course (s : State) (p : Port) (fault : FrameFault) (kind : Byte) (rest : List Byte) :
    Course s (s.refuseFrame p fault kind rest) := by
  unfold State.refuseFrame
  split
  · exact (State.beginRequest_course _ _ _ _).trans (State.respond_course _ _ _ _ _)
  · dsimp only
    have drawn : Course s { s with freeCount := s.freeCount + 1 } := .quiet (.drawFree _) (.rfl' s)
    exact (drawn.trans (State.beginRequest_course _ _ _ _)).trans (State.respond_course _ _ _ _ _)

theorem State.badFrame_course (s : State) (p : Port) (bytes : List Byte) : Course s (s.badFrame p bytes) := by
  unfold State.badFrame
  split_ifs
  · split
    · exact .refl
    · split_ifs
      · exact .refl
      · split
        · exact .refl
        · exact s.refuseFrame_course p _ _ _
  · exact .refl

theorem State.collect_course (s : State) (p : Port) (clocked : Nat) : Course s (s.collect p clocked) := by
  unfold State.collect
  split
  · split_ifs
    · exact .quiet (.port p _ (le_refl _)) (.rfl' s)
    · exact .refl
  all_goals exact .refl

theorem State.linkReset_course (s : State) (p : Port) : Course s (s.linkReset p) := by
  unfold State.linkReset
  split_ifs
  · exact .refl
  · exact .quiet (.port p _ (Nat.zero_le _)) (.rfl' s)

/-! ## The commands -/

/-- The command sets the show clock back or clears it. -/
def restarts : Instr → Bool
  | .clockRun .. => true
  | .showReset .. => true
  | .showResetLine => true
  | .powerOnReset .. => true
  | _ => false

/-- Every command but a restart completes by a course of effects. -/
theorem exec_course {c : Instr} (h : restarts c = false) (s : State) : ∃ t, exec c s = .next t ∧ Course s t := by
  cases c with
  | claim p tag ch pr w => exact ⟨_, rfl, s.request_course p _ tag (claimAction_course p ch pr w)⟩
  | release p tag ch => exact ⟨_, rfl, s.request_course p _ tag (releaseAction_course p ch)⟩
  | set p tag ch v => exact ⟨_, rfl, s.request_course p _ tag (setAction_course p ch v)⟩
  | watch p tag ch => exact ⟨_, rfl, s.request_course p _ tag (watchAction_course p ch true)⟩
  | unwatch p tag ch => exact ⟨_, rfl, s.request_course p _ tag (watchAction_course p ch false)⟩
  | inquire p tag ch => exact ⟨_, rfl, s.request_course p _ tag fun u => by rw [inquireAction_state]⟩
  | range p tag op first count pr v => exact ⟨_, rfl, s.request_course p _ tag (rangeAction_course p op first count pr v)⟩
  | rangeStop p tag => exact ⟨_, rfl, s.request_course p _ tag (rangeStopAction_course p)⟩
  | rangeStatus p tag => exact ⟨_, rfl, s.request_course p _ tag fun _ => .refl⟩
  | rclaimStep => exact ⟨_, rfl, s.stepIf_course _⟩
  | rreleaseStep => exact ⟨_, rfl, s.stepIf_course _⟩
  | rsetStep => exact ⟨_, rfl, s.stepIf_course _⟩
  | rwatchStep => exact ⟨_, rfl, s.stepIf_course _⟩
  | runwatchStep => exact ⟨_, rfl, s.stepIf_course _⟩
  | cueLoad p tag start count records =>
    exact ⟨_, rfl, s.request_course p _ tag (cueLoadAction_course p start count records)⟩
  | cueRead p tag start count => exact ⟨_, rfl, s.request_course p _ tag fun u => by rw [cueReadAction_state]⟩
  | trackArm p tag track cue => exact ⟨_, rfl, s.settledRequest_course p _ tag (trackArmAction_effects p track cue)⟩
  | trackStart p tag track =>
    exact ⟨_, rfl, (s.settledRequest_course p _ tag (trackStartAction_effects p track)).trans (s.thenDue_course _ track)⟩
  | trackPause p tag track => exact ⟨_, rfl, s.settledRequest_course p _ tag (trackPauseAction_effects p track)⟩
  | trackResume p tag track =>
    exact ⟨_, rfl, (s.settledRequest_course p _ tag (trackResumeAction_effects p track)).trans (s.thenDue_course _ track)⟩
  | trackStop p tag track => exact ⟨_, rfl, s.settledRequest_course p _ tag (trackStopAction_effects p track)⟩
  | trackStatus p tag track => exact ⟨_, rfl, s.request_course p _ tag fun u => by unfold trackStatusAction; split_ifs <;> exact .refl⟩
  | dueEvent t => exact ⟨_, rfl, .settle (.single (.due t))⟩
  | clockRun p tag source start => exact absurd h Bool.noConfusion
  | clockStop p tag => exact ⟨_, rfl, s.settledRequest_course p _ tag (clockStopAction_effects p)⟩
  | clockStatus p tag => exact ⟨_, rfl, s.request_course p _ tag fun _ => .refl⟩
  | audioBlock p tag start count marker offset reserved frames =>
    exact ⟨_, rfl, s.settledRequest_course p _ tag fun _ => .single (.block p start count marker offset reserved frames)⟩
  | clockTick => exact ⟨_, rfl, .settle (.single .clockTick)⟩
  | audioFrame => exact ⟨_, rfl, .settle (.single .audioFrame)⟩
  | coastTick => exact ⟨_, rfl, .settle (.single .coastTick)⟩
  | frameEvent =>
    refine ⟨_, rfl, ?_⟩
    unfold State.frameEvent
    split_ifs
    · exact .single (.frame s)
    · exact .refl
  | ack body => exact ⟨_, rfl, .settle (.single (.reply (.ack body)))⟩
  | busy => exact ⟨_, rfl, .settle (.single (.reply .busy))⟩
  | ident ty => exact ⟨_, rfl, .settle (.single (.reply (.ident ty)))⟩
  | badCheckReply => exact ⟨_, rfl, .settle (.single (.reply .miss))⟩
  | replyWindowExpiry => exact ⟨_, rfl, .settle (.single (.reply .miss))⟩
  | strayReply => exact ⟨_, rfl, .refl⟩
  | holdTimerExpiry => exact ⟨_, rfl, s.expireHold_course⟩
  | recallExpiry ch => exact ⟨_, rfl, .quiet (.expireRecall ch) (s.expireRecall_only ch).idleUnmoved⟩
  | jetStatus p tag n => exact ⟨_, rfl, s.request_course p _ tag fun u => by unfold jetStatusAction; split_ifs <;> exact .refl⟩
  | headerStatus p tag n =>
    exact ⟨_, rfl, s.request_course p _ tag fun u => by unfold headerStatusAction; split_ifs <;> exact .refl⟩
  | fixtureStatus p tag n =>
    exact ⟨_, rfl, s.request_course p _ tag fun u => by unfold fixtureStatusAction; split_ifs <;> exact .refl⟩
  | nodeStatus p tag n => exact ⟨_, rfl, s.request_course p _ tag fun u => by unfold nodeStatusAction; split_ifs <;> exact .refl⟩
  | safetyStop p tag => exact ⟨_, rfl, s.settledRequest_course p _ tag (safetyStopAction_effects p)⟩
  | safetyAck p tag =>
    exact ⟨_, rfl, s.request_course p _ tag fun u => .quiet (.acknowledge p) (safetyAckAction_idleUnmoved p u)⟩
  | estopAsserted => exact ⟨_, rfl, .settle s.assertEstop_effects⟩
  | estopReleased => exact ⟨_, rfl, .quiet (.supervise _ rfl rfl rfl rfl (.inl rfl)) (.rfl' s)⟩
  | intrusionEdge => exact ⟨_, rfl, .settle s.intrusion_effects⟩
  | freeze p tag => exact ⟨_, rfl, s.request_course p _ tag (freezeAction_course p)⟩
  | thaw p tag => exact ⟨_, rfl, s.request_course p _ tag (thawAction_course p)⟩
  | safetyStatus p tag => exact ⟨_, rfl, s.request_course p _ tag fun _ => .refl⟩
  | configWrite p tag table index entry =>
    exact ⟨_, rfl, s.settledRequest_course p _ tag (configWriteAction_effects p table index entry)⟩
  | configRead p tag table index => exact ⟨_, rfl, s.request_course p _ tag fun u => by rw [configReadAction_state]⟩
  | configSave p tag => exact ⟨_, rfl, s.configSave_course p tag⟩
  | saveEnd written => exact ⟨_, rfl, s.saveEnd_course written⟩
  | mode p tag target => exact ⟨_, rfl, s.settledRequest_course p _ tag (modeAction_effects p target)⟩
  | idleTimerExpiry => exact ⟨_, rfl, s.idleExpiry_course⟩
  | showReset p tag => exact absurd h Bool.noConfusion
  | showResetLine => exact absurd h Bool.noConfusion
  | powerOnReset estop held => exact absurd h Bool.noConfusion
  | linkReset p => exact ⟨_, rfl, s.linkReset_course p⟩
  | errorDetail p tag => exact ⟨_, rfl, s.request_course p _ tag fun _ => .refl⟩
  | noticeRead p tag => exact ⟨_, rfl, s.request_course p _ tag (noticeReadAction_course p)⟩
  | identify p tag => exact ⟨_, rfl, s.request_course p _ tag fun _ => .refl⟩
  | showStatus p tag => exact ⟨_, rfl, s.request_course p _ tag fun u => .quiet (.overrun false) (.rfl' u)⟩
  | badFrame p bytes => exact ⟨_, rfl, s.badFrame_course p bytes⟩
  | responseCollect p clocked => exact ⟨_, rfl, s.collect_course p clocked⟩
  | linkResetReleased p => exact ⟨_, rfl, .quiet (.port p _ (le_refl _)) (.rfl' s)⟩

/-- Every command completes, by a run of effects. -/
theorem exec_run (c : Instr) (s : State) : ∃ t, exec c s = .next t ∧ Run s t := by
  cases h : restarts c with
  | false =>
    obtain ⟨t, next, course⟩ := exec_course h s
    exact ⟨t, next, .steady course⟩
  | true =>
    cases c with
    | clockRun p tag source start => exact ⟨_, rfl, s.restartingRequest_run p _ tag (clockRunAction_restart p source start)⟩
    | showReset p tag => exact ⟨_, rfl, s.restartingRequest_run p _ tag (showResetAction_restart p)⟩
    | showResetLine => exact ⟨_, rfl, .restarted .refl (.settled .showReset) .refl rfl⟩
    | powerOnReset estop held => exact ⟨_, rfl, .restarted .refl (.powerOn s estop held) .refl rfl⟩
    | _ => exact absurd h Bool.noConfusion

/-- A step takes the command at the front of the queue through its run, or lets time act on the queue and the timebase. -/
theorem step_cases {s t : State} (h : step s = .next t) :
    (∃ rest, Run { s with pending := rest } t) ∨ ∃ now pending, t = { s with now := now, pending := pending } := by
  unfold step at h
  split at h
  · next c rest _ =>
    obtain ⟨u, hu, hc⟩ := exec_run c { s with pending := rest }
    rw [hu] at h
    cases h
    exact .inl ⟨rest, hc⟩
  · cases h
    refine .inr ?_
    unfold State.passTime
    split
    · exact ⟨s.now, _, rfl⟩
    · exact ⟨_, _, rfl⟩

/-- What the queue and the timebase do not touch and every stage and every restart keeps, every step keeps. -/
theorem step_keeps {P : State → Prop} (queue : ∀ s now pending, P s → P { s with now := now, pending := pending })
    (stage : ∀ {s t}, Stage s t → P s → P t) (restart : ∀ {s t}, Restart s t → P s → P t) {s t : State} (h : step s = .next t) (hs : P s) : P t := by
  rcases step_cases h with ⟨rest, hc⟩ | ⟨now, pending, rfl⟩
  · exact hc.keeps stage restart (queue s s.now rest hs)
  · exact queue s now pending hs

/-- What neither the queue nor the timebase nor the idle timer touches and every effect keeps, every step keeps. -/
theorem step_keeps_of_effects {P : State → Prop} (queue : ∀ s now pending, P s → P { s with now := now, pending := pending })
    (timer : ∀ s d, P s → P (s.setUnit { s.unit with idleDeadline := d }))
    (effect : ∀ {b s t}, Effect b s t → P s → P t) {s t : State} (h : step s = .next t) (hs : P s) : P t := by
  rcases step_cases h with ⟨rest, hc⟩ | ⟨now, pending, rfl⟩
  · exact hc.keeps_of_effects effect timer (queue s s.now rest hs)
  · exact queue s now pending hs

end Sys2Proof.Machine

/-!
# The queue, and what the frame event and the field link can change
-/

namespace Sys2Proof.Machine

/-! ## Frames -/

/-- Nothing but the node records and the sweep differs. -/
def OnlySweep (s t : State) : Prop := t = { s with nodes := t.nodes, sweep := t.sweep }

/-- Nothing but the field link's records and what the Supervisor can change differs. -/
def OnlyField (s t : State) : Prop :=
  t = { s with
    directory := t.directory, range := t.range, tracks := t.tracks, clock := t.clock, safety := t.safety,
    ports := t.ports, nodes := t.nodes, sweep := t.sweep }

/-- Nothing but the Shaper's records, the Directory and the ports differs. -/
def OnlyShaper (s t : State) : Prop :=
  t = { s with directory := t.directory, jets := t.jets, headers := t.headers, shaper := t.shaper, ports := t.ports }

/-- Nothing but the Mixer's records and the Directory differs. -/
def OnlyMixer (s t : State) : Prop :=
  t = { s with directory := t.directory, fixtures := t.fixtures, fixtureReport := t.fixtureReport }

theorem OnlySweep.refl (s : State) : OnlySweep s s := rfl
theorem OnlyField.refl (s : State) : OnlyField s s := rfl

theorem OnlySweep.trans {s t u : State} (h : OnlySweep s t) (k : OnlySweep t u) : OnlySweep s u := by
  unfold OnlySweep at *; rw [k, h]

theorem OnlyField.trans {s t u : State} (h : OnlyField s t) (k : OnlyField t u) : OnlyField s u := by
  unfold OnlyField at *; rw [k, h]

theorem OnlySafety.field {s t : State} (h : OnlySafety s t) : OnlyField s t := by
  unfold OnlySafety OnlyField at *; rw [h]

theorem OnlySweep.field {s t : State} (h : OnlySweep s t) : OnlyField s t := by
  unfold OnlySweep OnlyField at *; rw [h]

theorem OnlyDirectory.field {s t : State} (h : OnlyDirectory s t) : OnlyField s t := h.tracks.show.safety.field

theorem OnlyTracks.field {s t : State} (h : OnlyTracks s t) : OnlyField s t := h.show.safety.field

theorem OnlyShow.field {s t : State} (h : OnlyShow s t) : OnlyField s t := h.safety.field

theorem OnlyField.pending {s t : State} (h : OnlyField s t) : t.pending = s.pending := by
  unfold OnlyField at h; rw [h]

theorem OnlyShaper.pending {s t : State} (h : OnlyShaper s t) : t.pending = s.pending := by
  unfold OnlyShaper at h; rw [h]

theorem OnlyPorts.field {s t : State} (h : OnlyPorts s t) : OnlyField s t := h.directory.tracks.show.safety.field

/-! ### The sweep -/

theorem State.setNode_only (s : State) (n : Fin 32) (r : NodeRecord) : OnlySweep s (s.setNode n r) := rfl

theorem State.setSweep_only (s : State) (w : Sweep) : OnlySweep s (s.setSweep w) := rfl

theorem State.walk_only (probing : Bool) (l : List (Fin 32)) (s : State) : OnlySweep s (State.walk probing l s) := by
  induction l generalizing s with
  | nil => exact rfl
  | cons n rest ih =>
    unfold State.walk
    split
    · exact rfl
    · exact (s.setNode_only n _).trans (ih _)

theorem State.startSweep_only (s : State) : OnlySweep s s.startSweep :=
  (s.setSweep_only _).trans (State.walk_only _ _ _)

theorem State.goOn_only (s : State) (probing : Bool) (rest : List (Fin 32)) : OnlySweep s (s.goOn probing rest) := by
  have walked := State.walk_only probing rest s
  unfold State.goOn
  dsimp only
  split
  · exact walked
  · split
    · exact (walked.trans (State.setSweep_only _ _)).trans (State.startSweep_only _)
    · exact walked

theorem State.giveSweep_only (s : State) : OnlySweep s s.giveSweep := by
  unfold State.giveSweep
  split
  · exact s.startSweep_only
  · split <;> exact rfl

theorem State.uncount_only (s : State) (n : Fin 32) : OnlySweep s (s.uncount n) := by
  unfold State.uncount
  split
  · exact rfl
  · split <;> exact rfl

/-! ### The end of a transmission -/

theorem State.tellNode_only (s : State) (n : Fin 32) (detail : Nat) : OnlyField s (s.tellNode n detail) :=
  (s.postAll_only _ _ _).field

theorem State.handLoss_only (s : State) (n : Fin 32) : OnlyField s (s.handLoss n) := by
  unfold State.handLoss
  split
  · exact s.sensorLost_only.field
  · exact rfl

theorem State.loseNode_only (s : State) (n : Fin 32) (r : NodeRecord) (detail : Nat) :
    OnlyField s (s.loseNode n r detail) :=
  ((s.setNode_only n _).field.trans (State.tellNode_only _ _ _)).trans (State.handLoss_only _ _)

theorem State.missNode_only (s : State) (n : Fin 32) : OnlyField s (s.missNode n) := by
  unfold State.missNode
  dsimp only
  split
  · exact rfl
  · split
    · exact s.loseNode_only n _ _
    · exact (s.setNode_only n _).field

theorem State.busyNode_only (s : State) (n : Fin 32) : OnlyField s (s.busyNode n) := by
  unfold State.busyNode
  dsimp only
  split
  · exact s.loseNode_only n _ _
  · have backedOff := (s.setNode_only n { s.node n with
      state := .backoff, busyCount := (s.node n).busyCount + 1, skipCount := backoffSkip ((s.node n).busyCount + 1) }).field
    split
    · exact backedOff.trans (State.handLoss_only _ _)
    · exact backedOff

theorem State.ackNode_only (s : State) (n : Fin 32) (body : AckBody) : OnlyField s (s.ackNode n body) := by
  have acked := (s.setNode_only n ((s.node n).acked body)).field
  unfold State.ackNode
  split
  · exact acked
  · exact acked
  · split
    · exact acked.trans (State.takeReading_only _ _ _).field
    · exact (acked.trans (State.sensorOnline_only _).field).trans (State.takeReading_only _ _ _).field

theorem State.identNode_only (s : State) (n : Fin 32) : OnlyField s (s.identNode n) := by
  have syncing := (s.setNode_only n { s.node n with state := .syncing, busyCount := 0, missCount := 0 }).field
  unfold State.identNode
  dsimp only
  split
  · exact syncing.trans (State.tellNode_only _ _ _)
  · exact syncing

theorem EndOfTransmission.only {act : State → Transmission → State} (h : EndOfTransmission act) (s : State)
    (tx : Transmission) : OnlyField s (act s tx) := by
  cases h with
  | ack body =>
    unfold State.endAck
    split
    · exact s.ackNode_only _ body
    · exact s.missNode_only _
  | busy =>
    unfold State.endBusy
    split
    · exact s.busyNode_only _
    · exact s.missNode_only _
  | ident ty =>
    unfold State.endIdent
    split
    · exact s.identNode_only _
    · exact s.missNode_only _
  | miss => exact s.missNode_only _

theorem State.endTransmission_only (s : State) {act : State → Transmission → State} (h : EndOfTransmission act) :
    OnlyField s (s.endTransmission act) := by
  unfold State.endTransmission
  split
  · exact rfl
  · split
    · exact (h.only s _).trans (State.goOn_only _ _ _).field
    · exact (State.goOn_only _ _ _).field

theorem State.nodeWritten_only (s : State) (n : Fin 32) (before : NodeType) : OnlyField s (s.nodeWritten n before) := by
  have uncounted := (s.uncount_only n).field
  unfold State.nodeWritten
  dsimp only
  split
  · exact uncounted
  · have fresh := uncounted.trans (State.setNode_only (s.uncount n) n (.fresh (s.config.nodes.get n))).field
    have told : OnlyField s (if ((s.uncount n).node n).state = .lost
        then ((s.uncount n).setNode n (.fresh (s.config.nodes.get n))).tellNode n 3
        else (s.uncount n).setNode n (.fresh (s.config.nodes.get n))) := by
      split
      · exact fresh.trans (State.tellNode_only _ _ _)
      · exact fresh
    split
    · exact told.trans (State.sensorLost_only _).field
    · exact told

/-! ### The parts of the frame event -/

theorem State.tellHeader_only (before : Table HeaderRecord 16) (s : State) (h : Fin 16) :
    OnlyPorts s (State.tellHeader before s h) := by
  unfold State.tellHeader
  split
  · exact s.postTo_only _ _ _ _
  · exact rfl

theorem State.tellHeaders_only (before : Table HeaderRecord 16) (s : State) : OnlyPorts s (s.tellHeaders before) :=
  foldl_related OnlyPorts.refl OnlyPorts.trans (State.tellHeader_only before) s _

theorem OnlyShaper.trans {s t u : State} (h : OnlyShaper s t) (k : OnlyShaper t u) : OnlyShaper s u := by
  unfold OnlyShaper at *; rw [k, h]

theorem OnlyPorts.shaper {s t : State} (h : OnlyPorts s t) : OnlyShaper s t := by
  unfold OnlyPorts OnlyShaper at *; rw [h]

theorem State.commitHeights_only (s : State) : OnlyShaper s s.commitHeights := rfl
theorem State.shapeJets_only (s : State) : OnlyShaper s s.shapeJets := rfl
theorem State.computeHeaders_only (s : State) : OnlyShaper s s.computeHeaders := rfl
theorem State.slewJets_only (s : State) : OnlyShaper s s.slewJets := rfl
theorem State.settleRest_only (s : State) : OnlyShaper s s.settleRest := rfl

theorem State.shape_only (s : State) : OnlyShaper s s.shape := by
  have slewed : OnlyShaper s s.commitHeights.shapeJets.computeHeaders.slewJets :=
    ((s.commitHeights_only.trans (State.shapeJets_only _)).trans (State.computeHeaders_only _)).trans (State.slewJets_only _)
  exact (slewed.trans (State.tellHeaders_only _ _).shaper).trans (State.settleRest_only _)

theorem State.mix_only (s : State) : OnlyMixer s s.mix := rfl

theorem State.reachStopped_only (s : State) : OnlySafety s s.reachStopped := by
  unfold State.reachStopped
  split
  · exact (s.setSafety_only _).trans (State.tellSafety_only _ _).directory.tracks.show.safety
  · exact rfl

/-! ### Entry to SETUP, show reset, power-on reset and a write -/

theorem State.rangeSetupEntry_only (s : State) : OnlyShow s s.rangeSetupEntry := by
  unfold State.rangeSetupEntry
  split
  · exact s.endRange_only _ _
  · exact rfl

/-- What entry to SETUP makes of the Directory, the Range Engine and the tracks, before it clears the outputs. -/
def State.emptiedForSetup (s : State) : State :=
  (s.setMode .setup).directorySetupEntry.rangeSetupEntry.eachTrack State.idleForSetup

theorem State.enterSetup_eq (s : State) :
    s.enterSetup = s.emptiedForSetup.clockSetupEntry.shaperSetupEntry.mixerSetupEntry.tellMode 0 := rfl

theorem State.emptiedForSetup_only (s : State) : OnlyShow (s.setMode .setup) s.emptiedForSetup := by
  unfold State.emptiedForSetup
  have directory := (s.setMode .setup).directorySetupEntry_only.tracks.show
  have ranges := directory.trans (State.rangeSetupEntry_only _)
  exact ranges.trans (State.eachTrack_only _ State.idleForSetup_only).show

theorem State.assertEstop_only (s : State) : OnlySafety s s.assertEstop := by
  unfold State.assertEstop
  split
  · exact rfl
  · exact (s.setSafety_only _).trans (State.addCauseOnce_only _ _)

theorem State.writeEntry_only (s : State) (index : Nat) (e : ConfigEntry) :
    OnlyField { s with config := s.config.put index e } (s.writeEntry index e) := by
  cases e with
  | node t => exact State.nodeWritten_only _ _ _
  | global g => exact (State.setWind_only _ _).field
  | rights _ => exact rfl
  | jet _ => exact rfl
  | header _ => exact rfl
  | fixture _ => exact rfl

/-! ## The queue -/

theorem State.mix_pending (s : State) : s.mix.pending = s.pending := rfl

theorem State.tellMode_pending (s : State) (detail : Nat) : (s.tellMode detail).pending = s.pending := rfl

theorem State.clockSetupEntry_pending (s : State) : s.clockSetupEntry.pending = s.pending := rfl

theorem State.shaperSetupEntry_pending (s : State) : s.shaperSetupEntry.pending = s.pending := rfl

theorem State.mixerSetupEntry_pending (s : State) : s.mixerSetupEntry.pending = s.pending := rfl

theorem State.evalIdle_pending (s : State) : s.evalIdle.pending = s.pending := by rw [State.evalIdle_only]

theorem State.frame_eq (s : State) :
    s.frame = s.reloadFrame.changeFreeze.shape.evalIdle.reachStopped.mix.giveSweep := rfl

theorem State.frame_pending (s : State) : s.frame.pending = s.pending := by
  rw [State.frame_eq, (State.giveSweep_only _).field.pending, State.mix_pending, (State.reachStopped_only _).field.pending,
    State.evalIdle_pending, (State.shape_only _).pending, (State.changeFreeze_only _).field.pending]
  rfl

theorem State.enterSetup_pending (s : State) : s.enterSetup.pending = s.pending := by
  rw [State.enterSetup_eq, State.tellMode_pending, State.mixerSetupEntry_pending, State.shaperSetupEntry_pending,
    State.clockSetupEntry_pending, s.emptiedForSetup_only.field.pending]
  rfl

/-- The state that start-up makes, before the emergency stop line is read (09 R167). -/
def State.startedUp (s : State) (held : PerPort Bool) : State :=
  { State.reset with
    pending := s.pending
    freeCount := s.freeCount
    shaper := { State.reset.shaper with frameDue := (startUp s.imageAtReset).1.global.framePeriod }
    nodes := Table.build fun n => NodeRecord.fresh ((startUp s.imageAtReset).1.nodes.get n)
    unit := ⟨(startUp s.imageAtReset).2.1, none, none, (startUp s.imageAtReset).2.2⟩
    config := (startUp s.imageAtReset).1
    image := s.imageAtReset
    ports := ⟨LinkPort.reset held.a, LinkPort.reset held.b, LinkPort.reset held.c⟩ }

theorem State.powerOn_eq (s : State) (estop : Bool) (held : PerPort Bool) :
    s.powerOn estop held = if estop then (s.startedUp held).assertEstop else s.startedUp held := rfl

theorem State.powerOn_pending (s : State) (estop : Bool) (held : PerPort Bool) : (s.powerOn estop held).pending = s.pending := by
  rw [State.powerOn_eq]
  split
  · exact (s.startedUp held).assertEstop_only.field.pending
  · rfl

theorem State.returnToNormal_only (s : State) : OnlySafety s s.returnToNormal := by
  have left := s.setSafety_only { s.safety with state := .normal, first := none, further := false }
  have freed := left.trans (State.directorySafetyExit_only _).tracks.show.safety
  exact freed.trans (State.tellSafety_only _ 0).directory.tracks.show.safety

theorem safetyAckAction_only (p : Port) (s : State) : OnlySafety s (safetyAckAction p s).1 := by
  unfold safetyAckAction
  split_ifs
  · exact rfl
  · exact rfl
  · have heard := s.setSafety_only s.safety.acknowledged
    dsimp only
    split
    · exact heard.trans (State.returnToNormal_only _)
    · exact heard

theorem audioBlockAction_only (p : Port) (start : U32) (count marker offset : U8) (reserved : List Byte)
    (frames : List (Sample × Sample)) (s : State) :
    OnlyShow s (audioBlockAction p start count marker offset reserved frames s).1 := by
  have taken : ∀ c, OnlyShow s (s.setClock c).blockArrived := fun c => (s.setClock_only c).trans (State.blockArrived_only _)
  unfold audioBlockAction
  split
  · split
    · exact rfl
    · split
      · exact rfl
      · split
        · exact rfl
        · split
          · exact rfl
          · lift_lets
            extract_lets
            split
            · exact rfl
            · exact taken _
  · exact rfl

theorem State.clockTick_only (s : State) : OnlyShow s s.clockTick := by
  unfold State.clockTick
  split
  · exact s.takeOwed_only.show.trans (State.setClock_only _ _)
  · exact rfl

/-- The state in which a show reset has cleared the show, before LIVE becomes DARK (09 R168). -/
def State.clearedShow (s : State) : State :=
  ((s.tracksShowReset.rangeShowReset.directoryShowReset.setClock ClockUnit.reset).setFreeze .none).clearNotices

theorem State.showReset_eq (s : State) :
    s.showReset = if s.clearedShow.unit.mode = .live then s.clearedShow.goDark 4 else s.clearedShow := rfl

theorem State.clearedShow_pending (s : State) : s.clearedShow.pending = s.pending := rfl

theorem State.goDark_pending (s : State) (detail : Nat) : (s.goDark detail).pending = s.pending := rfl

theorem State.showReset_pending (s : State) : s.showReset.pending = s.pending := by
  rw [State.showReset_eq]
  split
  · rw [State.goDark_pending, State.clearedShow_pending]
  · exact s.clearedShow_pending

/-- No effect reaches the queue of commands. -/
theorem Effect.pending {m : Manner} {s t : State} (e : Effect m s t) : t.pending = s.pending := by
  cases e with
  | claim p ch q wait => exact (s.claimChannel_only p ch q wait).field.pending
  | release p ch => exact (s.releaseChannel_only p ch).field.pending
  | stage p ch v => exact (s.stage_only p ch v).field.pending
  | expireRecall ch => exact (s.expireRecall_only ch).field.pending
  | rangeStep r => exact (s.rangeStep_only r).field.pending
  | due t => exact (s.takeDue_only t).field.pending
  | startClock source point => exact ((s.setClock_only _).trans (State.meetStart_only _)).field.pending
  | block => exact (audioBlockAction_only ..).field.pending
  | clockTick => exact s.clockTick_only.field.pending
  | audioFrame => exact s.audioFrame_only.field.pending
  | coastTick => exact s.coastTick_only.field.pending
  | cause c => exact (s.addCause_only c).field.pending
  | acknowledge p => exact (safetyAckAction_only p s).field.pending
  | reply h => exact (s.endTransmission_only h).pending
  | write table bytes index e => exact (s.writeEntry_only index e).pending
  | enterSetup => exact s.enterSetup_pending
  | showReset => exact s.showReset_pending
  | frame => exact s.frame_pending
  | powerOn estop held => exact s.powerOn_pending estop held
  | _ => rfl

/-- Settles O1: with a command waiting, a step is the first branch of its definition. -/
theorem stepRunsFrontCommand : Obligations.StepRunsFrontCommand := by
  intro s c rest waiting
  unfold step
  rw [waiting]

/-- Settles O2: every command is a run of effects, and none of them reaches the queue. -/
theorem commandsCompleteAndKeepTheQueue : Obligations.CommandsCompleteAndKeepTheQueue := by
  intro s c
  obtain ⟨t, next, run⟩ := exec_run c s
  refine ⟨t, next, ?_⟩
  exact run.keeps_of_effects (P := fun u => u.pending = s.pending) (fun e kept => e.pending.trans kept)
    (fun _ _ kept => kept) rfl

end Sys2Proof.Machine

/-!
# What a due event touches

A due event acts for the owner of its track: it changes that track, fills slots of channels that the owner holds, and posts
notices. What one record makes of the track is said once, in `Taken`.
-/

namespace Sys2Proof.Machine

open Relation (ReflTransGen)

/-! ## Ports that receive notices -/

/-- A port's record after some notices have come to it, and nothing else. -/
def Heard : LinkPort → LinkPort → Prop := ReflTransGen fun a b => ∃ n : Notice, b = a.receive n

theorem Heard.refl (lp : LinkPort) : Heard lp lp := ReflTransGen.refl

theorem Heard.trans {a b c : LinkPort} (h : Heard a b) (k : Heard b c) : Heard a c := ReflTransGen.trans h k

theorem LinkPort.receive_heard (lp : LinkPort) (n : Notice) : Heard lp (lp.receive n) := .single ⟨n, rfl⟩

/-- What receiving a notice keeps, hearing keeps. -/
theorem Heard.keeps {P : LinkPort → Prop} (receive : ∀ lp n, P lp → P (lp.receive n)) {a b : LinkPort} (h : Heard a b)
    (ha : P a) : P b := by
  induction h with
  | refl => exact ha
  | tail _ e ih => obtain ⟨n, rfl⟩ := e; exact receive _ n ih

theorem Heard.state {a b : LinkPort} (h : Heard a b) : b.state = a.state :=
  h.keeps (P := fun lp => lp.state = a.state) (fun lp n k => (lp.receive_state n).trans k) rfl

theorem Heard.error {a b : LinkPort} (h : Heard a b) : b.error = a.error :=
  h.keeps (P := fun lp => lp.error = a.error) (fun lp n k => (lp.receive_error n).trans k) rfl

theorem Heard.resetHeld {a b : LinkPort} (h : Heard a b) : b.resetHeld = a.resetHeld :=
  h.keeps (P := fun lp => lp.resetHeld = a.resetHeld) (fun lp n k => (lp.receive_resetHeld n).trans k) rfl

theorem Heard.length {a b : LinkPort} (h : Heard a b) (ha : a.notices.length ≤ 32) : b.notices.length ≤ 32 :=
  h.keeps (fun lp n => lp.receive_length n) ha

theorem State.deliver_heard (s : State) (p : Port) (n : Notice) (q : Port) : Heard (s.port q) ((s.deliver p n).port q) := by
  by_cases hq : p = q
  · subst hq
    rw [State.deliver, State.port_setPort_self]
    exact LinkPort.receive_heard _ n
  · rw [State.deliver, State.port_setPort_ne _ _ hq]
    exact .refl _

/-! ## Acting for a port -/

/-- What an action on behalf of port `p` by its track `t` can change: that track, the slots of the port's holdings, and the
notices. -/
structure ActsFor (p : Port) (t : Fin 4) (s u : State) : Prop where
  frame : u = { s with
    directory := { s.directory with entries := u.directory.entries }, tracks := u.tracks, ports := u.ports }
  others : ∀ k, k ≠ t → u.track k = s.track k
  entry : ∀ ch, u.entry ch = { s.entry ch with slot := (u.entry ch).slot }
  unheld : ∀ ch, (s.entry ch).hold.holder ≠ some p → u.entry ch = s.entry ch
  heard : ∀ q, Heard (s.port q) (u.port q)

theorem ActsFor.refl (p : Port) (t : Fin 4) (s : State) : ActsFor p t s s :=
  ⟨rfl, fun _ _ => rfl, fun _ => rfl, fun _ _ => rfl, fun _ => .refl _⟩

theorem ActsFor.hold {p : Port} {t : Fin 4} {s u : State} (h : ActsFor p t s u) (ch : Fin 177) :
    (u.entry ch).hold = (s.entry ch).hold := by rw [h.entry ch]

theorem ActsFor.trans {p : Port} {t : Fin 4} {s u v : State} (h : ActsFor p t s u) (k : ActsFor p t u v) : ActsFor p t s v where
  frame := by rw [k.frame, h.frame]
  others i hi := (k.others i hi).trans (h.others i hi)
  entry ch := by rw [k.entry ch, h.entry ch]
  unheld ch hc := (k.unheld ch (h.hold ch ▸ hc)).trans (h.unheld ch hc)
  heard q := (h.heard q).trans (k.heard q)

theorem ActsFor.only {p : Port} {t : Fin 4} {s u : State} (h : ActsFor p t s u) : OnlyTracks s u := by
  have frame := h.frame
  unfold OnlyTracks
  rw [frame]

theorem ActsFor.directory {p : Port} {t : Fin 4} {s u : State} (h : ActsFor p t s u) :
    u.directory = ⟨u.directory.entries, s.directory.waiters, s.directory.arrivals⟩ := congrArg State.directory h.frame

theorem ActsFor.post {p : Port} {t : Fin 4} (s : State) (q : Port) (k : NoticeKind) (subject detail : Nat) (x : NoticeExtra) :
    ActsFor p t s (s.post q k subject detail x) :=
  ⟨rfl, fun _ _ => rfl, fun _ => rfl, fun _ _ => rfl, s.deliver_heard q _⟩

theorem ActsFor.setTrack {p : Port} {t : Fin 4} (s : State) (v : Track) : ActsFor p t s (s.setTrack t v) :=
  ⟨rfl, fun _ hk => State.track_setTrack_ne s v (Ne.symm hk), fun _ => rfl, fun _ _ => rfl, fun _ => .refl _⟩

theorem ActsFor.setSlot {p : Port} {t : Fin 4} {s : State} {ch : Fin 177} (v : Option Setpoint)
    (held : (s.entry ch).hold.holder = some p) : ActsFor p t s (s.setSlot ch v) where
  frame := rfl
  others _ _ := rfl
  entry c := by
    by_cases hc : ch = c
    · subst hc; simp only [State.setSlot, State.entry_setEntry_self]
    · simp only [State.setSlot, State.entry_setEntry_ne _ _ hc]
  unheld c hc := by
    have ne : ch ≠ c := by rintro rfl; exact hc held
    rw [State.setSlot, State.entry_setEntry_ne _ _ ne]
  heard _ := .refl _

theorem ActsFor.stage (p : Port) (t : Fin 4) (s : State) (ch : Fin 177) (v : Setpoint) :
    ActsFor p t s (s.stage p ch v).1 := by
  unfold State.stage
  split
  · exact .refl p t s
  · split
    · next held => exact .setSlot _ held
    · exact .refl p t s

theorem ActsFor.cueWrites (p : Port) (t : Fin 4) (s : State) (l : List (Fin 177)) (v : Setpoint) :
    ActsFor p t s (s.cueWrites p l v).1 := by
  suffices ∀ (acc : State × Nat), ActsFor p t acc.1 (l.foldl (fun acc ch =>
      let r := acc.1.stage p ch v; (r.1, if r.2.filled then acc.2 else acc.2 + 1)) acc).1 from this (s, 0)
  induction l with
  | nil => exact fun acc => .refl p t acc.1
  | cons ch rest ih => exact fun acc => (ActsFor.stage p t acc.1 ch v).trans (ih ((acc.1.stage p ch v).1, _))

/-! ## One record -/

/-- What taking a record makes of a RUNNING track: it ends; it goes on RUNNING at another record; or it stops there. -/
inductive Taken (s : State) (b : TrackBody) : Track → Prop
  | ended : Taken s b none
  | goesOn (c : TrackBody) (owner : c.owner = b.owner) (reasons : c.reasons = b.reasons) (phase : c.phase = b.phase)
      (stack : b.stack.length ≤ 6 → c.stack.length ≤ 6) (window : (s.rights b.owner).inWindow c.cue = true) : Taken s b (some c)
  | stopped (c : TrackBody) (owner : c.owner = b.owner) (phase : (∃ m, c.phase = .waiting m) ∨ ∃ r, c.phase = .faulted r)
      (stack : b.stack.length ≤ 6 → c.stack.length ≤ 6)
      (window : c.cue = b.cue ∨ (s.rights b.owner).inWindow c.cue = true) : Taken s b (some c)

/-- The state in which a record has written its setpoints, its track not yet moved on; and the track it leaves. -/
structure RecordTaken (s : State) (t : Fin 4) (b : TrackBody) (u : State) : Prop where
  acts : ActsFor b.owner t s u
  taken : Taken s b (u.track t)

theorem RecordTaken.faultTrack {s v : State} {t : Fin 4} {b c : TrackBody} (acts : ActsFor b.owner t s v)
    (owner : c.owner = b.owner) (cue : c.cue = b.cue) (stack : b.stack.length ≤ 6 → c.stack.length ≤ 6) (r : TrackFault) :
    RecordTaken s t b (v.faultTrack t c r) where
  acts := (acts.trans (.setTrack _ _)).trans (.post _ _ _ _ _ _)
  taken := by
    have track : (v.faultTrack t c r).track t = some { c with reasons := noReasons, phase := .faulted r } :=
      State.track_setTrack_self v t _
    rw [track]
    exact .stopped _ owner (.inr ⟨r, rfl⟩) stack (.inl cue)

theorem RecordTaken.moved {s v : State} {t : Fin 4} {b : TrackBody} (acts : ActsFor b.owner t s v) {c : TrackBody}
    (taken : Taken s b (some c)) : RecordTaken s t b (v.setTrack t (some c)) where
  acts := acts.trans (.setTrack _ _)
  taken := by rw [State.track_setTrack_self]; exact taken

theorem RecordTaken.advance {s v : State} {t : Fin 4} {b c : TrackBody} (acts : ActsFor b.owner t s v)
    (owner : c.owner = b.owner) (reasons : c.reasons = b.reasons) (phase : c.phase = b.phase) (cue : c.cue = b.cue)
    (stack : b.stack.length ≤ 6 → c.stack.length ≤ 6) (index : Nat) : RecordTaken s t b (v.advance t c index) := by
  unfold State.advance
  split
  · next window =>
    have config : v.rights c.owner = s.rights b.owner := by rw [owner, acts.frame]; rfl
    exact .moved acts (.goesOn { c with cue := index } owner reasons phase stack (config ▸ window))
  · exact .faultTrack acts owner cue stack _

theorem State.takeSet_taken (s : State) (t : Fin 4) (b : TrackBody) (l : List (Fin 177)) (v : Setpoint) :
    RecordTaken s t b (s.takeSet t b l v) := by
  have writes := ActsFor.cueWrites b.owner t s l v
  have told : ActsFor b.owner t s (if (s.cueWrites b.owner l v).2 = 0 then (s.cueWrites b.owner l v).1
      else (s.cueWrites b.owner l v).1.post b.owner .cueSkipped t.val (s.cueWrites b.owner l v).2 (.cue b.cue)) := by
    split
    · exact writes
    · exact writes.trans (.post _ _ _ _ _ _)
  exact .advance told rfl rfl rfl rfl id _

theorem State.takeRecord_taken (s : State) (t : Fin 4) (b : TrackBody) : RecordTaken s t b (s.takeRecord t b) := by
  have here := ActsFor.refl b.owner t s
  have fault : ∀ r, RecordTaken s t b (s.faultTrack t b r) := fun r => .faultTrack here rfl rfl id r
  unfold State.takeRecord
  split
  · exact fault _
  · exact s.takeSet_taken t b _ _
  · exact s.takeSet_taken t b _ _
  · exact s.takeSet_taken t b _ _
  · exact s.takeSet_taken t b _ _
  · next m _ =>
    unfold State.takeWait
    split
    · next window =>
      have waits := RecordTaken.moved here
        (.stopped { b with cue := b.cue + 1, phase := .waiting m } rfl (.inl ⟨m, rfl⟩) id (.inr window))
      exact ⟨waits.acts.trans (.post _ _ _ _ _ _), waits.taken⟩
    · exact fault _
  · unfold State.takeLoop
    split
    · exact fault _
    · next room =>
      have pushed : b.stack.length + 1 ≤ 6 := Nat.lt_of_not_le room
      exact .advance (c := { b with stack := .loop (b.cue + 1) _ _ false :: b.stack }) here rfl rfl rfl rfl (fun _ => pushed) _
  · unfold State.takeLoopEnd
    split
    · next body remaining until_ seen rest stack =>
      split
      · exact .advance (c := { b with stack := rest }) here rfl rfl rfl rfl (stack ▸ Nat.le_of_succ_le) _
      · exact .advance (c := { b with stack := .loop body (remaining - 1) until_ false :: rest }) here rfl rfl rfl rfl
          (stack ▸ id) _
    · exact fault _
    · exact fault _
  · next target _ =>
    unfold State.takeCall
    split
    · exact fault _
    · next window =>
      split
      · exact fault _
      · next room =>
        have pushed : b.stack.length + 1 ≤ 6 := Nat.lt_of_not_le room
        exact .moved here (.goesOn { b with stack := .call (b.cue + 1) :: b.stack, cue := target } rfl rfl rfl (fun _ => pushed)
          (by simpa using window))
  · unfold State.takeReturn
    split
    · exact fault _
    · exact fault _
    · next rest stack =>
      exact .advance (c := { b with stack := rest }) here rfl rfl rfl rfl (stack ▸ Nat.le_of_succ_le) _
  · have ended : (s.setTrack t none).track t = none := s.track_setTrack_self t none
    exact ⟨(here.trans (.setTrack _ _)).trans (.post _ _ _ _ _ _), by
      have same : ((s.setTrack t none).tellTrack t b.owner 5).track t = none := ended
      rw [same]; exact .ended⟩
  · exact fault _

/-! ## One due event -/

/-- What due events make of a track whose next_due was `due`: it ends; it is RUNNING with a later next_due; or it stops. -/
inductive AfterDue (s : State) (b : TrackBody) (due : Nat) : Track → Prop
  | ended : AfterDue s b due none
  | goesOn (c : TrackBody) (next : Nat) (owner : c.owner = b.owner) (later : due < next) (phase : c.phase = s.runningAt next)
      (stack : b.stack.length ≤ 6 → c.stack.length ≤ 6)
      (window : c.cue = b.cue ∨ (s.rights b.owner).inWindow c.cue = true) : AfterDue s b due (some c)
  | stopped (c : TrackBody) (owner : c.owner = b.owner) (phase : (∃ m, c.phase = .waiting m) ∨ ∃ r, c.phase = .faulted r)
      (stack : b.stack.length ≤ 6 → c.stack.length ≤ 6)
      (window : c.cue = b.cue ∨ (s.rights b.owner).inWindow c.cue = true) : AfterDue s b due (some c)

theorem AfterDue.after {s u : State} {p : Port} {t : Fin 4} {b c : TrackBody} {due next : Nat} {v : Track} (acts : ActsFor p t s u)
    (owner : c.owner = b.owner) (later : due ≤ next) (stack : b.stack.length ≤ 6 → c.stack.length ≤ 6)
    (window : c.cue = b.cue ∨ (s.rights b.owner).inWindow c.cue = true) (h : AfterDue u c next v) : AfterDue s b due v := by
  have rights : u.rights c.owner = s.rights b.owner := by rw [owner, acts.frame]; rfl
  have runningAt : ∀ n, u.runningAt n = s.runningAt n := fun n => by rw [acts.frame]; rfl
  have reach : ∀ d : TrackBody, (d.cue = c.cue ∨ (u.rights c.owner).inWindow d.cue = true) →
      (d.cue = b.cue ∨ (s.rights b.owner).inWindow d.cue = true) := by
    rintro d (same | inside)
    · rw [same]; exact window
    · exact .inr (rights ▸ inside)
  cases h with
  | ended => exact .ended
  | goesOn d after' owner' later' phase' stack' window' =>
    exact .goesOn d after' (owner'.trans owner) (Nat.lt_of_le_of_lt later later') (phase'.trans (runningAt _))
      (stack' ∘ stack) (reach d window')
  | stopped d owner' phase' stack' window' =>
    exact .stopped d (owner'.trans owner) phase' (stack' ∘ stack) (reach d window')

/-- A RUNNING track's body is the one that its track holds. -/
theorem State.runningBody_eq_some {s : State} {t : Fin 4} {b : TrackBody} :
    s.runningBody t = some b ↔ s.track t = some b ∧ ∃ due at_, b.phase = .running due at_ := by
  unfold State.runningBody
  rcases s.track t with _ | ⟨owner, cue, stack, reasons, phase⟩
  · simp
  · cases phase <;> simp <;> rintro rfl <;> simp

/-- Due events have acted for the owner of a track. -/
structure DueTaken (s : State) (t : Fin 4) (b : TrackBody) (due : Nat) (u : State) : Prop where
  acts : ActsFor b.owner t s u
  after : AfterDue s b due (u.track t)

theorem State.takeRecords_taken (n : Nat) {s : State} {t : Fin 4} {b : TrackBody} (h : s.runningBody t = some b) (due : Nat) :
    DueTaken s t b due (State.takeRecords n s t due) := by
  induction n generalizing s b with
  | zero =>
    simp only [State.takeRecords, h]
    have fault := RecordTaken.faultTrack (ActsFor.refl b.owner t s) rfl rfl id .runaway
    refine ⟨fault.acts, ?_⟩
    have track : (s.faultTrack t b .runaway).track t = some { b with reasons := noReasons, phase := .faulted .runaway } :=
      s.track_setTrack_self t _
    rw [track]
    exact .stopped _ rfl (.inr ⟨_, rfl⟩) id (.inl rfl)
  | succ n ih =>
    have ⟨acts, taken⟩ := s.takeRecord_taken t b
    simp only [State.takeRecords, h]
    split
    · next halted =>
      refine ⟨acts, ?_⟩
      cases hv : (s.takeRecord t b).track t with
      | none => exact .ended
      | some c =>
        rw [hv] at taken
        cases taken with
        | goesOn _ owner reasons phase stack window =>
          obtain ⟨-, running⟩ := State.runningBody_eq_some.mp h
          rw [State.runningBody_eq_some.mpr ⟨hv, phase ▸ running⟩] at halted
          cases halted
        | stopped _ owner phase stack window => exact .stopped c owner phase stack window
    · next c hc =>
      obtain ⟨track, running⟩ := State.runningBody_eq_some.mp hc
      rw [track] at taken
      cases taken with
      | stopped _ _ phase =>
        obtain ⟨_, _, running⟩ := running
        rcases phase with ⟨_, e⟩ | ⟨_, e⟩ <;> rw [running] at e <;> cases e
      | goesOn _ owner reasons phase stack window =>
        split
        · obtain ⟨acts', after'⟩ := ih hc
          exact ⟨acts.trans (owner ▸ acts'), after'.after acts owner (le_refl _) stack (.inr window)⟩
        · next delta =>
          have later : due < due + (s.takeRecord t b).cueDelta c := by omega
          refine ⟨acts.trans (.setTrack _ _), ?_⟩
          rw [State.track_setTrack_self]
          exact AfterDue.after acts owner (le_refl _) stack (.inr window)
            (.goesOn { c with phase := _ } _ rfl later rfl id (.inl rfl))

theorem State.dueNow_eq_some {s : State} {t : Fin 4} {due : Nat} :
    s.dueNow t = some due ↔ s.clock.run = .running ∧ ∃ b at_, s.track t = some b ∧ b.phase = .running due at_ ∧ at_ ≤ s.clock.value := by
  unfold State.dueNow
  rcases s.track t with _ | ⟨owner, cue, stack, reasons, phase⟩
  · simp
  · cases phase with
    | running next at_ =>
      dsimp only
      split
      · next owed =>
        refine ⟨fun h => ⟨owed.1, _, at_, rfl, ?_, owed.2⟩, fun ⟨_, b, a, hb, hp, _⟩ => ?_⟩
        · cases h; rfl
        · cases hb; cases hp; rfl
      · next owed =>
        refine ⟨fun h => (nomatch h), fun ⟨run, b, a, hb, hp, reached⟩ => absurd ⟨run, ?_⟩ owed⟩
        cases hb; cases hp; exact reached
    | _ => simp

theorem State.dueEvent_taken {s : State} {t : Fin 4} {due : Nat} (h : s.dueNow t = some due) {b : TrackBody}
    (hb : s.track t = some b) : DueTaken s t b due (s.dueEvent t) := by
  obtain ⟨-, c, at_, hc, phase, -⟩ := State.dueNow_eq_some.mp h
  obtain rfl : b = c := Option.some.inj (hb.symm.trans hc)
  simp only [State.dueEvent, h]
  exact State.takeRecords_taken _ (State.runningBody_eq_some.mpr ⟨hb, _, _, phase⟩) due

/-- A track that goes on RUNNING under a RUNNING clock is due at its next_due. -/
theorem State.runningAt_of_running {s : State} (run : s.clock.run = .running) (next : Nat) :
    s.runningAt next = .running next next := by
  rw [State.runningAt, State.dueThreshold, if_pos run]

/-- What a track owes after due events: nothing, or one whose next_due is later and does not lie above the clock. -/
theorem DueTaken.dueNow {s u : State} {t : Fin 4} {b : TrackBody} {due : Nat} (run : s.clock.run = .running)
    (h : DueTaken s t b due u) {next : Nat} (owed : u.dueNow t = some next) : due < next ∧ next ≤ s.clock.value := by
  obtain ⟨acts, after⟩ := h
  have clock : u.clock = s.clock := by rw [acts.frame]
  obtain ⟨-, c, at_, hc, phase, reached⟩ := State.dueNow_eq_some.mp owed
  rw [hc] at after
  cases after with
  | goesOn _ next' owner later phase' =>
    rw [phase, State.runningAt_of_running run] at phase'
    injection phase' with e1 e2
    subst e1 e2
    exact ⟨later, clock ▸ reached⟩
  | stopped _ owner stopped => rcases stopped with ⟨_, e⟩ | ⟨_, e⟩ <;> rw [phase] at e <;> cases e

/-! ## Due events one after another -/

theorem State.dueChain_of_none {s : State} {t : Fin 4} (h : s.dueNow t = none) (n : Nat) : State.dueChain n s t = s := by
  cases n with
  | zero => rfl
  | succ n => simp [State.dueChain, h]

theorem State.dueChain_of_some {s : State} {t : Fin 4} {due : Nat} (h : s.dueNow t = some due) (n : Nat) :
    State.dueChain (n + 1) s t = State.dueChain n (s.dueEvent t) t := by
  simp [State.dueChain, h]

theorem DueTaken.trans {s u v : State} {t : Fin 4} {b c : TrackBody} {due next : Nat} (h : DueTaken s t b due u)
    (hc : u.track t = some c) (later : due ≤ next) (k : DueTaken u t c next v) : DueTaken s t b due v := by
  obtain ⟨acts, after⟩ := h
  rw [hc] at after
  cases after with
  | goesOn _ _ owner _ _ stack window | stopped _ owner _ stack window =>
    exact ⟨acts.trans (owner ▸ k.acts), k.after.after acts owner later stack window⟩

/-- A chain of due events long enough to reach the clock's value takes every one that is owed, and a longer one takes no more. -/
theorem State.dueChain_taken (n : Nat) {s : State} {t : Fin 4} {due : Nat} (h : s.dueNow t = some due) {b : TrackBody}
    (hb : s.track t = some b) (enough : s.clock.value ≤ due + n) :
    DueTaken s t b due (State.dueChain (n + 1) s t) ∧ (State.dueChain (n + 1) s t).dueNow t = none
      ∧ ∀ m, n ≤ m → State.dueChain (m + 1) s t = State.dueChain (n + 1) s t := by
  obtain ⟨run, -⟩ := State.dueNow_eq_some.mp h
  induction n generalizing s due b with
  | zero =>
    have taken := State.dueEvent_taken h hb
    rw [State.dueChain_of_some h]
    have none : (s.dueEvent t).dueNow t = none := by
      by_contra owed
      obtain ⟨next, owed⟩ := Option.ne_none_iff_exists'.mp owed
      have := taken.dueNow run owed
      omega
    exact ⟨taken, none, fun m _ => by rw [State.dueChain_of_some h, State.dueChain_of_none none]; rfl⟩
  | succ n ih =>
    have taken := State.dueEvent_taken h hb
    rw [State.dueChain_of_some h]
    rcases owed : (s.dueEvent t).dueNow t with _ | next
    · rw [State.dueChain_of_none owed]
      exact ⟨taken, owed, fun m _ => by rw [State.dueChain_of_some h, State.dueChain_of_none owed]⟩
    · obtain ⟨later, _⟩ := taken.dueNow run owed
      obtain ⟨run', c, _, hc, -⟩ := State.dueNow_eq_some.mp owed
      have clock : (s.dueEvent t).clock = s.clock := by rw [taken.acts.frame]
      obtain ⟨rest, done, longer⟩ := ih owed hc (by rw [clock]; omega) run'
      refine ⟨taken.trans hc later.le rest, done, fun m hm => ?_⟩
      obtain ⟨m, rfl⟩ := Nat.exists_eq_add_of_lt hm
      rw [State.dueChain_of_some h]
      exact longer _ (by omega)

theorem State.takeDue_of_none {s : State} {t : Fin 4} (h : s.dueNow t = none) : s.takeDue t = s := by
  simp only [State.takeDue, h]

theorem State.takeDue_taken {s : State} {t : Fin 4} {due : Nat} (h : s.dueNow t = some due) {b : TrackBody}
    (hb : s.track t = some b) : DueTaken s t b due (s.takeDue t) := by
  simp only [State.takeDue, h]
  exact (State.dueChain_taken _ h hb (by omega)).1

/-- The due events of a track are taken till none is owed. -/
theorem State.takeDue_dueNow (s : State) (t : Fin 4) : (s.takeDue t).dueNow t = none := by
  rcases h : s.dueNow t with _ | due
  · rw [State.takeDue_of_none h, h]
  · obtain ⟨-, b, _, hb, -⟩ := State.dueNow_eq_some.mp h
    simp only [State.takeDue, h]
    exact (State.dueChain_taken _ h hb (by omega)).2.1

/-- The due events of a track are one, and then the due events of the state that it makes. -/
theorem State.takeDue_of_some {s : State} {t : Fin 4} {due : Nat} (h : s.dueNow t = some due) :
    s.takeDue t = (s.dueEvent t).takeDue t := by
  obtain ⟨run, b, _, hb, -⟩ := State.dueNow_eq_some.mp h
  have taken := State.dueEvent_taken h hb
  have clock : (s.dueEvent t).clock = s.clock := by rw [taken.acts.frame]
  simp only [State.takeDue, h]
  rw [State.dueChain_of_some h]
  rcases owed : (s.dueEvent t).dueNow t with _ | next
  · rw [State.dueChain_of_none owed]
  · obtain ⟨later, reached⟩ := taken.dueNow run owed
    obtain ⟨-, c, _, hc, -⟩ := State.dueNow_eq_some.mp owed
    have longer := (State.dueChain_taken (s.clock.value - next) owed hc (by rw [clock]; omega)).2.2
    simp only [clock]
    obtain ⟨m, hm⟩ := Nat.exists_eq_add_of_lt (Nat.lt_of_lt_of_le later reached)
    have fuel : s.clock.value - due = m + 1 := by omega
    rw [fuel]
    exact longer m (by omega)

/-- A track acts for its owner, or nothing happens. -/
theorem State.takeDue_cases (s : State) (t : Fin 4) :
    s.takeDue t = s ∨ ∃ b due at_, s.track t = some b ∧ b.phase = .running due at_ ∧ s.clock.run = .running
      ∧ at_ ≤ s.clock.value ∧ DueTaken s t b due (s.takeDue t) := by
  rcases h : s.dueNow t with _ | due
  · exact .inl (State.takeDue_of_none h)
  · obtain ⟨run, b, at_, hb, phase, reached⟩ := State.dueNow_eq_some.mp h
    exact .inr ⟨b, due, at_, hb, phase, run, reached, State.takeDue_taken h hb⟩

theorem State.takeDue_acts (s : State) (t : Fin 4) : ∃ p, ActsFor p t s (s.takeDue t) := by
  rcases s.takeDue_cases t with same | ⟨b, _, _, -, -, -, -, taken⟩
  · exact ⟨.a, by rw [same]; exact .refl _ _ _⟩
  · exact ⟨b.owner, taken.acts⟩

theorem State.takeDue_track_ne (s : State) {t k : Fin 4} (h : k ≠ t) : (s.takeDue t).track k = s.track k := by
  obtain ⟨p, acts⟩ := s.takeDue_acts t
  exact acts.others k h

theorem State.takeDue_clock (s : State) (t : Fin 4) : (s.takeDue t).clock = s.clock := by
  obtain ⟨p, acts⟩ := s.takeDue_acts t
  rw [acts.frame]

end Sys2Proof.Machine

/-!
# Due events in turn
-/

namespace Sys2Proof.Machine

theorem indices_four : Table.indices 4 = [0, 1, 2, 3] := rfl

theorem State.eachTrack_eq (s : State) (f : State → Fin 4 → State) : s.eachTrack f = f (f (f (f s 0) 1) 2) 3 := rfl

/-- A track's due events leave what another track owes. -/
theorem State.takeDue_dueNow_ne (s : State) {t k : Fin 4} (h : k ≠ t) : (s.takeDue t).dueNow k = s.dueNow k := by
  unfold State.dueNow
  rw [s.takeDue_track_ne h, s.takeDue_clock t]

theorem State.takeOwed_clock (s : State) : s.takeOwed.clock = s.clock := by
  simp only [State.takeOwed, State.eachTrack_eq, State.takeDue_clock]

theorem State.takeOwed_dueNow (s : State) (k : Fin 4) : s.takeOwed.dueNow k = none := by
  rw [State.takeOwed, State.eachTrack_eq]
  match k with
  | 0 => simp [State.takeDue_dueNow_ne, State.takeDue_dueNow]
  | 1 => simp [State.takeDue_dueNow_ne, State.takeDue_dueNow]
  | 2 => simp [State.takeDue_dueNow_ne, State.takeDue_dueNow]
  | 3 => exact State.takeDue_dueNow _ _

theorem Phase.items_next {p : Phase} {due : Nat} : p.items.1 = some due ↔ ∃ at_, p = .running due at_ := by
  cases p <;> simp [Phase.items]

/-- Settles O22: a track's due events reach the clock's value, and no other track's change what it owes. -/
theorem dueEventsInTurn : Obligations.DueEventsInTurn := by
  intro s t k due
  refine ⟨?_, rfl, State.takeDue_of_none, fun owed => ?_, s.takeDue_dueNow t, s.eachTrack_eq _, s.takeOwed_dueNow k,
    s.takeOwed_clock⟩
  · rw [State.dueNow_eq_some]
    refine and_congr_right fun _ => ⟨?_, ?_⟩
    · rintro ⟨b, at_, hb, phase, reached⟩
      refine ⟨b, by rw [hb]; exact List.mem_singleton_self b, Phase.items_next.mpr ⟨at_, phase⟩, at_, ?_, reached⟩
      rw [phase]; exact List.mem_singleton_self at_
    · rintro ⟨b, hb, next, at_, hat, reached⟩
      obtain ⟨at', phase⟩ := Phase.items_next.mp next
      rw [phase] at hat
      obtain rfl := List.mem_singleton.mp hat
      exact ⟨b, at_, Option.mem_toList.mp hb, phase, reached⟩
  · obtain ⟨next, owed⟩ := Option.ne_none_iff_exists'.mp owed
    exact State.takeDue_of_some owed

/-- Settles O24: with no due event owed nothing changes; one that is owed acts for the owner of its track. -/
theorem dueEventTouchesOwnHoldings : Obligations.DueEventTouchesOwnHoldings := by
  intro s p t k b ch due at_ hb
  have stands : s.dueNow t = none → exec (.dueEvent t) s = .next s := fun h => by
    have same : settleIdle s s = s := by simp [settleIdle, idleMatters]
    exact congrArg Host.Outcome.next (by rw [State.takeDue_of_none h, same])
  have owes : ∀ {next}, s.dueNow t = some next → s.clock.run = .running ∧ ∃ at', b.phase = .running next at' ∧ at' ≤ s.clock.value := by
    intro next owed
    obtain ⟨run, c, at', hc, phase, reached⟩ := State.dueNow_eq_some.mp owed
    obtain rfl : b = c := Option.some.inj (hb.symm.trans hc)
    exact ⟨run, at', phase, reached⟩
  have none_of : (∀ next, s.dueNow t ≠ some next) → s.dueNow t = none := Option.eq_none_iff_forall_ne_some.mpr
  refine ⟨fun halted => stands (none_of fun _ owed => halted (owes owed).1), fun other => stands (none_of fun _ owed => ?_),
    fun phase ahead => stands (none_of fun _ owed => ?_), fun phase run reached => ?_⟩
  · obtain ⟨-, at', phase, -⟩ := owes owed
    exact other (by rw [hb, trackName, phase])
  · obtain ⟨-, at', phase', reached⟩ := owes owed
    rw [phase] at phase'
    cases phase'
    omega
  · have owed : s.dueNow t = some due := State.dueNow_eq_some.mpr ⟨run, b, at_, hb, phase, reached⟩
    obtain ⟨acts, after⟩ := State.takeDue_taken owed hb
    refine ⟨_, rfl, ?_⟩
    rw [settleIdle_only]
    generalize hu : s.takeDue t = u at acts after
    have frame := acts.frame
    refine ⟨?_, (acts.heard p).state, (acts.heard p).error, (acts.heard p).resetHeld, acts.others k, ?_, acts.unheld ch, ?_⟩
    · rw [frame]
    · exact acts.entry ch
    · intro c hc d hd
      have hc : u.track t = some c := Option.mem_toList.mp hc
      rw [hc] at after
      obtain ⟨at', running⟩ := Phase.items_next.mp (Option.mem_toList.mp hd)
      cases after with
      | goesOn _ next owner later phase =>
        rw [running, State.runningAt_of_running run] at phase
        cases phase
        exact later
      | stopped _ owner stopped => rcases stopped with ⟨_, e⟩ | ⟨_, e⟩ <;> rw [running] at e <;> cases e

end Sys2Proof.Machine

/-!
# Where only staged slots change

Due events, marker passages, the frames of the audio output and the commits of a frame event change no holding and no wait: of the
Directory they change staged slots alone, and they fill none on a channel that no port holds.
-/

namespace Sys2Proof.Machine

/-- The holdings and the wait queue stand; a slot that differs is empty or belongs to a holder. -/
def Restaged (s t : State) : Prop :=
  t.directory.waiters = s.directory.waiters
    ∧ ∀ ch, (t.entry ch).hold = (s.entry ch).hold
      ∧ ((t.entry ch).slot = (s.entry ch).slot ∨ (t.entry ch).slot = none ∨ (s.entry ch).hold.holder ≠ none)

theorem Restaged.of_directory {s t : State} (h : t.directory = s.directory) : Restaged s t := by
  have entry : ∀ ch, t.entry ch = s.entry ch := fun ch => by unfold State.entry; rw [h]
  exact ⟨by rw [h], fun ch => ⟨by rw [entry], .inl (by rw [entry])⟩⟩

theorem Restaged.refl (s : State) : Restaged s s := .of_directory rfl

theorem Restaged.trans {s t u : State} (h : Restaged s t) (k : Restaged t u) : Restaged s u := by
  obtain ⟨hw, h⟩ := h
  obtain ⟨kw, k⟩ := k
  refine ⟨kw.trans hw, fun ch => ?_⟩
  obtain ⟨hh, hs⟩ := h ch
  obtain ⟨kh, ks⟩ := k ch
  refine ⟨kh.trans hh, ?_⟩
  rcases ks with same | emptied | held
  · rw [same]; exact hs
  · exact .inr (.inl emptied)
  · exact .inr (.inr (hh ▸ held))

theorem ActsFor.restaged {p : Port} {t : Fin 4} {s u : State} (h : ActsFor p t s u) : Restaged s u := by
  refine ⟨by rw [h.directory], fun ch => ⟨h.hold ch, ?_⟩⟩
  by_cases held : (s.entry ch).hold.holder = some p
  · exact .inr (.inr (by rw [held]; exact Option.some_ne_none p))
  · exact .inl (by rw [h.unheld ch held])

theorem State.setSlot_none_restaged (s : State) (ch : Fin 177) : Restaged s (s.setSlot ch none) := by
  refine ⟨rfl, fun c => ?_⟩
  by_cases hc : ch = c
  · subst hc
    simp only [State.setSlot, State.entry_setEntry_self]
    exact ⟨trivial, .inr (.inl trivial)⟩
  · rw [State.setSlot, State.entry_setEntry_ne _ _ hc]
    exact ⟨rfl, .inl rfl⟩

theorem State.stage_restaged (s : State) (p : Port) (ch : Fin 177) (v : Setpoint) : Restaged s (s.stage p ch v).1 :=
  (ActsFor.stage p 0 s ch v).restaged

theorem State.setClock_restaged (s : State) (c : ClockUnit) : Restaged s (s.setClock c) := .of_directory rfl

/-! ## What play keeps -/

/-- What each step of a fold keeps, the fold keeps. -/
theorem foldl_keeps {α β : Type} {P : β → Prop} {f : β → α → β} (step : ∀ s x, P s → P (f s x)) (l : List α) {s : β} (h : P s) :
    P (l.foldl f s) := by
  induction l generalizing s with
  | nil => exact h
  | cons x rest ih => exact ih (step s x h)

theorem State.eachTrack_keeps {P : State → Prop} {f : State → Fin 4 → State} (hf : ∀ s t, P s → P (f s t)) {s : State}
    (h : P s) : P (s.eachTrack f) := foldl_keeps hf _ h

/-- A property that a notice, a new clock record, AUD's slot emptied, a track's due events and a marker's passage at a track leave
standing. -/
structure KeptByPlay (P : State → Prop) : Prop where
  deliver : ∀ s p n, P s → P (s.deliver p n)
  setClock : ∀ s c, P s → P (s.setClock c)
  emptyGain : ∀ s, P s → P (s.setSlot audChannel none)
  takeDue : ∀ s t, P s → P (s.takeDue t)
  passTrack : ∀ m k s t, P s → P (State.passTrack m k s t)

namespace KeptByPlay

variable {P : State → Prop} (k : KeptByPlay P)
include k

theorem postAud (s : State) (kind : NoticeKind) (detail : Nat) (h : P s) : P (s.postAud kind detail) := by
  unfold State.postAud
  split
  · exact k.deliver s _ _ h
  · exact h

theorem rangeEnd (s : State) (h : P s) : P s.rangeEnd := k.setClock _ _ (k.postAud s _ _ h)

theorem meetUnderrun (s : State) (h : P s) : P s.meetUnderrun := by
  unfold State.meetUnderrun
  dsimp only
  split
  · exact k.setClock _ _ (k.postAud s _ _ h)
  · exact k.setClock _ _ (k.postAud s _ _ h)

theorem meetStart (s : State) (h : P s) : P s.meetStart := by
  unfold State.meetStart
  split
  · split
    · exact k.rangeEnd s h
    · split
      · exact k.meetUnderrun s h
      · exact h
  · exact h

theorem endCoasting (s : State) (h : P s) : P s.endCoasting := k.postAud _ _ _ (k.setClock s _ h)

theorem blockArrived (s : State) (h : P s) : P s.blockArrived := by
  unfold State.blockArrived
  split
  · exact k.postAud _ _ _ (k.setClock s _ h)
  · split
    · exact k.endCoasting s h
    · exact h

theorem audioBlock (p : Port) (start : U32) (count marker offset : U8) (reserved : List Byte) (frames : List (Sample × Sample))
    (s : State) (h : P s) : P (audioBlockAction p start count marker offset reserved frames s).1 := by
  unfold audioBlockAction
  split
  · split
    · exact h
    · split
      · exact h
      · split
        · exact h
        · split
          · exact h
          · lift_lets
            extract_lets
            split
            · exact h
            · exact k.blockArrived _ (k.setClock s _ h)
  · exact h

theorem commitGain (s : State) (h : P s) : P s.commitGain := by
  unfold State.commitGain
  split
  · split
    · exact k.emptyGain _ (k.setClock s _ h)
    · exact h
  all_goals exact h

theorem takeOwed (s : State) (h : P s) : P s.takeOwed := State.eachTrack_keeps k.takeDue h

theorem dueAtOnce (before s : State) (t : Fin 4) (h : P s) : P (before.dueAtOnce s t) := by
  unfold State.dueAtOnce
  split
  · exact k.takeDue s t h
  · exact h

theorem passage (s : State) (m n : Nat) (h : P s) : P (s.passage m n) :=
  State.eachTrack_keeps (k.dueAtOnce s) (State.eachTrack_keeps (k.passTrack m n) h)

theorem clockTick (s : State) (h : P s) : P s.clockTick := by
  unfold State.clockTick
  split
  · exact k.setClock _ _ (k.takeOwed s h)
  · exact h

theorem advancePlay (s : State) (position : Nat) (queue : List Block) (h : P s) : P (s.advancePlay position queue) :=
  k.setClock _ _ (k.takeOwed s h)

theorem playFrame (s : State) (b : Block) (h : P s) : P (s.playFrame b) := by
  have committed : P (if b.start = s.clock.position then s.commitGain else s) := by
    split
    · exact k.commitGain s h
    · exact h
  unfold State.playFrame
  split
  · exact k.setClock s _ h
  · dsimp only
    have putOut := fun c => k.setClock _ c committed
    split
    · split
      · exact k.passage _ _ _ (k.setClock _ _ (putOut _))
      · exact putOut _
    · exact putOut _

theorem movePlay (s : State) (h : P s) : P s.movePlay := by
  unfold State.movePlay
  dsimp only
  have moved := fun q => k.advancePlay s (s.clock.position + 1) q h
  split
  · exact k.rangeEnd _ (k.takeOwed _ (moved _))
  · split
    · exact k.meetUnderrun _ (k.takeOwed _ (moved _))
    · exact moved _

theorem audioFrame (s : State) (h : P s) : P s.audioFrame := by
  have resumed : P (if s.clock.coasting = true then s.endCoasting else s) := by
    split
    · exact k.endCoasting s h
    · exact h
  unfold State.audioFrame
  split
  · split
    · exact k.setClock s _ h
    · dsimp only
      split
      · exact k.meetStart _ (k.takeOwed _ (k.setClock _ _ resumed))
      · exact k.movePlay _ (k.playFrame _ _ resumed)
  · exact k.setClock s _ h

theorem coastTick (s : State) (h : P s) : P s.coastTick := by
  unfold State.coastTick
  split
  · dsimp only
    have moved := fun p q => k.advancePlay s p q h
    split
    · exact k.rangeEnd _ (k.takeOwed _ (moved _ _))
    · split
      · exact k.endCoasting _ (moved _ _)
      · exact moved _ _
  · exact h

theorem clockThaw (s : State) (h : P s) : P s.clockThaw := by
  unfold State.clockThaw
  dsimp only
  split
  · exact k.meetStart _ (k.setClock s _ h)
  · exact k.setClock s _ h

end KeptByPlay

/-! ## Play -/

theorem State.takeDue_restaged (s : State) (t : Fin 4) : Restaged s (s.takeDue t) := by
  obtain ⟨p, acts⟩ := s.takeDue_acts t
  exact acts.restaged

theorem State.passTrack_directory (m k : Nat) (s : State) (t : Fin 4) : (State.passTrack m k s t).directory = s.directory := by
  unfold State.passTrack
  split
  · rfl
  · dsimp only
    split
    · split
      · split <;> rfl
      · rfl
    all_goals rfl

/-- Play changes staged slots alone. -/
theorem Restaged.play (s : State) : KeptByPlay (Restaged s) where
  deliver _ _ _ h := h.trans (.of_directory rfl)
  setClock _ _ h := h.trans (.of_directory rfl)
  emptyGain u h := h.trans (u.setSlot_none_restaged audChannel)
  takeDue u t h := h.trans (u.takeDue_restaged t)
  passTrack m k u t h := h.trans (.of_directory (u.passTrack_directory m k t))

/-! ## The frame event -/

theorem State.freezeTrack_directory (s : State) (t : Fin 4) : (s.freezeTrack t).directory = s.directory := by
  unfold State.freezeTrack
  split
  · rfl
  · dsimp only; split <;> rfl

theorem State.thawTrack_directory (s : State) (t : Fin 4) : (s.thawTrack t).directory = s.directory := by
  unfold State.thawTrack
  split
  · rfl
  · dsimp only
    split
    · split <;> rfl
    all_goals rfl

theorem State.safeTrack_directory (s : State) (t : Fin 4) : (s.safeTrack t).directory = s.directory := by
  unfold State.safeTrack
  split
  · rfl
  · dsimp only; split <;> rfl

theorem State.idleForSetup_directory (s : State) (t : Fin 4) : (s.idleForSetup t).directory = s.directory := by
  unfold State.idleForSetup
  split <;> rfl

theorem State.eachTrack_directory (s : State) {f : State → Fin 4 → State} (h : ∀ s t, (f s t).directory = s.directory) :
    (s.eachTrack f).directory = s.directory := by
  simp only [State.eachTrack_eq, h]

theorem State.changeFreeze_restaged (s : State) : Restaged s s.changeFreeze := by
  unfold State.changeFreeze
  split
  · exact .refl s
  · exact .of_directory (State.eachTrack_directory _ State.freezeTrack_directory)
  · exact .refl s
  · exact (Restaged.play s).clockThaw _ (.of_directory (State.eachTrack_directory _ State.thawTrack_directory))

theorem State.commitHeights_restaged (s : State) : Restaged s s.commitHeights := by
  refine ⟨rfl, fun ch => ?_⟩
  have entry : s.commitHeights.entry ch = if ch.val < 128 ∧ (s.heightToCommit ch).isSome = true
      then { s.entry ch with slot := none } else s.entry ch := Table.get_build _ ch
  rw [entry]
  split
  · exact ⟨rfl, .inr (.inl rfl)⟩
  · exact ⟨rfl, .inl rfl⟩

theorem State.mix_restaged (s : State) : Restaged s s.mix := by
  refine ⟨rfl, fun ch => ?_⟩
  have entry : s.mix.entry ch = if 128 ≤ ch.val ∧ ch.val < 176 ∧ (s.colourToCommit ch).isSome = true
      then { s.entry ch with slot := none } else s.entry ch := Table.get_build _ ch
  rw [entry]
  split
  · exact ⟨rfl, .inr (.inl rfl)⟩
  · exact ⟨rfl, .inl rfl⟩

theorem OnlyPorts.directory_eq {s t : State} (h : OnlyPorts s t) : t.directory = s.directory := by
  unfold OnlyPorts at h; rw [h]

theorem OnlySweep.directory_eq {s t : State} (h : OnlySweep s t) : t.directory = s.directory := by
  unfold OnlySweep at h; rw [h]

/-- The Shaper's records computed, before the notices of the headers. -/
def State.slewed (s : State) : State := s.commitHeights.shapeJets.computeHeaders.slewJets

theorem State.shape_eq (s : State) : s.shape = (s.slewed.tellHeaders s.headers).settleRest := rfl

theorem State.slewed_directory (s : State) : s.slewed.directory = s.commitHeights.directory := rfl

theorem State.settleRest_directory (s : State) : s.settleRest.directory = s.directory := rfl

theorem State.shape_restaged (s : State) : Restaged s s.shape := by
  have slewed : Restaged s s.slewed := s.commitHeights_restaged.trans (.of_directory s.slewed_directory)
  have told : Restaged s (s.slewed.tellHeaders s.headers) :=
    slewed.trans (.of_directory (State.tellHeaders_only _ _).directory_eq)
  exact told.trans (.of_directory (State.settleRest_directory _))

theorem State.reachStopped_directory (s : State) : s.reachStopped.directory = s.directory := by
  unfold State.reachStopped
  split <;> rfl

theorem State.evalIdle_directory (s : State) : s.evalIdle.directory = s.directory := by rw [State.evalIdle_only]

/-- A frame event changes no holding and no wait. -/
theorem State.frame_restaged (s : State) : Restaged s s.frame := by
  rw [State.frame_eq]
  have reloaded : Restaged s s.reloadFrame := .of_directory rfl
  have begun := reloaded.trans s.reloadFrame.changeFreeze_restaged
  have shaped := begun.trans (State.shape_restaged _)
  have settled := shaped.trans (.of_directory ((State.reachStopped_directory _).trans (State.evalIdle_directory _)))
  exact (settled.trans (State.mix_restaged _)).trans (.of_directory (State.giveSweep_only _).directory_eq)

end Sys2Proof.Machine

/-!
# The Channel Directory keeps its laws

Each channel is lawful by itself: its claims (the ports that wait for it with their priorities) and its holding. Every operation of
the Directory changes the claims and the holding of one channel, and what it makes of them is lawful.
-/

namespace Sys2Proof.Machine

open Relation (ReflTransGen)

/-- The claims on a channel: the ports that wait for it, with their priorities, in queue order. -/
def State.claims (s : State) (ch : Fin 177) : List (Port × Nat) := (s.waitersOf ch).map fun w => (w.port, w.priority)

/-- A channel's claims beside its holding: no port twice, none without a holder, none of the holder, and RECALLING exactly while a
claim stands above the held priority. -/
structure Lawful (claims : List (Port × Nat)) (h : Hold) : Prop where
  ports : (claims.map Prod.fst).Nodup
  waiting : ∀ c ∈ claims, h.holder ≠ none ∧ h.holder ≠ some c.1
  owed : h.owed fun q => claims.any fun c => decide (q < c.2)

/-- The wait queue and the recalls are lawful. -/
def State.QueueSound (s : State) : Prop := s.directory.waiters.length ≤ 16 ∧ ∀ ch, Lawful (s.claims ch) (s.entry ch).hold

theorem State.waiterAbove_eq (s : State) (ch : Fin 177) (q : Nat) :
    s.waiterAbove ch q = (s.claims ch).any fun c => decide (q < c.2) := by
  simp only [State.waiterAbove, State.claims, List.any_map]
  rfl

theorem pairwise_channel_iff (l : List WaitEntry) :
    l.Pairwise (fun x y => ¬(x.port = y.port ∧ x.channel = y.channel))
      ↔ ∀ ch, ((l.filter fun w => w.channel = ch).map WaitEntry.port).Nodup := by
  simp only [List.Nodup, List.pairwise_map, List.pairwise_filter, decide_eq_true_eq]
  induction l with
  | nil => simp
  | cons w rest ih =>
    simp only [List.pairwise_cons, ih, forall_and]
    refine and_congr_left fun _ => ⟨fun h ch x hx hw hc same => h x hx ⟨same, hw.trans hc.symm⟩, fun h x hx ⟨same, hc⟩ => ?_⟩
    exact h x.channel x hx hc rfl same

/-- The standing properties of the wait queue and of the recalls, channel by channel. -/
theorem State.queueSound_iff (s : State) : s.QueueSound ↔ s.WaitersSound ∧ s.RecallsSound := by
  have ports : ∀ ch, (s.claims ch).map Prod.fst = (s.waitersOf ch).map WaitEntry.port := fun ch => by
    simp only [State.claims, List.map_map]; rfl
  have above : ∀ ch, s.waiterAbove ch = fun q => (s.claims ch).any fun c => decide (q < c.2) := fun ch =>
    funext (s.waiterAbove_eq ch)
  unfold State.WaitersSound State.RecallsSound
  rw [pairwise_channel_iff]
  constructor
  · rintro ⟨room, lawful⟩
    refine ⟨⟨room, fun ch => ports ch ▸ (lawful ch).ports, fun w hw => ?_⟩, fun ch => above ch ▸ (lawful ch).owed⟩
    refine (lawful w.channel).waiting (w.port, w.priority) (List.mem_map.mpr ⟨w, ?_, rfl⟩)
    exact List.mem_filter.mpr ⟨hw, decide_eq_true rfl⟩
  · rintro ⟨⟨room, nodup, waiting⟩, recalls⟩
    refine ⟨room, fun ch => ⟨ports ch ▸ nodup ch, fun c hc => ?_, above ch ▸ recalls ch⟩⟩
    obtain ⟨w, hw, rfl⟩ := List.mem_map.mp hc
    obtain ⟨queued, channel⟩ := List.mem_filter.mp hw
    obtain rfl := of_decide_eq_true channel
    exact waiting w queued

/-! ## One channel -/

theorem Lawful.unclaimed {h : Hold} (calm : ∀ p q d, h ≠ .recalling p q d) : Lawful [] h where
  ports := List.nodup_nil
  waiting := fun _ hc => nomatch hc
  owed := by
    cases h with
    | recalling p q d => exact absurd rfl (calm p q d)
    | held => rfl
    | free | safed => trivial

/-- No port waits for a channel that no port holds. -/
theorem Lawful.no_claims {l : List (Port × Nat)} {h : Hold} (k : Lawful l h) (free : h.holder = none) : l = [] :=
  List.eq_nil_iff_forall_not_mem.mpr fun c hc => (k.waiting c hc).1 free

/-- Some claims leave, and the holding changes under its holder. -/
theorem Lawful.sublist {l l' : List (Port × Nat)} {h h' : Hold} (k : Lawful l h) (sub : l'.Sublist l)
    (same : h'.holder = h.holder) (owed : h'.owed fun q => l'.any fun c => decide (q < c.2)) : Lawful l' h' :=
  ⟨(sub.map Prod.fst).nodup k.ports, fun c hc => same ▸ k.waiting c (sub.subset hc), owed⟩

/-- The holding changes and its holder stays. -/
theorem Lawful.rehold {l : List (Port × Nat)} {h h' : Hold} (k : Lawful l h) (same : h'.holder = h.holder)
    (owed : h'.owed fun q => l.any fun c => decide (q < c.2)) : Lawful l h' := k.sublist (List.Sublist.refl l) same owed

/-- A port's claim takes a new priority in its place. -/
def repriced (p : Port) (q : Nat) (c : Port × Nat) : Port × Nat := if c.1 = p then (c.1, q) else c

theorem repriced_fst (p : Port) (q : Nat) (c : Port × Nat) : (repriced p q c).1 = c.1 := by
  unfold repriced; split <;> rfl

/-- A channel's claims with a port's claim queued: updated in its place, or at the tail. -/
inductive Queued (p : Port) (q : Nat) (l : List (Port × Nat)) : List (Port × Nat) → Prop
  | updated (h : p ∈ l.map Prod.fst) : Queued p q l (l.map (repriced p q))
  | joined (h : p ∉ l.map Prod.fst) : Queued p q l (l ++ [(p, q)])

theorem Queued.mem {p : Port} {q : Nat} {l l' : List (Port × Nat)} (h : Queued p q l l') : (p, q) ∈ l' := by
  cases h with
  | updated h =>
    obtain ⟨c, hc, rfl⟩ := List.mem_map.mp h
    exact List.mem_map.mpr ⟨c, hc, if_pos rfl⟩
  | joined h => exact List.mem_append_right _ (List.mem_singleton_self _)

theorem Queued.of_mem {p : Port} {q : Nat} {l l' : List (Port × Nat)} (h : Queued p q l l') {c : Port × Nat} (hc : c ∈ l') :
    c = (p, q) ∨ c ∈ l := by
  cases h with
  | updated h =>
    obtain ⟨d, hd, rfl⟩ := List.mem_map.mp hc
    unfold repriced
    split
    · next same => exact .inl (by rw [same])
    · exact .inr hd
  | joined h =>
    rcases List.mem_append.mp hc with hc | hc
    · exact .inr hc
    · exact .inl (List.mem_singleton.mp hc)

theorem Queued.ports {p : Port} {q : Nat} {l l' : List (Port × Nat)} (h : Queued p q l l') (k : (l.map Prod.fst).Nodup) :
    (l'.map Prod.fst).Nodup := by
  cases h with
  | updated h =>
    rw [List.map_map, show Prod.fst ∘ repriced p q = Prod.fst from funext (repriced_fst p q)]
    exact k
  | joined h =>
    rw [List.map_append, List.nodup_append]
    refine ⟨k, List.nodup_singleton _, fun x hx y hy => ?_⟩
    obtain rfl := List.mem_singleton.mp hy
    rintro rfl
    exact h hx

/-- A port that does not hold a held channel queues its claim. -/
theorem Queued.lawful {p : Port} {q : Nat} {l l' : List (Port × Nat)} (h : Queued p q l l') {hold hold' : Hold}
    (k : Lawful l hold) (same : hold'.holder = hold.holder) (held : hold.holder ≠ none) (other : hold.holder ≠ some p)
    (owed : hold'.owed fun r => l'.any fun c => decide (r < c.2)) : Lawful l' hold' where
  ports := h.ports k.ports
  waiting c hc := by
    have ports : c.1 = p ∨ ∃ d ∈ l, d.1 = c.1 := by
      cases h with
      | updated h =>
        obtain ⟨d, hd, rfl⟩ := List.mem_map.mp hc
        exact .inr ⟨d, hd, (repriced_fst p q d).symm⟩
      | joined h =>
        rcases List.mem_append.mp hc with hc | hc
        · exact .inr ⟨c, hc, rfl⟩
        · exact .inl (by rw [List.mem_singleton.mp hc])
    rw [same]
    rcases ports with own | ⟨d, hd, e⟩
    · exact ⟨held, own ▸ other⟩
    · exact e ▸ k.waiting d hd
  owed := owed

/-! ## What the operations make of claims -/

theorem State.claims_of_waiters {s t : State} (h : t.directory.waiters = s.directory.waiters) (ch : Fin 177) :
    t.claims ch = s.claims ch := by
  unfold State.claims State.waitersOf; rw [h]

theorem State.claims_setWaiters (s : State) (l : List WaitEntry) (ch : Fin 177) :
    (s.setWaiters l).claims ch = (l.filter fun w => w.channel = ch).map fun w => (w.port, w.priority) := rfl

theorem State.claims_dropWaiter_self (s : State) (p : Port) (ch : Fin 177) :
    (s.dropWaiter p ch).claims ch = (s.claims ch).filter fun c => !(c.1 == p) := by
  rw [State.dropWaiter, State.claims_setWaiters, List.filter_filter]
  simp only [State.claims, State.waitersOf, List.filter_map, List.filter_filter]
  congr 1
  refine List.filter_congr fun w _ => ?_
  by_cases hc : w.channel = ch <;> simp [hc]

theorem State.claims_dropWaiter_ne (s : State) (p : Port) {ch c : Fin 177} (h : c ≠ ch) :
    (s.dropWaiter p ch).claims c = s.claims c := by
  rw [State.dropWaiter, State.claims_setWaiters, List.filter_filter]
  unfold State.claims State.waitersOf
  congr 1
  refine List.filter_congr fun w _ => ?_
  by_cases hc : w.channel = c
  · simp [hc, h]
  · simp [hc]

theorem filter_map_channel (f : WaitEntry → WaitEntry) (channel : ∀ w, (f w).channel = w.channel) (l : List WaitEntry)
    (ch : Fin 177) : ((l.map f).filter fun w => w.channel = ch) = (l.filter fun w => w.channel = ch).map f := by
  rw [List.filter_map]
  congr 1
  exact List.filter_congr fun w _ => by simp only [Function.comp_apply, channel]

theorem State.claims_reprioritise_self (s : State) (p : Port) (ch : Fin 177) (q : Nat) :
    (s.reprioritise p ch q).claims ch = (s.claims ch).map (repriced p q) := by
  rw [State.reprioritise, State.claims_setWaiters, filter_map_channel _ fun w => by split <;> rfl]
  simp only [State.claims, State.waitersOf, List.map_map]
  refine List.map_congr_left fun w hw => ?_
  have channel : w.channel = ch := by simpa using (List.mem_filter.mp hw).2
  simp only [Function.comp_apply, repriced, channel, and_true]
  split <;> rfl

theorem State.claims_reprioritise_ne (s : State) (p : Port) {ch c : Fin 177} (q : Nat) (h : c ≠ ch) :
    (s.reprioritise p ch q).claims c = s.claims c := by
  rw [State.reprioritise, State.claims_setWaiters, filter_map_channel _ fun w => by split <;> rfl]
  simp only [State.claims, State.waitersOf, List.map_map]
  refine List.map_congr_left fun w hw => ?_
  have channel : w.channel = c := by simpa using (List.mem_filter.mp hw).2
  simp [channel, h]

theorem renumber_claims (n : Nat) (l : List WaitEntry) (ch : Fin 177) :
    ((renumber n l).filter fun w => w.channel = ch).map (fun w => (w.port, w.priority))
      = (l.filter fun w => w.channel = ch).map fun w => (w.port, w.priority) := by
  induction l generalizing n with
  | nil => rfl
  | cons w rest ih =>
    simp only [renumber, List.filter_cons]
    by_cases hc : w.channel = ch <;> simp [hc, ih]

theorem renumber_length (n : Nat) (l : List WaitEntry) : (renumber n l).length = l.length := by
  induction l generalizing n with
  | nil => rfl
  | cons w rest ih => simp [renumber, ih]

theorem State.claims_addWaiter (s : State) (p : Port) (ch c : Fin 177) (q : Nat) :
    (s.addWaiter p ch q).claims c = if ch = c then s.claims c ++ [(p, q)] else s.claims c := by
  have joined : ((s.directory.waiters ++ [(⟨p, ch, q, s.directory.arrivals⟩ : WaitEntry)]).filter fun w => w.channel = c).map
      (fun w => (w.port, w.priority)) = if ch = c then s.claims c ++ [(p, q)] else s.claims c := by
    by_cases h : ch = c <;> simp [State.claims, State.waitersOf, List.filter_append, h]
  unfold State.addWaiter
  dsimp only
  split
  · exact (renumber_claims 1 _ c).trans joined
  · exact joined

theorem State.addWaiter_length (s : State) (p : Port) (ch : Fin 177) (q : Nat) :
    (s.addWaiter p ch q).directory.waiters.length = s.directory.waiters.length + 1 := by
  unfold State.addWaiter
  dsimp only
  split <;> simp [renumber_length]

theorem State.waits_iff (s : State) (p : Port) (ch : Fin 177) : s.waits p ch = true ↔ p ∈ (s.claims ch).map Prod.fst := by
  simp only [State.waits, State.claims, State.waitersOf, List.any_eq_true, List.map_map, List.mem_map, List.mem_filter,
    Bool.and_eq_true, beq_iff_eq, decide_eq_true_eq, Function.comp_apply]
  exact ⟨fun ⟨w, hw, hp, hc⟩ => ⟨w, ⟨hw, hc⟩, hp⟩, fun ⟨w, ⟨hw, hc⟩, hp⟩ => ⟨w, hw, hp, hc⟩⟩

/-! ## Operations at one channel -/

/-- Claims, holding and slot of every channel but one stand, and the wait queue stays within its room. -/
structure AtChannel (ch : Fin 177) (s t : State) : Prop where
  claims : ∀ c, c ≠ ch → t.claims c = s.claims c
  entry : ∀ c, c ≠ ch → t.entry c = s.entry c
  room : s.directory.waiters.length ≤ 16 → t.directory.waiters.length ≤ 16

theorem AtChannel.of_directory (ch : Fin 177) {s t : State} (h : t.directory = s.directory) : AtChannel ch s t :=
  ⟨fun c _ => State.claims_of_waiters (by rw [h]) c, fun c _ => by unfold State.entry; rw [h], by rw [h]; exact id⟩

theorem AtChannel.refl (ch : Fin 177) (s : State) : AtChannel ch s s := .of_directory ch rfl

theorem AtChannel.trans {ch : Fin 177} {s t u : State} (h : AtChannel ch s t) (k : AtChannel ch t u) : AtChannel ch s u :=
  ⟨fun c hc => (k.claims c hc).trans (h.claims c hc), fun c hc => (k.entry c hc).trans (h.entry c hc), k.room ∘ h.room⟩

theorem AtChannel.queueSound {ch : Fin 177} {s t : State} (h : AtChannel ch s t) (hs : s.QueueSound)
    (own : Lawful (t.claims ch) (t.entry ch).hold) : t.QueueSound := by
  obtain ⟨room, lawful⟩ := hs
  refine ⟨h.room room, fun c => ?_⟩
  by_cases hc : c = ch
  · exact hc ▸ own
  · rw [h.claims c hc, h.entry c hc]; exact lawful c

theorem AtChannel.setEntry (ch : Fin 177) (s : State) (e : ChannelEntry) : AtChannel ch s (s.setEntry ch e) :=
  ⟨fun _ _ => rfl, fun _ hc => s.entry_setEntry_ne e (Ne.symm hc), id⟩

theorem AtChannel.setHold (ch : Fin 177) (s : State) (h : Hold) : AtChannel ch s (s.setHold ch h) := .setEntry ch s _

theorem AtChannel.post (ch : Fin 177) (s : State) (p : Port) (k : NoticeKind) (subject detail : Nat) :
    AtChannel ch s (s.post p k subject detail) := .of_directory ch rfl

theorem State.tellWatchers_directory (s : State) (ch : Fin 177) (detail : Nat) :
    (s.tellWatchers ch detail).directory = s.directory := (s.tellWatchers_only ch detail).directory_eq

theorem AtChannel.tellWatchers (ch : Fin 177) (s : State) (detail : Nat) : AtChannel ch s (s.tellWatchers ch detail) :=
  .of_directory ch (s.tellWatchers_directory ch detail)

theorem AtChannel.dropWaiter (ch : Fin 177) (s : State) (p : Port) : AtChannel ch s (s.dropWaiter p ch) :=
  ⟨fun _ hc => s.claims_dropWaiter_ne p hc, fun _ _ => rfl, fun room => (List.length_filter_le _ _).trans room⟩

/-- A claim queued changes its channel's claims alone. -/
theorem State.enqueueClaim_queued {s t : State} {p : Port} {ch : Fin 177} {q : Nat} (h : s.enqueueClaim p ch q = some t) :
    AtChannel ch s t ∧ t.entry ch = s.entry ch ∧ Queued p q (s.claims ch) (t.claims ch) := by
  unfold State.enqueueClaim at h
  split at h
  · next present =>
    cases h
    refine ⟨⟨fun _ hc => s.claims_reprioritise_ne p q hc, fun _ _ => rfl, fun room => ?_⟩, rfl, ?_⟩
    · rw [State.reprioritise, State.waiters_setWaiters, List.length_map]; exact room
    · rw [s.claims_reprioritise_self p ch q]
      exact .updated ((s.waits_iff p ch).mp present)
  · next absent =>
    split at h
    · next space =>
      cases h
      have entry : ∀ c, (s.addWaiter p ch q).entry c = s.entry c := fun c => by
        unfold State.addWaiter; dsimp only; split <;> rfl
      have claims := fun c => s.claims_addWaiter p ch c q
      refine ⟨⟨fun c hc => by rw [claims, if_neg (Ne.symm hc)], fun c _ => entry c, fun _ => ?_⟩, entry ch, ?_⟩
      · have space : s.directory.waiters.length < 16 := of_decide_eq_true space
        rw [State.addWaiter_length]
        exact space
      · rw [claims, if_pos rfl]
        exact .joined fun present => absent ((s.waits_iff p ch).mpr present)
    · cases h

/-! ### Claims -/

theorem State.hold_setHold (s : State) (ch : Fin 177) (h : Hold) : ((s.setHold ch h).entry ch).hold = h := by
  rw [State.setHold, State.entry_setEntry_self]

theorem State.claims_setHold (s : State) (ch c : Fin 177) (h : Hold) : (s.setHold ch h).claims c = s.claims c := rfl

/-- A holding replaced by one that is lawful beside the claims that stand. -/
theorem State.setHold_queueSound {s : State} (hs : s.QueueSound) (ch : Fin 177) (h : Hold) (own : Lawful (s.claims ch) h) :
    (s.setHold ch h).QueueSound :=
  (AtChannel.setHold ch s h).queueSound hs (by rw [State.hold_setHold, State.claims_setHold]; exact own)

theorem State.QueueSound.of_directory {s t : State} (hs : s.QueueSound) (h : t.directory = s.directory) : t.QueueSound := by
  obtain ⟨room, lawful⟩ := hs
  refine ⟨by rw [h]; exact room, fun ch => ?_⟩
  have claims : t.claims ch = s.claims ch := State.claims_of_waiters (by rw [h]) ch
  have entry : t.entry ch = s.entry ch := by unfold State.entry; rw [h]
  rw [claims, entry]
  exact lawful ch

theorem State.startRecall_queueSound {s : State} (hs : s.QueueSound) {ch : Fin 177} {p : Port} {q : Nat}
    (own : ∀ d, Lawful (s.claims ch) (.recalling p q d)) : (s.startRecall ch p q).QueueSound :=
  (State.setHold_queueSound hs ch _ (own _)).of_directory rfl

theorem State.endRecall_queueSound {s : State} (hs : s.QueueSound) {ch : Fin 177} {p : Port} {q : Nat}
    (own : Lawful (s.claims ch) (.held p q)) : (s.endRecall ch p q).QueueSound :=
  (State.setHold_queueSound hs ch _ own).of_directory rfl

theorem State.grant_queueSound {s : State} (hs : s.QueueSound) {ch : Fin 177} (free : (s.entry ch).hold = .free) (p : Port)
    (q : Nat) : (s.grant ch p q).QueueSound := by
  have claims : s.claims ch = [] := (hs.2 ch).no_claims (by rw [free]; rfl)
  have held : (s.setHold ch (.held p q)).QueueSound :=
    State.setHold_queueSound hs ch _ (by rw [claims]; exact .unclaimed fun _ _ _ => Hold.noConfusion)
  exact held.of_directory (State.tellWatchers_directory _ _ _)

theorem State.reclaim_queueSound {s : State} (hs : s.QueueSound) (ch : Fin 177) (p : Port) (q : Nat)
    (own : (s.entry ch).hold.holder = some p) : (s.reclaim ch p q).QueueSound := by
  have lawful := hs.2 ch
  have above := s.waiterAbove_eq ch q
  unfold State.reclaim
  split
  · next hold =>
    split
    · next high => exact State.startRecall_queueSound hs fun d => lawful.rehold own.symm (above.symm.trans high)
    · next high =>
      exact State.setHold_queueSound hs ch _ (lawful.rehold own.symm (above.symm.trans (Bool.eq_false_iff.mpr high)))
  · next hold =>
    split
    · next high => exact State.setHold_queueSound hs ch _ (lawful.rehold own.symm (above.symm.trans high))
    · next high => exact State.endRecall_queueSound hs (lawful.rehold own.symm (above.symm.trans (Bool.eq_false_iff.mpr high)))
  · exact hs
  · exact hs

theorem any_above_eq_false {l : List (Port × Nat)} {q : Nat} (h : ∀ c ∈ l, c.2 ≤ q) :
    (l.any fun c => decide (q < c.2)) = false := by
  rw [List.any_eq_false]
  intro c hc
  have := h c hc
  simpa using this

theorem State.claimHeld_queueSound {s : State} (hs : s.QueueSound) {ch : Fin 177} {p holder : Port} {q : Nat}
    (hold : (s.entry ch).hold = .held holder q) (other : holder ≠ p) (r : Nat) (wait : Bool) :
    (s.claimHeld ch p holder q r wait).1.QueueSound := by
  have lawful := hs.2 ch
  rw [hold] at lawful
  have ne : (Hold.held holder q).holder ≠ some p := fun e => other (Option.some.inj e)
  unfold State.claimHeld
  split
  · next higher =>
    split
    · next t queued =>
      obtain ⟨at_, entry, claims⟩ := State.enqueueClaim_queued queued
      have recalled : ∀ d, Lawful (t.claims ch) (.recalling holder q d) := fun d =>
        claims.lawful lawful rfl (Option.some_ne_none _) ne (List.any_eq_true.mpr ⟨_, claims.mem, decide_eq_true higher⟩)
      have moved : AtChannel ch s (t.startRecall ch holder q) := (at_.trans (.setHold ch t _)).trans (.post ch _ _ _ _ _)
      exact moved.queueSound hs ((State.hold_setHold t ch _).symm ▸ recalled _)
    · exact hs
  · next lower =>
    split
    · split
      · next t queued =>
        obtain ⟨at_, entry, claims⟩ := State.enqueueClaim_queued queued
        refine at_.queueSound hs (entry ▸ hold ▸ claims.lawful lawful rfl (Option.some_ne_none _) ne ?_)
        refine any_above_eq_false fun c hc => ?_
        rcases claims.of_mem hc with rfl | old
        · exact Nat.le_of_not_lt lower
        · have calm := List.any_eq_false.mp lawful.owed c old
          simpa using calm
      · exact hs
    · exact hs

theorem State.claimRecalling_queueSound {s : State} (hs : s.QueueSound) {ch : Fin 177} {p holder : Port} {q d : Nat}
    (hold : (s.entry ch).hold = .recalling holder q d) (other : holder ≠ p) (r : Nat) (wait : Bool) :
    (s.claimRecalling ch p holder q r wait).1.QueueSound := by
  have lawful := hs.2 ch
  rw [hold] at lawful
  have ne : (Hold.recalling holder q d).holder ≠ some p := fun e => other (Option.some.inj e)
  unfold State.claimRecalling
  split
  · split
    · next t queued =>
      obtain ⟨at_, entry, claims⟩ := State.enqueueClaim_queued queued
      have above := t.waiterAbove_eq ch q
      dsimp only
      split
      · next high =>
        exact at_.queueSound hs (entry ▸ hold ▸ claims.lawful lawful rfl (Option.some_ne_none _) ne (above.symm.trans high))
      · next high =>
        have calm : Lawful (t.claims ch) (.held holder q) :=
          claims.lawful lawful rfl (Option.some_ne_none _) ne (above.symm.trans (Bool.eq_false_iff.mpr high))
        have moved : AtChannel ch s (t.endRecall ch holder q) := (at_.trans (.setHold ch t _)).trans (.post ch _ _ _ _ _)
        exact moved.queueSound hs ((State.hold_setHold t ch _).symm ▸ calm)
    · exact hs
  · exact hs

theorem State.claimChannel_queueSound {s : State} (hs : s.QueueSound) (p : Port) (ch : Fin 177) (r : Nat) (wait : Bool) :
    (s.claimChannel p ch r wait).1.QueueSound := by
  unfold State.claimChannel
  split
  · next hold => exact State.grant_queueSound hs hold p r
  · next holder q hold =>
    split
    · next own => exact State.reclaim_queueSound hs ch p r (by rw [hold, own]; rfl)
    · next other => exact State.claimHeld_queueSound hs hold other r wait
  · next holder q d hold =>
    split
    · next own => exact State.reclaim_queueSound hs ch p r (by rw [hold, own]; rfl)
    · next other => exact State.claimRecalling_queueSound hs hold other r wait
  · exact hs

end Sys2Proof.Machine

/-!
# Transfers, safety entry, SETUP and show reset in the Directory
-/

namespace Sys2Proof.Machine

/-! ## The winner of the waiters (01 R6) -/

/-- A waiter is at least as good as another: a higher priority, or the same and no later an arrival. -/
def WaitEntry.beats (w x : WaitEntry) : Prop := x.priority < w.priority ∨ (x.priority = w.priority ∧ w.arrival ≤ x.arrival)

theorem WaitEntry.beats_refl (w : WaitEntry) : w.beats w := .inr ⟨rfl, le_refl _⟩

theorem WaitEntry.beats_trans {w x y : WaitEntry} (h : w.beats x) (k : x.beats y) : w.beats y := by
  unfold WaitEntry.beats at *
  omega

theorem betterWaiter_cases (x y : WaitEntry) :
    (betterWaiter x y = x ∨ betterWaiter x y = y) ∧ (betterWaiter x y).beats x ∧ (betterWaiter x y).beats y := by
  unfold betterWaiter
  split
  · next better => exact ⟨.inr rfl, by unfold WaitEntry.beats; omega, y.beats_refl⟩
  · next worse => exact ⟨.inl rfl, x.beats_refl, by unfold WaitEntry.beats; omega⟩

theorem foldl_betterWaiter (l : List WaitEntry) (w : WaitEntry) :
    l.foldl betterWaiter w ∈ w :: l ∧ ∀ x ∈ w :: l, (l.foldl betterWaiter w).beats x := by
  induction l generalizing w with
  | nil => exact ⟨List.mem_singleton_self w, fun x hx => List.mem_singleton.mp hx ▸ w.beats_refl⟩
  | cons y rest ih =>
    obtain ⟨which, bw, by_⟩ := betterWaiter_cases w y
    obtain ⟨mem, best⟩ := ih (betterWaiter w y)
    have first := best _ List.mem_cons_self
    refine ⟨?_, fun x hx => ?_⟩
    · rcases List.mem_cons.mp mem with e | rest'
      · rw [List.foldl_cons, e]
        rcases which with e | e <;> rw [e] <;> simp
      · exact List.mem_cons_of_mem _ (List.mem_cons_of_mem _ rest')
    · rcases List.mem_cons.mp hx with rfl | hx
      · exact WaitEntry.beats_trans first bw
      · rcases List.mem_cons.mp hx with rfl | hx
        · exact WaitEntry.beats_trans first by_
        · exact best x (List.mem_cons_of_mem _ hx)

theorem winnerOf_eq_none {l : List WaitEntry} : winnerOf l = none ↔ l = [] := by
  cases l <;> simp [winnerOf]

/-- The winner is one of the waiters, and beats every one of them. -/
theorem winnerOf_eq_some {l : List WaitEntry} {w : WaitEntry} (h : winnerOf l = some w) : w ∈ l ∧ ∀ x ∈ l, w.beats x := by
  cases l with
  | nil => cases h
  | cons y rest =>
    cases h
    exact foldl_betterWaiter rest y

/-! ## Transfers (01 R15) -/

theorem State.waitersOf_setSlot (s : State) (ch c : Fin 177) (v : Option Setpoint) :
    (s.setSlot ch v).waitersOf c = s.waitersOf c := rfl

theorem State.transfer_of_none {s : State} {ch : Fin 177} (h : winnerOf (s.waitersOf ch) = none) :
    s.transfer ch = ((s.setSlot ch none).setHold ch .free).tellWatchers ch 0 := by
  simp only [State.transfer, State.waitersOf_setSlot, h]

theorem State.transfer_of_some {s : State} {ch : Fin 177} {w : WaitEntry} (h : winnerOf (s.waitersOf ch) = some w) :
    s.transfer ch = (((((s.setSlot ch none).dropWaiter w.port ch).setHold ch (.held w.port w.priority)).post
      w.port .granted ch.val w.priority).tellWatchers ch (holderDetail w.port)) := by
  simp only [State.transfer, State.waitersOf_setSlot, h]

theorem State.QueueSound.transfer {s : State} (hs : s.QueueSound) (ch : Fin 177) : (s.transfer ch).QueueSound := by
  have lawful := hs.2 ch
  rcases h : winnerOf (s.waitersOf ch) with _ | w
  · rw [State.transfer_of_none h]
    have claims : s.claims ch = [] := by rw [State.claims, winnerOf_eq_none.mp h]; rfl
    have moved : AtChannel ch s ((s.setSlot ch none).setHold ch .free) := (AtChannel.setEntry ch s _).trans (.setEntry ch _ _)
    have own : ((s.setSlot ch none).setHold ch .free).claims ch = [] := claims
    exact (moved.queueSound hs (by rw [own, State.hold_setHold]; exact .unclaimed fun _ _ _ => Hold.noConfusion)).of_directory
      (State.tellWatchers_directory _ _ _)
  · rw [State.transfer_of_some h]
    obtain ⟨mem, best⟩ := winnerOf_eq_some h
    have emptied : AtChannel ch s (s.setSlot ch none) := .setEntry ch s _
    have moved := (emptied.trans (.dropWaiter ch _ w.port)).trans (.setHold ch _ (.held w.port w.priority))
    have claims : (((s.setSlot ch none).dropWaiter w.port ch).setHold ch (.held w.port w.priority)).claims ch
        = (s.claims ch).filter fun c => !(c.1 == w.port) := State.claims_dropWaiter_self _ _ _
    have own : Lawful ((s.claims ch).filter fun c => !(c.1 == w.port)) (.held w.port w.priority) := by
      have sub := List.filter_sublist (p := fun c => !(c.1 == w.port)) (l := s.claims ch)
      refine ⟨(sub.map Prod.fst).nodup lawful.ports, fun c hc => ⟨Option.some_ne_none _, fun e => ?_⟩,
        any_above_eq_false fun c hc => ?_⟩
      · have other := (List.mem_filter.mp hc).2
        simp [Option.some.inj e] at other
      · obtain ⟨x, hx, rfl⟩ := List.mem_map.mp (sub.subset hc)
        rcases best x hx with below | ⟨same, -⟩
        · exact below.le
        · exact same.le
    have held := moved.queueSound hs (by rw [claims, State.hold_setHold]; exact own)
    exact State.QueueSound.of_directory held (State.tellWatchers_directory _ _ _)

theorem State.withdraw_queueSound {s : State} (hs : s.QueueSound) (p : Port) (ch : Fin 177) : (s.withdraw p ch).QueueSound := by
  have lawful := hs.2 ch
  have dropped : AtChannel ch s (s.dropWaiter p ch) := .dropWaiter ch s p
  have sub : ((s.dropWaiter p ch).claims ch).Sublist (s.claims ch) := s.claims_dropWaiter_self p ch ▸ List.filter_sublist
  have entry : (s.dropWaiter p ch).entry ch = s.entry ch := rfl
  have above := (s.dropWaiter p ch).waiterAbove_eq ch
  unfold State.withdraw
  dsimp only
  split
  · next holder q d hold =>
    rw [entry] at hold
    split
    · next high =>
      refine dropped.queueSound hs (lawful.sublist sub rfl ?_)
      rw [entry, hold]
      exact (above q).symm.trans high
    · next low =>
      have calm : Lawful ((s.dropWaiter p ch).claims ch) (.held holder q) :=
        lawful.sublist sub (by rw [hold]; rfl) ((above q).symm.trans (Bool.eq_false_iff.mpr low))
      have ended : AtChannel ch s ((s.dropWaiter p ch).endRecall ch holder q) :=
        (dropped.trans (.setHold ch _ _)).trans (.post ch _ _ _ _ _)
      exact ended.queueSound hs ((State.hold_setHold _ ch _).symm ▸ calm)
  · next hold =>
    exact dropped.queueSound hs (lawful.sublist sub rfl (by rw [hold]; trivial))
  · next holder q hold =>
    refine dropped.queueSound hs (lawful.sublist sub rfl ?_)
    have owed := lawful.owed
    rw [← entry, hold] at owed
    rw [hold]
    exact List.any_eq_false.mpr fun c hc => List.any_eq_false.mp owed c (sub.subset hc)
  · next hold =>
    exact dropped.queueSound hs (lawful.sublist sub rfl (by rw [hold]; trivial))

theorem State.releaseChannel_queueSound {s : State} (hs : s.QueueSound) (p : Port) (ch : Fin 177) :
    (s.releaseChannel p ch).1.QueueSound := by
  unfold State.releaseChannel
  split
  · exact hs.transfer ch
  · split
    · exact s.withdraw_queueSound hs p ch
    · exact hs

theorem State.expireRecall_queueSound {s : State} (hs : s.QueueSound) (ch : Fin 177) : (s.expireRecall ch).QueueSound := by
  unfold State.expireRecall
  split
  · next holder _ _ _ =>
    split
    · have told : (s.post holder .lost ch.val 1).QueueSound := hs.of_directory rfl
      exact told.transfer ch
    · exact hs
  all_goals exact hs

/-! ## Where the holdings stand -/

theorem Restaged.queueSound {s t : State} (h : Restaged s t) (hs : s.QueueSound) : t.QueueSound := by
  obtain ⟨waiters, entries⟩ := h
  obtain ⟨room, lawful⟩ := hs
  refine ⟨by rw [waiters]; exact room, fun ch => ?_⟩
  rw [(entries ch).1, State.claims_of_waiters waiters ch]
  exact lawful ch

theorem State.setWatch_restaged (s : State) (p : Port) (ch : Fin 177) (on : Bool) : Restaged s (s.setWatch p ch on) := by
  refine ⟨rfl, fun c => ?_⟩
  by_cases hc : ch = c
  · subst hc
    simp only [State.setWatch, State.entry_setEntry_self]
    exact ⟨trivial, .inl trivial⟩
  · rw [State.setWatch, State.entry_setEntry_ne _ _ hc]
    exact ⟨rfl, .inl rfl⟩

theorem State.rangeAct_queueSound {s : State} (hs : s.QueueSound) (x : Port) (op : RangeOp) (ch : Fin 177) :
    (s.rangeAct x op ch).1.QueueSound := by
  have lawful := hs.2 ch
  unfold State.rangeAct
  split
  · next q =>
    split
    · next hold => exact State.grant_queueSound hs hold x q
    · next holder r hold =>
      split
      · next own =>
        rw [hold] at lawful
        refine State.setHold_queueSound hs ch _ (lawful.rehold (by rw [← own.1]; rfl) (any_above_eq_false fun c hc => ?_))
        have calm := List.any_eq_false.mp lawful.owed c hc
        have low : c.2 ≤ r := by simpa using calm
        exact low.trans own.2
      · exact hs
    · next holder r d hold =>
      rw [hold] at lawful
      have above := s.waiterAbove_eq ch q
      split
      · next own =>
        dsimp only
        split
        · next high =>
          exact State.setHold_queueSound hs ch _ (lawful.rehold (by rw [← own.1]; rfl) (above.symm.trans high))
        · next low =>
          exact State.endRecall_queueSound hs
            (lawful.rehold (by rw [← own.1]; rfl) (above.symm.trans (Bool.eq_false_iff.mpr low)))
      · exact hs
    · exact hs
  · split
    · exact hs.transfer ch
    · exact hs
  · exact (s.stage_restaged x ch _).queueSound hs
  · exact (s.setWatch_restaged x ch true).queueSound hs
  · exact (s.setWatch_restaged x ch false).queueSound hs

theorem State.rangeStep_queueSound {s : State} (hs : s.QueueSound) (r : RangeRecord) : (s.rangeStep r).QueueSound := by
  unfold State.rangeStep
  split
  · next h =>
    have acted := State.rangeAct_queueSound hs r.issuer r.op ⟨r.next, h⟩
    dsimp only
    split
    · exact acted.of_directory rfl
    · exact acted.of_directory rfl
  · exact hs

/-! ## Safety, SETUP and show reset (01 R25 to R29) -/

/-- What a fold's step brings about for its own element, and leaves for every other, holds of each element after the fold. -/
theorem foldl_brings {α : Type} {P : α → State → Prop} {f : State → α → State} (own : ∀ s x, P x (f s x))
    (kept : ∀ s x y, P y s → P y (f s x)) {l : List α} {x : α} (hx : x ∈ l) (s : State) : P x (l.foldl f s) := by
  induction l generalizing s with
  | nil => cases hx
  | cons y rest ih =>
    rcases List.mem_cons.mp hx with rfl | hx
    · exact foldl_keeps (fun s z => kept s z x) rest (own s x)
    · exact ih hx _

theorem State.dropWaiters_eq (s : State) (ch : Fin 177) (detail : Nat) :
    (s.dropWaiters ch detail).directory.entries = s.directory.entries
      ∧ (s.dropWaiters ch detail).directory.waiters = s.directory.waiters.filter fun w => !(w.channel == ch) := by
  have posted : ((s.waitersOf ch).foldl (fun u w => u.post w.port .claimDropped ch.val detail) s).directory = s.directory :=
    (foldl_related OnlyPorts.refl OnlyPorts.trans (fun u (w : WaitEntry) => u.post_only w.port .claimDropped ch.val detail .none)
      s _).directory_eq
  unfold State.dropWaiters
  dsimp only
  split
  · next empty =>
    rw [posted]
    refine ⟨rfl, (List.filter_eq_self.mpr fun w hw => ?_).symm⟩
    have absent := List.eq_nil_iff_forall_not_mem.mp (List.isEmpty_iff.mp empty) w
    simp only [State.waitersOf, List.mem_filter, hw, true_and, decide_eq_true_eq] at absent
    simpa using absent
  · have entries : ∀ (u : State) l, (u.setWaiters l).directory.entries = u.directory.entries := fun _ _ => rfl
    rw [State.waiters_setWaiters, entries, posted]
    exact ⟨rfl, rfl⟩

theorem State.dropWaiters_entry (s : State) (ch c : Fin 177) (detail : Nat) : (s.dropWaiters ch detail).entry c = s.entry c := by
  unfold State.entry
  rw [(s.dropWaiters_eq ch detail).1]

theorem State.claims_dropWaiters_self (s : State) (ch : Fin 177) (detail : Nat) : (s.dropWaiters ch detail).claims ch = [] := by
  unfold State.claims State.waitersOf
  rw [(s.dropWaiters_eq ch detail).2, List.filter_filter, List.map_eq_nil_iff, List.filter_eq_nil_iff]
  intro w _
  simp

theorem AtChannel.dropWaiters (ch : Fin 177) (s : State) (detail : Nat) : AtChannel ch s (s.dropWaiters ch detail) where
  claims c hc := by
    unfold State.claims State.waitersOf
    rw [(s.dropWaiters_eq ch detail).2, List.filter_filter]
    congr 1
    refine List.filter_congr fun w _ => ?_
    by_cases h : w.channel = c
    · simp [h, hc]
    · simp [h]
  entry c _ := s.dropWaiters_entry ch c detail
  room room := by
    rw [(s.dropWaiters_eq ch detail).2]
    exact (List.length_filter_le _ _).trans room

/-- The entry of a channel replaced, its claims dropped before. -/
theorem State.cleared_queueSound {s t : State} (hs : s.QueueSound) {ch : Fin 177} (moved : AtChannel ch s t)
    (claims : t.claims ch = []) (calm : ∀ p q d, (t.entry ch).hold ≠ .recalling p q d) : t.QueueSound :=
  moved.queueSound hs (claims ▸ .unclaimed calm)

theorem State.postLost_directory (s : State) (ch : Fin 177) (detail : Nat) : (s.postLost ch detail).directory = s.directory :=
  (s.postLost_only ch detail).directory_eq

theorem State.safeChannel_at (s : State) (ch : Fin 177) : AtChannel ch s (s.safeChannel ch) :=
  (((AtChannel.of_directory ch (s.postLost_directory ch 2)).trans (.dropWaiters ch _ 2)).trans (.setEntry ch _ _)).trans
    (.tellWatchers ch _ 4)

theorem State.safeChannel_entry (s : State) (ch : Fin 177) :
    (s.safeChannel ch).entry ch = { s.entry ch with hold := .safed, slot := none } := by
  have told := State.tellWatchers_directory (((s.postLost ch 2).dropWaiters ch 2).setEntry ch
    { ((s.postLost ch 2).dropWaiters ch 2).entry ch with hold := .safed, slot := none }) ch 4
  have entry : ((s.postLost ch 2).dropWaiters ch 2).entry ch = s.entry ch := by
    rw [State.dropWaiters_entry]; unfold State.entry; rw [s.postLost_directory]
  calc (s.safeChannel ch).entry ch
      _ = (((s.postLost ch 2).dropWaiters ch 2).setEntry ch
        { ((s.postLost ch 2).dropWaiters ch 2).entry ch with hold := .safed, slot := none }).entry ch := by
          unfold State.entry; exact congrArg (fun d : Directory => d.entries.get ch) told
      _ = { s.entry ch with hold := .safed, slot := none } := by rw [State.entry_setEntry_self, entry]

theorem State.claims_of_directory {s t : State} (h : t.directory = s.directory) (ch : Fin 177) : t.claims ch = s.claims ch :=
  State.claims_of_waiters (by rw [h]) ch

theorem State.entry_of_directory {s t : State} (h : t.directory = s.directory) (ch : Fin 177) : t.entry ch = s.entry ch := by
  unfold State.entry; rw [h]

theorem State.safeChannel_claims (s : State) (ch : Fin 177) : (s.safeChannel ch).claims ch = [] :=
  (State.claims_of_directory (State.tellWatchers_directory _ _ _) ch).trans (State.claims_dropWaiters_self _ ch 2)

theorem State.safeChannel_queueSound (s : State) (ch : Fin 177) (hs : s.QueueSound) : (s.safeChannel ch).QueueSound :=
  State.cleared_queueSound hs (s.safeChannel_at ch) (s.safeChannel_claims ch) fun p q d => by
    rw [s.safeChannel_entry]; exact Hold.noConfusion

theorem State.freeSafed_queueSound (s : State) (ch : Fin 177) (hs : s.QueueSound) : (s.freeSafed ch).QueueSound := by
  unfold State.freeSafed
  split
  · next safed =>
    have claims : s.claims ch = [] := (hs.2 ch).no_claims (by rw [safed]; rfl)
    have freed : (s.setHold ch .free).QueueSound :=
      State.setHold_queueSound hs ch _ (claims ▸ .unclaimed fun _ _ _ => Hold.noConfusion)
    exact freed.of_directory (State.tellWatchers_directory _ _ _)
  · exact hs

/-- The entry that entry to SETUP leaves (01 R27). -/
theorem State.releaseForSetup_entry (s : State) (ch : Fin 177) :
    (s.releaseForSetup ch).entry ch = if (s.entry ch).hold.holder = none then s.entry ch
      else { s.entry ch with hold := .free, slot := none } := by
  unfold State.releaseForSetup
  split
  · next p held =>
    rw [if_neg (by rw [held]; exact Option.some_ne_none p), State.entry_of_directory (State.tellWatchers_directory _ _ _),
      State.entry_setEntry_self, State.dropWaiters_entry]
    rfl
  · next free => rw [if_pos free, State.dropWaiters_entry]

theorem State.releaseForSetup_at (s : State) (ch : Fin 177) : AtChannel ch s (s.releaseForSetup ch) := by
  unfold State.releaseForSetup
  split
  · exact (((AtChannel.post ch s _ _ _ _).trans (.dropWaiters ch _ 3)).trans (.setEntry ch _ _)).trans (.tellWatchers ch _ 0)
  · exact .dropWaiters ch s 3

theorem State.releaseForSetup_claims (s : State) (ch : Fin 177) : (s.releaseForSetup ch).claims ch = [] := by
  unfold State.releaseForSetup
  split
  · exact (State.claims_of_directory (State.tellWatchers_directory _ _ _) ch).trans (State.claims_dropWaiters_self _ ch 3)
  · exact s.claims_dropWaiters_self ch 3

theorem State.releaseForSetup_holder (s : State) (ch : Fin 177) : ((s.releaseForSetup ch).entry ch).hold.holder = none := by
  rw [s.releaseForSetup_entry]
  split
  · assumption
  · rfl

/-- Entry to SETUP leaves no channel held. -/
theorem State.directorySetupEntry_holder (s : State) (ch : Fin 177) : (s.directorySetupEntry.entry ch).hold.holder = none := by
  have kept : ∀ (s : State) (x y : Fin 177), (s.entry y).hold.holder = none → ((s.releaseForSetup x).entry y).hold.holder = none := by
    intro s x y free
    by_cases h : y = x
    · exact h ▸ s.releaseForSetup_holder x
    · rw [(s.releaseForSetup_at x).entry y h]; exact free
  have released := foldl_brings (P := fun ch s => (s.entry ch).hold.holder = none) State.releaseForSetup_holder kept
    (Table.mem_indices ch) s
  rw [State.directorySetupEntry, State.entry_setWaiters]
  exact released

theorem State.directorySetupEntry_waiters (s : State) : s.directorySetupEntry.directory.waiters = [] :=
  State.waiters_setWaiters _ []

theorem Lawful.no_holder {h : Hold} (free : h.holder = none) : Lawful [] h :=
  .unclaimed fun p q d e => by rw [e] at free; cases free

theorem State.directorySetupEntry_queueSound (s : State) : s.directorySetupEntry.QueueSound := by
  refine ⟨by rw [s.directorySetupEntry_waiters]; exact Nat.zero_le _, fun ch => ?_⟩
  have claims : s.directorySetupEntry.claims ch = [] := State.claims_setWaiters _ [] ch
  rw [claims]
  exact .no_holder (s.directorySetupEntry_holder ch)

theorem State.directoryShowReset_entry (s : State) (ch : Fin 177) :
    s.directoryShowReset.entry ch = showResetEntry (s.safety.state == .normal) ch := Table.get_build _ ch

theorem showResetEntry_holder (normal : Bool) (ch : Fin 177) : (showResetEntry normal ch).hold.holder = none := by
  unfold showResetEntry
  dsimp only
  split <;> rfl

theorem State.directoryShowReset_queueSound (s : State) : s.directoryShowReset.QueueSound := by
  refine ⟨Nat.zero_le _, fun ch => ?_⟩
  have claims : s.directoryShowReset.claims ch = [] := rfl
  rw [claims, s.directoryShowReset_entry]
  exact .no_holder (showResetEntry_holder _ ch)

end Sys2Proof.Machine

/-!
# What the field link and the sensor keep

A property that stands when a notice is delivered, when the Supervisor's standing record changes, when a cause is added and when
the sweep moves, stands at every end of a transmission and at every write of an entry.
-/

namespace Sys2Proof.Machine

/-- A property that a notice, a change of the sensor's part of the Supervisor's record and a cause added leave standing. -/
structure KeptBySensor (P : State → Prop) : Prop where
  deliver : ∀ s p n, P s → P (s.deliver p n)
  supervise : ∀ s r, r.state = s.safety.state → r.causes = s.safety.causes → r.first = s.safety.first →
    r.freeze = s.safety.freeze → r.intrusionPending = s.safety.intrusionPending → P s → P (s.setSafety r)
  cause : ∀ s c, c ∉ s.safety.causes → P s → P (s.addCause c)

namespace KeptBySensor

variable {P : State → Prop} (k : KeptBySensor P)
include k

theorem postTo (s : State) (ps : PortSet) (kind : NoticeKind) (subject detail : Nat) (h : P s) :
    P (s.postTo ps kind subject detail) :=
  foldl_keeps (fun u p hu => by split; exacts [k.deliver u p _ hu, hu]) allPorts h

theorem tellSafety (s : State) (detail : Nat) (h : P s) : P (s.tellSafety detail) := k.postTo s everyPort _ _ _ h

theorem tellNode (s : State) (n : Fin 32) (detail : Nat) (h : P s) : P (s.tellNode n detail) := k.postTo s everyPort _ _ _ h

theorem addCauseOnce (s : State) (c : Cause) (h : P s) : P (s.addCauseOnce c) := by
  unfold State.addCauseOnce
  split
  · exact h
  · next absent => exact k.cause s c (by simpa [Supervisor.has] using absent) h

theorem setWind (s : State) (w : Wind) (h : P s) : P (s.setWind w) := by
  unfold State.setWind
  split
  · exact h
  · exact k.tellSafety _ _ (k.supervise s { s.safety with wind := w } rfl rfl rfl rfl rfl h)

theorem evalWind (s : State) (h : P s) : P s.evalWind := k.setWind s _ h

theorem takeGust (s : State) (r : Nat) (h : P s) : P (s.takeGust r) := by
  unfold State.takeGust
  split
  · exact k.supervise s _ rfl rfl rfl rfl rfl h
  · split
    · exact h
    · exact k.supervise s _ rfl rfl rfl rfl rfl h

theorem takeLevel (s : State) (low : Bool) (h : P s) : P (s.takeLevel low) := by
  have read := k.supervise s { s.safety with levelLow := low } rfl rfl rfl rfl rfl h
  unfold State.takeLevel
  dsimp only
  split
  · exact k.addCauseOnce _ _ read
  · exact read

theorem takeReading (s : State) (wind : Nat) (low : Bool) (h : P s) : P (s.takeReading wind low) :=
  k.takeLevel _ _ (k.evalWind _ (k.takeGust s wind h))

theorem sensorOnline (s : State) (h : P s) : P s.sensorOnline := by
  unfold State.sensorOnline
  split
  · exact h
  · exact k.evalWind _ (k.supervise s { s.safety with standing := .present } rfl rfl rfl rfl rfl h)

theorem sensorLost (s : State) (h : P s) : P s.sensorLost := by
  unfold State.sensorLost
  split
  · exact h
  · exact k.addCauseOnce _ _ (k.setWind _ _ (k.supervise s { s.safety with standing := .missing } rfl rfl rfl rfl rfl h))

theorem handLoss (s : State) (n : Fin 32) (h : P s) : P (s.handLoss n) := by
  unfold State.handLoss
  split
  · exact k.sensorLost s h
  · exact h

end KeptBySensor

/-- A property that stands beside that when the sweep moves and the node records change. -/
structure KeptByField (P : State → Prop) : Prop extends KeptBySensor P where
  sweep : ∀ s t, OnlySweep s t → P s → P t

namespace KeptByField

variable {P : State → Prop} (k : KeptByField P)
include k

theorem loseNode (s : State) (n : Fin 32) (r : NodeRecord) (detail : Nat) (h : P s) : P (s.loseNode n r detail) :=
  k.handLoss _ n (k.tellNode _ n detail (k.sweep s _ (s.setNode_only n _) h))

theorem missNode (s : State) (n : Fin 32) (h : P s) : P (s.missNode n) := by
  unfold State.missNode
  dsimp only
  split
  · exact h
  · split
    · exact k.loseNode s n _ _ h
    · exact k.sweep s _ (s.setNode_only n _) h

theorem busyNode (s : State) (n : Fin 32) (h : P s) : P (s.busyNode n) := by
  unfold State.busyNode
  dsimp only
  split
  · exact k.loseNode s n _ _ h
  · split
    · exact k.handLoss _ n (k.sweep s _ (s.setNode_only n _) h)
    · exact k.sweep s _ (s.setNode_only n _) h

theorem ackNode (s : State) (n : Fin 32) (body : AckBody) (h : P s) : P (s.ackNode n body) := by
  have acked := k.sweep s _ (s.setNode_only n ((s.node n).acked body)) h
  unfold State.ackNode
  split
  · exact acked
  · exact acked
  · split
    · exact k.takeReading _ _ _ acked
    · exact k.takeReading _ _ _ (k.sensorOnline _ acked)

theorem identNode (s : State) (n : Fin 32) (h : P s) : P (s.identNode n) := by
  unfold State.identNode
  dsimp only
  split
  · exact k.tellNode _ n 0 (k.sweep s _ (s.setNode_only n _) h)
  · exact k.sweep s _ (s.setNode_only n _) h

theorem ending {act : State → Transmission → State} (e : EndOfTransmission act) (s : State) (tx : Transmission) (h : P s) :
    P (act s tx) := by
  cases e with
  | ack body =>
    unfold State.endAck
    split
    · exact k.ackNode s _ body h
    · exact k.missNode s _ h
  | busy =>
    unfold State.endBusy
    split
    · exact k.busyNode s _ h
    · exact k.missNode s _ h
  | ident ty =>
    unfold State.endIdent
    split
    · exact k.identNode s _ h
    · exact k.missNode s _ h
  | miss => exact k.missNode s _ h

theorem endTransmission {act : State → Transmission → State} (e : EndOfTransmission act) (s : State) (h : P s) :
    P (s.endTransmission act) := by
  unfold State.endTransmission
  split
  · exact h
  · split
    · exact k.sweep _ _ (State.goOn_only _ _ _) (k.ending e s _ h)
    · exact k.sweep _ _ (State.goOn_only _ _ _) h

theorem nodeWritten (s : State) (n : Fin 32) (before : NodeType) (h : P s) : P (s.nodeWritten n before) := by
  have uncounted := k.sweep s _ (s.uncount_only n) h
  unfold State.nodeWritten
  dsimp only
  split
  · exact uncounted
  · have fresh := k.sweep (s.uncount n) _ (State.setNode_only _ n (.fresh (s.config.nodes.get n))) uncounted
    have told : P (if ((s.uncount n).node n).state = .lost
        then ((s.uncount n).setNode n (.fresh (s.config.nodes.get n))).tellNode n 3
        else (s.uncount n).setNode n (.fresh (s.config.nodes.get n))) := by
      split
      · exact k.tellNode _ n 3 fresh
      · exact fresh
    split
    · exact k.sensorLost _ told
    · exact told

/-- What stands after the entry has been replaced stands after the blocks have heard of it. -/
theorem writeEntry (s : State) (index : Nat) (e : ConfigEntry) (h : P { s with config := s.config.put index e }) :
    P (s.writeEntry index e) := by
  cases e with
  | node t => exact k.nodeWritten _ _ _ h
  | global g => exact k.evalWind _ h
  | rights _ => exact h
  | jet _ => exact h
  | header _ => exact h
  | fixture _ => exact h

end KeptByField

/-! ## Entry to STOPPING, block by block (08 R145) -/

/-- The Supervisor's record at entry to STOPPING. -/
def Supervisor.stoppingFor (r : Supervisor) (c : Cause) : Supervisor :=
  { r with state := .stopping, causes := [c], first := some c, further := false }

/-- Entry to STOPPING down to the tracks, before the clock stops. -/
def State.takenForStop (s : State) (c : Cause) : State :=
  (s.setSafety (s.safety.stoppingFor c)).directorySafetyEntry.rangeSafetyEntry.eachTrack State.safeTrack

theorem State.enterStopping_eq (s : State) (c : Cause) :
    s.enterStopping c = (s.takenForStop c).clockSafetyEntry.tellSafety (causeCode c) := rfl

theorem State.rangeSafetyEntry_directory (s : State) : s.rangeSafetyEntry.directory = s.directory := by
  unfold State.rangeSafetyEntry
  split
  · split <;> rfl
  · rfl

theorem State.clockSafetyEntry_directory (s : State) : s.clockSafetyEntry.directory = s.directory := rfl

/-! ## Properties of the Directory alone -/

/-- A property of the Directory that making a channel SAFED leaves standing. -/
structure KeptInDirectory (P : State → Prop) : Prop where
  elsewhere : ∀ s t, t.directory = s.directory → P s → P t
  safed : ∀ s ch, P s → P (s.safeChannel ch)

namespace KeptInDirectory

variable {P : State → Prop} (k : KeptInDirectory P)
include k

theorem enterStopping (s : State) (c : Cause) (h : P s) : P (s.enterStopping c) := by
  have recorded := k.elsewhere s (s.setSafety (s.safety.stoppingFor c)) rfl h
  have safed : P (s.setSafety (s.safety.stoppingFor c)).directorySafetyEntry := foldl_keeps k.safed stageChannels recorded
  have ranges := k.elsewhere _ _ (State.rangeSafetyEntry_directory _) safed
  have tracks : P (s.takenForStop c) := k.elsewhere _ _ (State.eachTrack_directory _ State.safeTrack_directory) ranges
  have clock := k.elsewhere _ _ (State.clockSafetyEntry_directory _) tracks
  rw [State.enterStopping_eq]
  exact k.elsewhere _ _ (State.tellSafety_only _ _).directory_eq clock

theorem addCause (s : State) (c : Cause) (h : P s) : P (s.addCause c) := by
  unfold State.addCause
  split
  · exact k.enterStopping s c h
  · exact k.elsewhere s _ rfl h
  · exact k.elsewhere s _ rfl h

theorem field : KeptByField P where
  deliver s _ _ h := k.elsewhere s _ rfl h
  supervise s _ _ _ _ _ _ h := k.elsewhere s _ rfl h
  cause s c _ h := k.addCause s c h
  sweep s t e h := k.elsewhere s t e.directory_eq h

end KeptInDirectory

end Sys2Proof.Machine

/-!
# Every step keeps the Directory sound
-/

namespace Sys2Proof.Machine

/-- A property of the Directory that each of its operations keeps. -/
structure KeptByDirectory (P : State → Prop) : Prop extends KeptInDirectory P where
  restaged : ∀ s t, Restaged s t → P s → P t
  claim : ∀ s p ch q wait, P s → P (State.claimChannel s p ch q wait).1
  release : ∀ s p ch, P s → P (State.releaseChannel s p ch).1
  expireRecall : ∀ s ch, P s → P (State.expireRecall s ch)
  rangeAct : ∀ s x op ch, P s → P (State.rangeAct s x op ch).1
  freeSafed : ∀ s ch, P s → P (State.freeSafed s ch)
  setupEntry : ∀ s, P s → P (State.directorySetupEntry s)
  showReset : ∀ s, P (State.directoryShowReset s)
  reset : ∀ s : State, s.directory = Directory.reset → P s

theorem State.showReset_directory (s : State) : s.showReset.directory = s.directoryShowReset.directory := by
  have cleared : s.clearedShow.directory = s.directoryShowReset.directory := rfl
  have dark : ∀ (t : State) d, (t.goDark d).directory = t.directory := fun _ _ => rfl
  rw [State.showReset_eq]
  split
  · rw [dark, cleared]
  · exact cleared

theorem State.rangeSetupEntry_directory (s : State) : s.rangeSetupEntry.directory = s.directory := by
  unfold State.rangeSetupEntry
  split <;> rfl

theorem State.emptiedForSetup_directory (s : State) :
    s.emptiedForSetup.directory = (s.setMode .setup).directorySetupEntry.directory :=
  (State.eachTrack_directory _ State.idleForSetup_directory).trans (State.rangeSetupEntry_directory _)

theorem State.enterSetup_directory (s : State) : s.enterSetup.directory = s.emptiedForSetup.directory := by
  have clock : ∀ t : State, t.clockSetupEntry.directory = t.directory := fun _ => rfl
  have jets : ∀ t : State, t.shaperSetupEntry.directory = t.directory := fun _ => rfl
  have fixtures : ∀ t : State, t.mixerSetupEntry.directory = t.directory := fun _ => rfl
  have told : ∀ t : State, (t.tellMode 0).directory = t.directory := fun _ => rfl
  rw [State.enterSetup_eq, told, fixtures, jets, clock]

namespace KeptByDirectory

variable {P : State → Prop} (k : KeptByDirectory P)
include k

theorem rangeStep (s : State) (r : RangeRecord) (h : P s) : P (s.rangeStep r) := by
  unfold State.rangeStep
  split
  · next hn =>
    have acted := k.rangeAct s r.issuer r.op ⟨r.next, hn⟩ h
    dsimp only
    split
    · exact k.elsewhere (s.rangeAct r.issuer r.op ⟨r.next, hn⟩).1 _ rfl acted
    · exact k.elsewhere (s.rangeAct r.issuer r.op ⟨r.next, hn⟩).1 _ rfl acted
  · exact h

theorem returnToNormal (s : State) (h : P s) : P s.returnToNormal := by
  have left := k.elsewhere s (s.setSafety { s.safety with state := .normal, first := none, further := false }) rfl h
  exact k.elsewhere _ _ (State.tellSafety_only _ 0).directory_eq (foldl_keeps k.freeSafed _ left)

theorem acknowledge (p : Port) (s : State) (h : P s) : P (safetyAckAction p s).1 := by
  unfold safetyAckAction
  split_ifs
  · exact h
  · exact h
  · have heard := k.elsewhere s (s.setSafety s.safety.acknowledged) rfl h
    dsimp only
    split
    · exact k.returnToNormal _ heard
    · exact heard

theorem enterSetup (s : State) (h : P s) : P s.enterSetup := by
  have emptied := k.setupEntry (s.setMode .setup) (k.elsewhere s _ rfl h)
  exact k.elsewhere _ _ (s.enterSetup_directory.trans s.emptiedForSetup_directory) emptied

theorem powerOn (s : State) (estop : Bool) (held : PerPort Bool) : P (s.powerOn estop held) := by
  have started := k.reset (s.startedUp held) rfl
  rw [State.powerOn_eq]
  split
  · unfold State.assertEstop
    split
    · exact started
    · exact k.field.addCauseOnce _ _ (k.elsewhere (s.startedUp held) _ rfl started)
  · exact started

theorem effect {m : Manner} {s t : State} (e : Effect m s t) (h : P s) : P t := by
  cases e with
  | claim p ch q wait => exact k.claim s p ch q wait h
  | release p ch => exact k.release s p ch h
  | stage p ch v => exact k.restaged _ _ (s.stage_restaged p ch v) h
  | watch p ch on => exact k.restaged _ _ (s.setWatch_restaged p ch on) h
  | expireRecall ch => exact k.expireRecall s ch h
  | rangeStep r => exact k.rangeStep s r h
  | due t => exact k.restaged _ _ (s.takeDue_restaged t) h
  | startClock source point => exact k.restaged _ _ ((Restaged.play s).meetStart _ (.of_directory rfl)) h
  | block p start count marker offset reserved frames =>
    exact k.restaged _ _ ((Restaged.play s).audioBlock p start count marker offset reserved frames s (.refl s)) h
  | clockTick => exact k.restaged _ _ ((Restaged.play s).clockTick s (.refl s)) h
  | audioFrame => exact k.restaged _ _ ((Restaged.play s).audioFrame s (.refl s)) h
  | coastTick => exact k.restaged _ _ ((Restaged.play s).coastTick s (.refl s)) h
  | cause c absent => exact k.field.cause s c absent h
  | acknowledge p => exact k.acknowledge p s h
  | reply e => exact k.field.endTransmission e s h
  | write table bytes index entry => exact k.field.writeEntry s index entry (k.elsewhere s _ rfl h)
  | enterSetup => exact k.enterSetup s h
  | showReset => exact k.elsewhere _ _ s.showReset_directory (k.showReset s)
  | frame => exact k.restaged _ _ s.frame_restaged h
  | powerOn estop held => exact k.powerOn s estop held
  | _ => exact k.elsewhere s _ rfl h

/-- A property of the Directory that each of its operations keeps, every step keeps. -/
theorem step {s t : State} (h : Machine.step s = .next t) (hs : P s) : P t :=
  step_keeps_of_effects (fun s _ _ hs => k.elsewhere s _ rfl hs) (fun s _ hs => k.elsewhere s _ rfl hs)
    (fun e hs => k.effect e hs) h hs

end KeptByDirectory

theorem State.QueueSound.kept : KeptByDirectory State.QueueSound where
  elsewhere _ _ e h := h.of_directory e
  safed s ch h := s.safeChannel_queueSound ch h
  restaged _ _ e h := e.queueSound h
  claim _ p ch q wait h := State.claimChannel_queueSound h p ch q wait
  release _ p ch h := State.releaseChannel_queueSound h p ch
  expireRecall _ ch h := State.expireRecall_queueSound h ch
  rangeAct _ x op ch h := State.rangeAct_queueSound h x op ch
  freeSafed s ch h := s.freeSafed_queueSound ch h
  setupEntry s _ := s.directorySetupEntry_queueSound
  showReset s := s.directoryShowReset_queueSound
  reset s e := by
    refine ⟨by rw [e]; exact Nat.zero_le _, fun ch => ?_⟩
    have entry : s.entry ch = ChannelEntry.reset := by unfold State.entry; rw [e]; exact Table.get_fill _ ch
    have claims : s.claims ch = [] := by unfold State.claims State.waitersOf; rw [e]; rfl
    rw [claims, entry]
    exact .no_holder rfl

/-! ## Slots (01 R3) -/

/-- An operation leaves no slot filled on a channel that it leaves unheld. -/
def SlotsKept (s t : State) : Prop :=
  ∀ ch, (t.entry ch).hold.holder = none →
    (t.entry ch).slot = none ∨ ((s.entry ch).hold.holder = none ∧ (t.entry ch).slot = (s.entry ch).slot)

theorem SlotsKept.of_directory {s t : State} (h : t.directory = s.directory) : SlotsKept s t := fun ch free => by
  rw [State.entry_of_directory h ch] at free ⊢
  exact .inr ⟨free, rfl⟩

theorem SlotsKept.refl (s : State) : SlotsKept s s := .of_directory rfl

theorem SlotsKept.trans {s t u : State} (h : SlotsKept s t) (k : SlotsKept t u) : SlotsKept s u := fun ch free => by
  rcases k ch free with emptied | ⟨free, same⟩
  · exact .inl emptied
  · rw [same]; exact h ch free

theorem SlotsKept.sound {s t : State} (h : SlotsKept s t) (hs : s.SlotsSound) : t.SlotsSound := fun ch free => by
  rcases h ch free with emptied | ⟨free, same⟩
  · exact emptied
  · rw [same]; exact hs ch free

theorem Restaged.slotsKept {s t : State} (h : Restaged s t) : SlotsKept s t := fun ch free => by
  obtain ⟨-, entries⟩ := h
  obtain ⟨hold, slot⟩ := entries ch
  rw [hold] at free
  rcases slot with same | emptied | held
  · exact .inr ⟨free, same⟩
  · exact .inl emptied
  · exact absurd free held

theorem SlotsKept.setEntry {s : State} {ch : Fin 177} {e : ChannelEntry}
    (h : e.hold.holder = none → e.slot = none ∨ ((s.entry ch).hold.holder = none ∧ e.slot = (s.entry ch).slot)) :
    SlotsKept s (s.setEntry ch e) := fun c free => by
  by_cases hc : ch = c
  · subst hc
    rw [State.entry_setEntry_self] at free ⊢
    exact h free
  · rw [State.entry_setEntry_ne _ _ hc] at free ⊢
    exact .inr ⟨free, rfl⟩

theorem SlotsKept.setHold {s : State} {ch : Fin 177} {h : Hold} (held : h.holder ≠ none) : SlotsKept s (s.setHold ch h) :=
  .setEntry fun free => absurd free held

theorem SlotsKept.of_entries {s t : State} (h : t.directory.entries = s.directory.entries) : SlotsKept s t := fun ch free => by
  have entry : t.entry ch = s.entry ch := by unfold State.entry; rw [h]
  rw [entry] at free ⊢
  exact .inr ⟨free, rfl⟩

theorem SlotsKept.held {s : State} (ch : Fin 177) (p : Port) (q : Nat) : SlotsKept s (s.setHold ch (.held p q)) :=
  .setHold (Option.some_ne_none p)

theorem SlotsKept.recalling {s : State} (ch : Fin 177) (p : Port) (q d : Nat) : SlotsKept s (s.setHold ch (.recalling p q d)) :=
  .setHold (Option.some_ne_none p)

theorem State.grant_slotsKept (s : State) (ch : Fin 177) (p : Port) (q : Nat) : SlotsKept s (s.grant ch p q) :=
  (SlotsKept.held ch p q).trans (.of_directory (State.tellWatchers_directory _ _ _))

theorem State.startRecall_slotsKept (s : State) (ch : Fin 177) (p : Port) (q : Nat) : SlotsKept s (s.startRecall ch p q) :=
  (SlotsKept.recalling ch p q _).trans (.of_directory rfl)

theorem State.endRecall_slotsKept (s : State) (ch : Fin 177) (p : Port) (q : Nat) : SlotsKept s (s.endRecall ch p q) :=
  (SlotsKept.held ch p q).trans (.of_directory rfl)

theorem State.reclaim_slotsKept (s : State) (ch : Fin 177) (p : Port) (q : Nat) : SlotsKept s (s.reclaim ch p q) := by
  unfold State.reclaim
  split
  · split
    · exact s.startRecall_slotsKept ch p q
    · exact .held ch p q
  · split
    · exact .recalling ch p q _
    · exact s.endRecall_slotsKept ch p q
  · exact .refl s
  · exact .refl s

theorem State.enqueueClaim_slotsKept {s t : State} {p : Port} {ch : Fin 177} {q : Nat} (h : s.enqueueClaim p ch q = some t) :
    SlotsKept s t := by
  obtain ⟨at_, entry, -⟩ := State.enqueueClaim_queued h
  intro c free
  have same : t.entry c = s.entry c := by
    by_cases hc : c = ch
    · exact hc ▸ entry
    · exact at_.entry c hc
  rw [same] at free ⊢
  exact .inr ⟨free, rfl⟩

theorem State.claimChannel_slotsKept (s : State) (p : Port) (ch : Fin 177) (q : Nat) (wait : Bool) :
    SlotsKept s (s.claimChannel p ch q wait).1 := by
  unfold State.claimChannel
  split
  · exact s.grant_slotsKept ch p q
  · next holder r _ =>
    split
    · exact s.reclaim_slotsKept ch p q
    · unfold State.claimHeld
      split
      · split
        · next queued => exact (State.enqueueClaim_slotsKept queued).trans (State.startRecall_slotsKept _ ch holder r)
        · exact .refl s
      · split
        · split
          · next queued => exact State.enqueueClaim_slotsKept queued
          · exact .refl s
        · exact .refl s
  · next holder r d _ =>
    split
    · exact s.reclaim_slotsKept ch p q
    · unfold State.claimRecalling
      split
      · split
        · next queued =>
          have joined := State.enqueueClaim_slotsKept queued
          dsimp only
          split
          · exact joined
          · exact joined.trans (State.endRecall_slotsKept _ ch holder r)
        · exact .refl s
      · exact .refl s
  · exact .refl s

theorem State.transfer_slotsKept (s : State) (ch : Fin 177) : SlotsKept s (s.transfer ch) := by
  have emptied : SlotsKept s (s.setSlot ch none) := .setEntry fun _ => .inl rfl
  have slot : ((s.setSlot ch none).entry ch).slot = none := by rw [State.setSlot, State.entry_setEntry_self]
  rcases h : winnerOf (s.waitersOf ch) with _ | w
  · rw [State.transfer_of_none h]
    have freed : SlotsKept (s.setSlot ch none) ((s.setSlot ch none).setHold ch .free) := .setEntry fun _ => .inl slot
    exact (emptied.trans freed).trans (.of_directory (State.tellWatchers_directory _ _ _))
  · rw [State.transfer_of_some h]
    have dropped : SlotsKept (s.setSlot ch none) ((s.setSlot ch none).dropWaiter w.port ch) := .of_entries rfl
    have passed := (emptied.trans dropped).trans (.held ch w.port w.priority)
    exact SlotsKept.trans passed (.of_directory (State.tellWatchers_directory _ _ _))

theorem State.withdraw_slotsKept (s : State) (p : Port) (ch : Fin 177) : SlotsKept s (s.withdraw p ch) := by
  have dropped : SlotsKept s (s.dropWaiter p ch) := .of_entries rfl
  unfold State.withdraw
  dsimp only
  split
  · split
    · exact dropped
    · exact dropped.trans (State.endRecall_slotsKept _ ch _ _)
  all_goals exact dropped

theorem State.rangeAct_slotsKept (s : State) (x : Port) (op : RangeOp) (ch : Fin 177) : SlotsKept s (s.rangeAct x op ch).1 := by
  unfold State.rangeAct
  split
  · split
    · exact s.grant_slotsKept ch x _
    · split
      · exact .held ch x _
      · exact .refl s
    · split
      · dsimp only
        split
        · exact .recalling ch x _ _
        · exact s.endRecall_slotsKept ch x _
      · exact .refl s
    · exact .refl s
  · split
    · exact s.transfer_slotsKept ch
    · exact .refl s
  · exact (s.stage_restaged x ch _).slotsKept
  · exact (s.setWatch_restaged x ch true).slotsKept
  · exact (s.setWatch_restaged x ch false).slotsKept

theorem State.freeSafed_slotsKept (s : State) (ch : Fin 177) : SlotsKept s (s.freeSafed ch) := by
  unfold State.freeSafed
  split
  · next safed =>
    have freed : SlotsKept s (s.setHold ch .free) := .setEntry fun _ => .inr ⟨by rw [safed]; rfl, rfl⟩
    exact freed.trans (.of_directory (State.tellWatchers_directory _ _ _))
  · exact .refl s

theorem State.releaseForSetup_slotsKept (s : State) (ch : Fin 177) : SlotsKept s (s.releaseForSetup ch) := fun c free => by
  by_cases hc : c = ch
  · subst hc
    rw [State.releaseForSetup_entry] at free ⊢
    split at free
    · next unheld => rw [if_pos unheld]; exact .inr ⟨unheld, rfl⟩
    · next held => rw [if_neg held]; exact .inl rfl
  · rw [(s.releaseForSetup_at ch).entry c hc] at free ⊢
    exact .inr ⟨free, rfl⟩

theorem State.safeChannel_slotsKept (s : State) (ch : Fin 177) : SlotsKept s (s.safeChannel ch) := fun c free => by
  by_cases hc : c = ch
  · subst hc
    rw [State.safeChannel_entry]
    exact .inl rfl
  · rw [(s.safeChannel_at ch).entry c hc] at free ⊢
    exact .inr ⟨free, rfl⟩

theorem State.SlotsSound.kept : KeptByDirectory State.SlotsSound where
  elsewhere _ _ e h := (SlotsKept.of_directory e).sound h
  safed s ch h := (s.safeChannel_slotsKept ch).sound h
  restaged _ _ e h := e.slotsKept.sound h
  claim s p ch q wait h := (s.claimChannel_slotsKept p ch q wait).sound h
  release s p ch h := by
    unfold State.releaseChannel
    split
    · exact (s.transfer_slotsKept ch).sound h
    · split
      · exact (s.withdraw_slotsKept p ch).sound h
      · exact h
  expireRecall s ch h := by
    unfold State.expireRecall
    split
    · split
      · exact (State.transfer_slotsKept _ ch).sound ((SlotsKept.of_directory rfl).sound h)
      · exact h
    all_goals exact h
  rangeAct s x op ch h := (s.rangeAct_slotsKept x op ch).sound h
  freeSafed s ch h := (s.freeSafed_slotsKept ch).sound h
  setupEntry s h := by
    have released := foldl_keeps (fun u ch hu => (u.releaseForSetup_slotsKept ch).sound hu) (Table.indices 177) h
    have entries : ∀ (u : State) l, (u.setWaiters l).directory.entries = u.directory.entries := fun _ _ => rfl
    exact (SlotsKept.of_entries (entries _ [])).sound released
  showReset s ch _ := by rw [s.directoryShowReset_entry]; rfl
  reset s e ch _ := by
    have entry : s.entry ch = ChannelEntry.reset := by unfold State.entry; rw [e]; exact Table.get_fill _ ch
    rw [entry]; rfl

/-- Settles O13: the slots by themselves, the wait queue together with the recalls. -/
theorem stepKeepsDirectorySound : Obligations.StepKeepsDirectorySound := by
  intro s t next
  refine ⟨State.SlotsSound.kept.step next, fun waiters recalls => ?_⟩
  exact t.queueSound_iff.mp (State.QueueSound.kept.step next (s.queueSound_iff.mpr ⟨waiters, recalls⟩))

end Sys2Proof.Machine

/-!
# The store, the configuration and the unit

Few effects reach the cue store, the tables, the image or the unit's record. What a step makes of these parts is said by what those
effects make of them.
-/

namespace Sys2Proof.Machine

/-- The cue store, the tables, the image and the unit's record stand, but for the idle timer. -/
structure Fixed (s t : State) : Prop where
  cues : t.cues = s.cues
  config : t.config = s.config
  image : t.image = s.image
  mode : t.unit.mode = s.unit.mode
  saving : t.unit.saving = s.unit.saving
  outcome : t.unit.outcome = s.unit.outcome

theorem Fixed.refl (s : State) : Fixed s s := ⟨rfl, rfl, rfl, rfl, rfl, rfl⟩

theorem Fixed.trans {s t u : State} (h : Fixed s t) (k : Fixed t u) : Fixed s u :=
  ⟨k.cues.trans h.cues, k.config.trans h.config, k.image.trans h.image, k.mode.trans h.mode, k.saving.trans h.saving,
    k.outcome.trans h.outcome⟩

theorem OnlyField.fixed {s t : State} (h : OnlyField s t) : Fixed s t := by
  unfold OnlyField at h; rw [h]; exact ⟨rfl, rfl, rfl, rfl, rfl, rfl⟩

theorem OnlyShaper.fixed {s t : State} (h : OnlyShaper s t) : Fixed s t := by
  unfold OnlyShaper at h; rw [h]; exact ⟨rfl, rfl, rfl, rfl, rfl, rfl⟩

theorem OnlyMixer.fixed {s t : State} (h : OnlyMixer s t) : Fixed s t := by
  unfold OnlyMixer at h; rw [h]; exact ⟨rfl, rfl, rfl, rfl, rfl, rfl⟩

theorem State.evalIdle_fixed (s : State) : Fixed s s.evalIdle := by
  rw [State.evalIdle_only]; exact ⟨rfl, rfl, rfl, rfl, rfl, rfl⟩

theorem State.frame_fixed (s : State) : Fixed s s.frame := by
  have reloaded : Fixed s s.reloadFrame := ⟨rfl, rfl, rfl, rfl, rfl, rfl⟩
  have frozen := reloaded.trans s.reloadFrame.changeFreeze_only.field.fixed
  have shaped := frozen.trans (State.shape_only _).fixed
  have settled := (shaped.trans (State.evalIdle_fixed _)).trans (State.reachStopped_only _).field.fixed
  rw [State.frame_eq]
  exact (settled.trans (State.mix_only _).fixed).trans (State.giveSweep_only _).field.fixed

/-- A property of the store, the configuration and the unit, with what each effect that reaches them must keep of it. -/
structure KeptByAdministration (P : State → Prop) : Prop where
  fixed : ∀ s t, Fixed s t → P s → P t
  load : ∀ s p start records, P s → P { s with cues := (loadRecords (State.rights s p) s.cues start records).1 }
  write : ∀ s table bytes index e, s.unit.mode = .setup → parseEntry table bytes = .ok e →
    (s.config.put index e).keepsSafety = true → P s → P { s with config := s.config.put index e }
  save : ∀ s p, s.unit.mode = .setup → P s → P (s.setUnit { s.unit with saving := some p })
  saved : ∀ s i, P s → P (State.setUnit { s with image := i } { s.unit with saving := none })
  leaveSetup : ∀ s, s.unit.saving = none → s.config.validate = none → s.unit.mode = .setup → P s → P (s.setMode .dark)
  enterSetup : ∀ s, s.unit.mode = .dark → P s → P (s.setMode .setup)
  goLive : ∀ s, s.unit.mode = .dark → P s → P (s.setMode .live)
  goDark : ∀ s, s.unit.mode = .live → P s → P (s.setMode .dark)
  powerOn : ∀ s held, P (State.startedUp s held)

namespace KeptByAdministration

variable {P : State → Prop} (k : KeptByAdministration P)
include k

theorem effect {m : Manner} {s t : State} (e : Effect m s t) (h : P s) : P t := by
  cases e with
  | load p start records => exact k.load s p start records h
  | write table bytes index e mode parsed safety =>
    exact k.fixed _ _ (s.writeEntry_only index e).fixed (k.write s table bytes index e mode parsed safety h)
  | save p mode => exact k.save s p mode h
  | saved i => exact k.saved s i h
  | leaveSetup saving valid mode => exact k.fixed (s.setMode .dark) _ ⟨rfl, rfl, rfl, rfl, rfl, rfl⟩ (k.leaveSetup s saving valid mode h)
  | enterSetup mode =>
    have emptied := (State.emptiedForSetup_only s).field.fixed
    have clock : ∀ t : State, Fixed t t.clockSetupEntry := fun _ => ⟨rfl, rfl, rfl, rfl, rfl, rfl⟩
    have jets : ∀ t : State, Fixed t t.shaperSetupEntry := fun _ => ⟨rfl, rfl, rfl, rfl, rfl, rfl⟩
    have fixtures : ∀ t : State, Fixed t t.mixerSetupEntry := fun _ => ⟨rfl, rfl, rfl, rfl, rfl, rfl⟩
    have told : ∀ t : State, Fixed t (t.tellMode 0) := fun _ => ⟨rfl, rfl, rfl, rfl, rfl, rfl⟩
    rw [State.enterSetup_eq]
    exact k.fixed _ _ ((((emptied.trans (clock _)).trans (jets _)).trans (fixtures _)).trans (told _)) (k.enterSetup s mode h)
  | goLive mode => exact k.fixed (s.setMode .live) _ ⟨rfl, rfl, rfl, rfl, rfl, rfl⟩ (k.goLive s mode h)
  | goDark detail mode => exact k.fixed (s.setMode .dark) _ ⟨rfl, rfl, rfl, rfl, rfl, rfl⟩ (k.goDark s mode h)
  | expireIdle mode => exact k.fixed (s.setMode .dark) _ ⟨rfl, rfl, rfl, rfl, rfl, rfl⟩ (k.goDark s mode h)
  | showReset =>
    have cleared : Fixed s s.clearedShow := ⟨rfl, rfl, rfl, rfl, rfl, rfl⟩
    rw [State.showReset_eq]
    split
    · next live => exact k.fixed (s.clearedShow.setMode .dark) _ ⟨rfl, rfl, rfl, rfl, rfl, rfl⟩ (k.goDark _ live (k.fixed _ _ cleared h))
    · exact k.fixed _ _ cleared h
  | powerOn estop held =>
    rw [State.powerOn_eq]
    split
    · exact k.fixed _ _ (State.assertEstop_only _).field.fixed (k.powerOn s held)
    · exact k.powerOn s held
  | frame => exact k.fixed _ _ s.frame_fixed h
  | claim p ch q wait => exact k.fixed _ _ (s.claimChannel_only p ch q wait).field.fixed h
  | release p ch => exact k.fixed _ _ (s.releaseChannel_only p ch).field.fixed h
  | stage p ch v => exact k.fixed _ _ (s.stage_only p ch v).field.fixed h
  | expireRecall ch => exact k.fixed _ _ (s.expireRecall_only ch).field.fixed h
  | rangeStep r => exact k.fixed _ _ (s.rangeStep_only r).field.fixed h
  | due t => exact k.fixed _ _ (s.takeDue_only t).field.fixed h
  | startClock source point => exact k.fixed _ _ ((s.setClock_only _).trans (State.meetStart_only _)).field.fixed h
  | block => exact k.fixed _ _ (audioBlockAction_only ..).field.fixed h
  | clockTick => exact k.fixed _ _ s.clockTick_only.field.fixed h
  | audioFrame => exact k.fixed _ _ s.audioFrame_only.field.fixed h
  | coastTick => exact k.fixed _ _ s.coastTick_only.field.fixed h
  | cause c => exact k.fixed _ _ (s.addCause_only c).field.fixed h
  | acknowledge p => exact k.fixed _ _ (safetyAckAction_only p s).field.fixed h
  | reply e => exact k.fixed _ _ (s.endTransmission_only e).fixed h
  | port | deliver | drawFree | watch | beginRange | endRange | arm | retime | idle | stopClock | supervise | freezeRecord
    | overrun => exact k.fixed s _ ⟨rfl, rfl, rfl, rfl, rfl, rfl⟩ h

theorem step {s t : State} (h : Machine.step s = .next t) (hs : P s) : P t :=
  step_keeps_of_effects (fun s _ _ hs => k.fixed s _ ⟨rfl, rfl, rfl, rfl, rfl, rfl⟩ hs)
    (fun s _ hs => k.fixed s _ ⟨rfl, rfl, rfl, rfl, rfl, rfl⟩ hs) (fun e hs => k.effect e hs) h hs

end KeptByAdministration

/-! ## The cue store (03 R43, R46, R48) -/

/-- Loading records writes valid ones alone. -/
theorem fault_loadRecords (window : PortRights) {m : Memory} (hm : Memory.wf m = true)
    (valid : ∀ i : Fin 2048, CueRecord.fault (Memory.record m i.val) = none) (index : Nat) (l : List CueRecord) (i : Fin 2048) :
    CueRecord.fault (Memory.record (loadRecords window m index l).1 i.val) = none := by
  induction l generalizing m index with
  | nil => exact valid i
  | cons r rest ih =>
    simp only [loadRecords]
    split
    · split
      · exact valid i
      · next sound =>
        refine ih (Memory.wf_setRecord hm index r) (fun i => ?_) (index + 1)
        rw [Memory.record_setRecord hm]
        split
        · exact sound
        · exact valid i
    · exact valid i

theorem fault_record_nil (index : Nat) : CueRecord.fault (Memory.record [] index) = none := by
  have blank : Memory.record [] index = Table.fill 0 :=
    Table.ext_get fun k => by rw [Memory.record, Table.get_build, Table.get_fill]; rfl
  rw [blank]
  decide

theorem State.StoreSound.kept : KeptByAdministration State.StoreSound where
  fixed s t e h := by unfold State.StoreSound; rw [e.cues]; exact h
  load s p start records h := ⟨wf_loadRecords _ h.1 _ _, fault_loadRecords _ h.1 h.2 _ _⟩
  write _ _ _ _ _ _ _ _ h := h
  save _ _ _ h := h
  saved _ _ h := h
  leaveSetup _ _ _ _ h := h
  enterSetup _ _ h := h
  goLive _ _ h := h
  goDark _ _ h := h
  powerOn s held := ⟨rfl, fun i => fault_record_nil i.val⟩

end Sys2Proof.Machine

/-!
# The tracks keep their owners and their windows
-/

namespace Sys2Proof.Machine

/-- The tables and the mode stand, and every track that is not IDLE was not: it has its owner, its stack has not outgrown its room,
and its cue index stands or lies in its owner's window. -/
structure Retracked (s t : State) : Prop where
  config : t.config = s.config
  mode : t.unit.mode = s.unit.mode
  track : ∀ k c, t.track k = some c → ∃ b, s.track k = some b ∧ c.owner = b.owner
    ∧ (b.stack.length ≤ 6 → c.stack.length ≤ 6) ∧ (c.cue = b.cue ∨ (s.rights b.owner).inWindow c.cue = true)

theorem Retracked.of_tracks {s t : State} (h : t.tracks = s.tracks) (config : t.config = s.config)
    (mode : t.unit.mode = s.unit.mode) : Retracked s t := by
  refine ⟨config, mode, fun k c hc => ⟨c, ?_, rfl, id, .inl rfl⟩⟩
  unfold State.track at hc ⊢
  rwa [h] at hc

theorem Retracked.refl (s : State) : Retracked s s := .of_tracks rfl rfl rfl

theorem Retracked.trans {s t u : State} (h : Retracked s t) (k : Retracked t u) : Retracked s u := by
  refine ⟨k.config.trans h.config, k.mode.trans h.mode, fun i d hd => ?_⟩
  obtain ⟨c, hc, owner', stack', window'⟩ := k.track i d hd
  obtain ⟨b, hb, owner, stack, window⟩ := h.track i c hc
  have rights : t.rights c.owner = s.rights b.owner := by rw [owner]; unfold State.rights; rw [h.config]
  refine ⟨b, hb, owner'.trans owner, stack' ∘ stack, ?_⟩
  rcases window' with same | inside
  · rw [same]; exact window
  · exact .inr (rights ▸ inside)

theorem Retracked.idle (s : State) (t : Fin 4) : Retracked s (s.setTrack t none) := by
  refine ⟨rfl, rfl, fun k c hc => ?_⟩
  by_cases hk : t = k
  · subst hk; rw [State.track_setTrack_self] at hc; cases hc
  · rw [State.track_setTrack_ne _ _ hk] at hc; exact ⟨c, hc, rfl, id, .inl rfl⟩

theorem Retracked.setTrack {s : State} {t : Fin 4} {b : TrackBody} (hb : s.track t = some b) (c : TrackBody)
    (owner : c.owner = b.owner) (stack : b.stack.length ≤ 6 → c.stack.length ≤ 6) (cue : c.cue = b.cue) :
    Retracked s (s.setTrack t (some c)) := by
  refine ⟨rfl, rfl, fun k d hd => ?_⟩
  by_cases hk : t = k
  · subst hk
    rw [State.track_setTrack_self] at hd
    cases hd
    exact ⟨b, hb, owner, stack, .inl cue⟩
  · rw [State.track_setTrack_ne _ _ hk] at hd
    exact ⟨d, hd, rfl, id, .inl rfl⟩

theorem Retracked.retime {s : State} {t : Fin 4} {b : TrackBody} (hb : s.track t = some b) (r : PauseReasons) (phase : Phase) :
    Retracked s (s.setTrack t (some { b with reasons := r, phase := phase })) :=
  .setTrack hb { b with reasons := r, phase := phase } rfl id rfl

theorem Retracked.post {s t : State} (h : Retracked s t) (p : Port) (k : NoticeKind) (subject detail : Nat) :
    Retracked s (t.post p k subject detail) := h.trans (.of_tracks rfl rfl rfl)

theorem Retracked.sound {s t : State} (h : Retracked s t) (hs : s.TracksSound) : t.TracksSound := by
  obtain ⟨sound, idle⟩ := hs
  refine ⟨fun k => ?_, fun setup k => ?_⟩
  · cases hk : t.track k with
    | none => trivial
    | some c =>
      obtain ⟨b, hb, owner, stack, window⟩ := h.track k c hk
      obtain ⟨room, inside⟩ : s.trackSound (some b) := hb ▸ sound k
      have rights : t.rights c.owner = s.rights b.owner := by rw [owner]; unfold State.rights; rw [h.config]
      refine ⟨stack room, ?_⟩
      rw [rights]
      rcases window with same | inside'
      · rw [same]; exact inside
      · exact inside'
  · cases hk : t.track k with
    | none => rfl
    | some c =>
      obtain ⟨b, hb, -⟩ := h.track k c hk
      rw [idle (h.mode ▸ setup) k] at hb
      cases hb

/-! ## What each block does with a track -/

theorem State.takeDue_retracked (s : State) (t : Fin 4) : Retracked s (s.takeDue t) := by
  rcases s.takeDue_cases t with same | ⟨b, due, _, hb, -, -, -, acts, after⟩
  · rw [same]; exact .refl s
  · have frame := acts.frame
    refine ⟨by rw [frame], by rw [frame], fun k c hc => ?_⟩
    by_cases hk : k = t
    · subst hk
      rw [hc] at after
      cases after with
      | goesOn _ _ owner _ _ stack window => exact ⟨b, hb, owner, stack, window⟩
      | stopped _ owner _ stack window => exact ⟨b, hb, owner, stack, window⟩
    · rw [acts.others k hk] at hc
      exact ⟨c, hc, rfl, id, .inl rfl⟩

theorem State.passTrack_retracked (m k : Nat) (s : State) (t : Fin 4) : Retracked s (State.passTrack m k s t) := by
  unfold State.passTrack
  split
  · exact .refl s
  · next b0 hb =>
    have moved : ∀ phase, Retracked s (s.setTrack t (some { b0 with stack := b0.stack.map (markSeen m), phase := phase })) :=
      fun phase => .setTrack hb { b0 with stack := b0.stack.map (markSeen m), phase := phase } rfl
        (by rw [List.length_map]; exact id) rfl
    have told : ∀ phase p n, Retracked s ((s.setTrack t (some { b0 with
        stack := b0.stack.map (markSeen m), phase := phase })).deliver p n) :=
      fun phase _ _ => (moved phase).trans (.of_tracks rfl rfl rfl)
    dsimp only
    split
    · split
      · split
        · exact told _ _ _
        · exact told _ _ _
      · exact moved _
    · exact moved _
    · exact moved _
    · exact .refl s
    · exact .refl s

theorem Retracked.play (s : State) : KeptByPlay (Retracked s) where
  deliver _ _ _ h := h.trans (.of_tracks rfl rfl rfl)
  setClock _ _ h := h.trans (.of_tracks rfl rfl rfl)
  emptyGain _ h := h.trans (.of_tracks rfl rfl rfl)
  takeDue u t h := h.trans (u.takeDue_retracked t)
  passTrack m k u t h := h.trans (u.passTrack_retracked m k t)

theorem State.freezeTrack_retracked (s : State) (t : Fin 4) : Retracked s (s.freezeTrack t) := by
  unfold State.freezeTrack
  split
  · exact .refl s
  · next b hb =>
    dsimp only
    split
    · exact (Retracked.retime hb _ _).post _ _ _ _
    · exact .retime hb _ _
    · exact .retime hb _ _
    · exact .refl s
    · exact .refl s

theorem State.thawTrack_retracked (s : State) (t : Fin 4) : Retracked s (s.thawTrack t) := by
  unfold State.thawTrack
  split
  · exact .refl s
  · next b hb =>
    dsimp only
    split
    · split
      · exact (Retracked.retime hb _ _).post _ _ _ _
      · exact .retime hb _ _
    all_goals exact .retime hb _ _

theorem State.safeTrack_retracked (s : State) (t : Fin 4) : Retracked s (s.safeTrack t) := by
  unfold State.safeTrack
  split
  · exact .refl s
  · next b hb =>
    dsimp only
    split
    · exact (Retracked.retime hb _ _).post _ _ _ _
    · exact (Retracked.retime hb _ _).post _ _ _ _
    · exact .retime hb _ _
    · exact .refl s
    · exact .refl s

theorem State.eachTrack_retracked {s u : State} (h : Retracked s u) {f : State → Fin 4 → State}
    (hf : ∀ s t, Retracked s (f s t)) : Retracked s (u.eachTrack f) :=
  State.eachTrack_keeps (fun v t hv => hv.trans (hf v t)) h

theorem OnlyDirectory.retracked {s t : State} (h : OnlyDirectory s t) : Retracked s t := by
  unfold OnlyDirectory at h; rw [h]; exact .of_tracks rfl rfl rfl

theorem OnlyRanges.retracked {s t : State} (h : OnlyRanges s t) : Retracked s t := by
  unfold OnlyRanges at h; rw [h]; exact .of_tracks rfl rfl rfl

theorem OnlySweep.retracked {s t : State} (h : OnlySweep s t) : Retracked s t := by
  unfold OnlySweep at h; rw [h]; exact .of_tracks rfl rfl rfl

theorem OnlyShaper.retracked {s t : State} (h : OnlyShaper s t) : Retracked s t := by
  unfold OnlyShaper at h; rw [h]; exact .of_tracks rfl rfl rfl

theorem State.rangeSafetyEntry_ranges (s : State) : OnlyRanges s s.rangeSafetyEntry := by
  unfold State.rangeSafetyEntry
  split
  · split <;> exact rfl
  · exact rfl

theorem State.enterStopping_retracked (s : State) (c : Cause) : Retracked s (s.enterStopping c) := by
  have recorded : Retracked s (s.setSafety (s.safety.stoppingFor c)) := .of_tracks rfl rfl rfl
  have safed := recorded.trans (State.directorySafetyEntry_only _).retracked
  have ended := safed.trans (State.rangeSafetyEntry_ranges _).retracked
  have paused : Retracked s (s.takenForStop c) := State.eachTrack_retracked ended State.safeTrack_retracked
  have stopped : ∀ t : State, Retracked t t.clockSafetyEntry := fun _ => .of_tracks rfl rfl rfl
  have halted := paused.trans (stopped _)
  rw [State.enterStopping_eq]
  exact halted.trans (State.tellSafety_only _ _).directory.retracked

theorem State.addCause_retracked (s : State) (c : Cause) : Retracked s (s.addCause c) := by
  unfold State.addCause
  split
  · exact s.enterStopping_retracked c
  · exact .of_tracks rfl rfl rfl
  · exact .of_tracks rfl rfl rfl

theorem Retracked.field (s : State) : KeptByField (Retracked s) where
  deliver _ _ _ h := h.trans (.of_tracks rfl rfl rfl)
  supervise _ _ _ _ _ _ _ h := h.trans (.of_tracks rfl rfl rfl)
  cause u c _ h := h.trans (u.addCause_retracked c)
  sweep _ _ e h := h.trans e.retracked

theorem State.changeFreeze_retracked (s : State) : Retracked s s.changeFreeze := by
  unfold State.changeFreeze
  split
  · exact .refl s
  · have begun : ∀ f p, Retracked s ((s.setFreeze f).post p .frozen noSubject 0) := fun _ _ => .of_tracks rfl rfl rfl
    exact (State.eachTrack_retracked (begun _ _) State.freezeTrack_retracked).trans (.of_tracks rfl rfl rfl)
  · exact .refl s
  · have begun : ∀ f p, Retracked s ((s.setFreeze f).post p .thawed noSubject 0) := fun _ _ => .of_tracks rfl rfl rfl
    exact (Retracked.play s).clockThaw _ (State.eachTrack_retracked (begun _ _) State.thawTrack_retracked)

theorem State.frame_retracked (s : State) : Retracked s s.frame := by
  have reloaded : Retracked s s.reloadFrame := .of_tracks rfl rfl rfl
  have frozen := reloaded.trans s.reloadFrame.changeFreeze_retracked
  have shaped := frozen.trans (State.shape_only _).retracked
  have evaluated : ∀ t : State, Retracked t t.evalIdle := fun t => by
    rw [State.evalIdle_only]; exact .of_tracks rfl rfl rfl
  have settled : ∀ t : State, Retracked t t.reachStopped := fun t => by
    unfold State.reachStopped; split <;> exact .of_tracks rfl rfl rfl
  have mixed : ∀ t : State, Retracked t t.mix := fun t => .of_tracks rfl rfl rfl
  rw [State.frame_eq]
  exact (((shaped.trans (evaluated _)).trans (settled _)).trans (mixed _)).trans (State.giveSweep_only _).retracked

/-! ## The tracks stay sound -/

theorem State.TracksSound.of_idle {s : State} (h : ∀ k, s.track k = none) : s.TracksSound :=
  ⟨fun k => by rw [h k]; trivial, fun _ => h⟩

theorem State.TracksSound.unset {s t : State} (hs : s.TracksSound) (tracks : t.tracks = s.tracks)
    (config : t.config = s.config) (mode : t.unit.mode ≠ .setup) : t.TracksSound := by
  obtain ⟨sound, -⟩ := hs
  refine ⟨fun k => ?_, fun setup => absurd setup mode⟩
  have h := sound k
  have same : t.track k = s.track k := by unfold State.track; rw [tracks]
  rw [same]
  cases hk : s.track k with
  | none => trivial
  | some b =>
    rw [hk] at h
    obtain ⟨room, inside⟩ := h
    exact ⟨room, by unfold State.rights at inside ⊢; rw [config]; exact inside⟩

theorem State.idleForSetup_track (s : State) (t k : Fin 4) :
    (s.idleForSetup t).track k = if k = t then none else s.track k := by
  unfold State.idleForSetup
  split
  · next idle =>
    split
    · next e => rw [e]; exact idle
    · rfl
  · split
    · next e => subst e; exact s.track_setTrack_self k none
    · next ne => exact s.track_setTrack_ne none (Ne.symm ne)

theorem State.eachTrack_idleForSetup (s : State) (k : Fin 4) : (s.eachTrack State.idleForSetup).track k = none := by
  simp only [State.eachTrack_eq, State.idleForSetup_track]
  match k with
  | 0 => rfl
  | 1 => rfl
  | 2 => rfl
  | 3 => rfl

theorem State.enterSetup_track (s : State) (k : Fin 4) : s.enterSetup.track k = none := by
  have clock : ∀ t : State, t.clockSetupEntry.track k = t.track k := fun _ => rfl
  have jets : ∀ t : State, t.shaperSetupEntry.track k = t.track k := fun _ => rfl
  have fixtures : ∀ t : State, t.mixerSetupEntry.track k = t.track k := fun _ => rfl
  have told : ∀ t : State, (t.tellMode 0).track k = t.track k := fun _ => rfl
  rw [State.enterSetup_eq, told, fixtures, jets, clock, State.emptiedForSetup]
  exact State.eachTrack_idleForSetup _ k

theorem State.showReset_track (s : State) (k : Fin 4) : s.showReset.track k = none := by
  have cleared : s.clearedShow.track k = none := Table.get_fill none k
  have dark : ∀ (t : State) d, (t.goDark d).track k = t.track k := fun _ _ => rfl
  rw [State.showReset_eq]
  split
  · rw [dark]; exact cleared
  · exact cleared

theorem Retracked.writeEntry (s : State) (index : Nat) (e : ConfigEntry) :
    Retracked { s with config := s.config.put index e } (s.writeEntry index e) :=
  (Retracked.field _).writeEntry s index e (.refl _)

theorem Effect.tracksSound {m : Manner} {s t : State} (e : Effect m s t) (h : s.TracksSound) : t.TracksSound := by
  cases e with
  | claim p ch q wait => exact (s.claimChannel_only p ch q wait).retracked.sound h
  | release p ch => exact (s.releaseChannel_only p ch).retracked.sound h
  | stage p ch v => exact (s.stage_only p ch v).retracked.sound h
  | expireRecall ch => exact (s.expireRecall_only ch).retracked.sound h
  | rangeStep r => exact (s.rangeStep_ranges r).retracked.sound h
  | arm t p cue mode window =>
    refine ⟨fun k => ?_, fun setup => absurd setup mode⟩
    by_cases hk : t = k
    · subst hk
      rw [State.track_setTrack_self]
      exact ⟨Nat.zero_le 6, window⟩
    · rw [State.track_setTrack_ne _ _ hk]
      exact h.1 k
  | retime t b r phase track => exact (Retracked.retime track r phase).sound h
  | idle t => exact (Retracked.idle s t).sound h
  | due t => exact (s.takeDue_retracked t).sound h
  | startClock source point => exact ((Retracked.play s).meetStart (s.setClock (s.clock.start source point.val)) (.of_tracks rfl rfl rfl)).sound h
  | block p start count marker offset reserved frames =>
    exact ((Retracked.play s).audioBlock p start count marker offset reserved frames s (.refl s)).sound h
  | clockTick => exact ((Retracked.play s).clockTick s (.refl s)).sound h
  | audioFrame => exact ((Retracked.play s).audioFrame s (.refl s)).sound h
  | coastTick => exact ((Retracked.play s).coastTick s (.refl s)).sound h
  | cause c => exact (s.addCause_retracked c).sound h
  | acknowledge p =>
    have acknowledged := safetyAckAction_idleUnmoved p s
    have config := (safetyAckAction_only p s).field.fixed.config
    obtain ⟨mode, -, tracks, -⟩ := acknowledged
    exact (Retracked.of_tracks tracks config mode).sound h
  | reply e => exact ((Retracked.field s).endTransmission e s (.refl s)).sound h
  | write table bytes index e mode =>
    obtain ⟨-, idle⟩ := h
    exact (Retracked.writeEntry s index e).sound (.of_idle (idle mode))
  | leaveSetup => exact h.unset (t := s.leaveSetup) rfl rfl (fun e => nomatch e)
  | enterSetup => exact .of_idle s.enterSetup_track
  | goLive => exact h.unset (t := s.goLive) rfl rfl (fun e => nomatch e)
  | goDark detail => exact h.unset (t := s.goDark detail) rfl rfl (fun e => nomatch e)
  | expireIdle => exact h.unset (t := s.goDark 3) rfl rfl (fun e => nomatch e)
  | showReset => exact .of_idle s.showReset_track
  | frame => exact s.frame_retracked.sound h
  | powerOn estop held =>
    have started : (s.startedUp held).TracksSound := .of_idle fun k => Table.get_fill none k
    rw [State.powerOn_eq]
    split
    · unfold State.assertEstop
      split
      · exact started
      · have asserted : Retracked (s.startedUp held) ((s.startedUp held).setSafety
            { (s.startedUp held).safety with estopAsserted := true }) := .of_tracks rfl rfl rfl
        exact ((Retracked.field _).addCauseOnce _ _ asserted).sound started
    · exact started
  | port | deliver | drawFree | watch | beginRange | endRange | load | stopClock | supervise | freezeRecord | overrun | save
    | saved => exact (Retracked.of_tracks (s := s) rfl rfl rfl).sound h

/-- Settles O25: the store by the few effects that reach it, the tracks by what each effect makes of a track. -/
theorem stepKeepsStoreAndTracksSound : Obligations.StepKeepsStoreAndTracksSound := by
  intro s t next
  refine ⟨State.StoreSound.kept.step next, fun sound => ?_⟩
  have same : ∀ {u v : State}, v.tracks = u.tracks → v.config = u.config → v.unit.mode = u.unit.mode → u.TracksSound →
      v.TracksSound := fun tracks config mode => (Retracked.of_tracks tracks config mode).sound
  exact step_keeps_of_effects (P := State.TracksSound) (fun _ _ _ => same rfl rfl rfl) (fun _ _ => same rfl rfl rfl) Effect.tracksSound next sound

end Sys2Proof.Machine

/-!
# The causes of a stop, and the channels that are SAFED
-/

namespace Sys2Proof.Machine

/-! ## Entry to STOPPING -/

theorem OnlyShow.safety_eq {s t : State} (h : OnlyShow s t) : t.safety = s.safety := by
  unfold OnlyShow at h; rw [h]

theorem State.takenForStop_only (s : State) (c : Cause) :
    OnlyShow (s.setSafety (s.safety.stoppingFor c)) (s.takenForStop c) := by
  have safed := (State.directorySafetyEntry_only (s.setSafety (s.safety.stoppingFor c))).tracks.show
  have ended := safed.trans (State.rangeSafetyEntry_only _)
  exact ended.trans (State.eachTrack_only _ State.safeTrack_only).show

theorem State.enterStopping_safety (s : State) (c : Cause) : (s.enterStopping c).safety = s.safety.stoppingFor c := by
  have told : ∀ (t : State) d, (t.tellSafety d).safety = t.safety := fun _ _ => rfl
  have clock : ∀ t : State, t.clockSafetyEntry.safety = t.safety := fun _ => rfl
  rw [State.enterStopping_eq, told, clock, (s.takenForStop_only c).safety_eq]
  rfl

theorem foldl_safeChannel_entry (l : List (Fin 177)) (s : State) (ch : Fin 177) :
    (l.foldl State.safeChannel s).entry ch = if ch ∈ l then { s.entry ch with hold := .safed, slot := none } else s.entry ch := by
  induction l generalizing s with
  | nil => rfl
  | cons x rest ih =>
    rw [List.foldl_cons, ih]
    by_cases hx : ch = x
    · subst hx
      rw [State.safeChannel_entry, if_pos List.mem_cons_self]
      split <;> rfl
    · rw [(s.safeChannel_at x).entry ch hx]
      simp only [List.mem_cons, hx, false_or]

theorem mem_stageChannels (ch : Fin 177) : ch ∈ stageChannels ↔ ch.val < 176 := by
  simp [stageChannels, Table.mem_indices]

/-- Safety entry makes every jet and fixture channel SAFED with its slot empty, its watchers kept (01 R25). -/
theorem State.directorySafetyEntry_entry (s : State) (ch : Fin 177) : s.directorySafetyEntry.entry ch =
    if ch.val < 176 then { s.entry ch with hold := .safed, slot := none } else s.entry ch := by
  rw [State.directorySafetyEntry, foldl_safeChannel_entry]
  simp only [mem_stageChannels]

theorem State.enterStopping_directory (s : State) (c : Cause) :
    (s.enterStopping c).directory = (s.setSafety (s.safety.stoppingFor c)).directorySafetyEntry.directory := by
  rw [State.enterStopping_eq, (State.tellSafety_only _ _).directory_eq, State.clockSafetyEntry_directory, State.takenForStop,
    State.eachTrack_directory _ State.safeTrack_directory, State.rangeSafetyEntry_directory]

theorem State.enterStopping_entry (s : State) (c : Cause) (ch : Fin 177) : (s.enterStopping c).entry ch =
    if ch.val < 176 then { s.entry ch with hold := .safed, slot := none } else s.entry ch := by
  rw [State.entry_of_directory (s.enterStopping_directory c), State.directorySafetyEntry_entry]
  rfl

/-! ## The Supervisor's record at the other moments -/

theorem State.recordCause_safety (s : State) (c : Cause) :
    (s.recordCause c).safety = { s.safety with causes := s.safety.causes ++ [c], further := true } := rfl

theorem State.returnToNormal_safety (s : State) :
    s.returnToNormal.safety = { s.safety with state := .normal, first := none, further := false } := by
  have told : ∀ (t : State) d, (t.tellSafety d).safety = t.safety := fun _ _ => rfl
  rw [State.returnToNormal, told, (State.directorySafetyExit_only _).tracks.show.safety_eq]
  rfl

theorem OnlyDirectory.safety_eq {s t : State} (h : OnlyDirectory s t) : t.safety = s.safety := h.tracks.show.safety_eq

theorem OnlySweep.safety_eq {s t : State} (h : OnlySweep s t) : t.safety = s.safety := by
  unfold OnlySweep at h; rw [h]

theorem OnlyShaper.safety_eq {s t : State} (h : OnlyShaper s t) : t.safety = s.safety := by
  unfold OnlyShaper at h; rw [h]

theorem State.changeFreeze_safety (s : State) : s.changeFreeze.safety = match s.safety.freeze with
    | .none => s.safety
    | .requested p => { s.safety with freeze := .inEffect p }
    | .inEffect _ => s.safety
    | .thawRequested _ => { s.safety with freeze := .none } := by
  have frozen : ∀ u : State, (u.eachTrack State.freezeTrack).safety = u.safety := fun u =>
    (u.eachTrack_only State.freezeTrack_only).show.safety_eq
  have thawed : ∀ u : State, (u.eachTrack State.thawTrack).safety = u.safety := fun u =>
    (u.eachTrack_only State.thawTrack_only).show.safety_eq
  have posted : ∀ (u : State) p k, (u.post p k noSubject 0).safety = u.safety := fun _ _ _ => rfl
  have clock : ∀ (u : State) c, (u.setClock c).safety = u.safety := fun _ _ => rfl
  unfold State.changeFreeze
  cases h : s.safety.freeze with
  | none => rfl
  | requested p => simp only [clock, frozen, posted]; rfl
  | inEffect p => rfl
  | thawRequested p => simp only [(State.clockThaw_only _).safety_eq, thawed, posted]; rfl

theorem State.evalIdle_safety (s : State) : s.evalIdle.safety = s.safety := by rw [State.evalIdle_only]

theorem State.reachStopped_safety (s : State) : s.reachStopped.safety =
    if s.safety.state = .stopping ∧ s.shaper.atRest = true then { s.safety with state := .stopped } else s.safety := by
  unfold State.reachStopped
  split <;> rfl

/-- The Supervisor's record before the frame event reads the rest indications is the one its freeze left. -/
theorem State.frame_safety (s : State) : s.frame.safety =
    (s.reloadFrame.changeFreeze.shape.evalIdle.reachStopped).safety := by
  have mixed : ∀ t : State, t.mix.safety = t.safety := fun _ => rfl
  rw [State.frame_eq, (State.giveSweep_only _).safety_eq, mixed]

theorem State.showReset_safety (s : State) : s.showReset.safety = { s.safety with freeze := .none } := by
  have cleared : s.clearedShow.safety = { s.safety with freeze := .none } := rfl
  have dark : ∀ (t : State) d, (t.goDark d).safety = t.safety := fun _ _ => rfl
  rw [State.showReset_eq]
  split
  · rw [dark, cleared]
  · exact cleared

theorem State.enterSetup_safety (s : State) : s.enterSetup.safety = s.safety := by
  have clock : ∀ t : State, t.clockSetupEntry.safety = t.safety := fun _ => rfl
  have jets : ∀ t : State, t.shaperSetupEntry.safety = t.safety := fun _ => rfl
  have fixtures : ∀ t : State, t.mixerSetupEntry.safety = t.safety := fun _ => rfl
  have told : ∀ t : State, (t.tellMode 0).safety = t.safety := fun _ => rfl
  rw [State.enterSetup_eq, told, fixtures, jets, clock, s.emptiedForSetup_only.safety_eq]
  rfl

/-! ## The cause list (08 R135, R142) -/

theorem Supervisor.CausesSound.of_eq {r q : Supervisor} (h : r.CausesSound) (state : q.state = r.state)
    (causes : q.causes = r.causes) (first : q.first = r.first)
    (edge : q.intrusionPending = r.intrusionPending ∨ Cause.intrusion ∈ q.causes) : q.CausesSound := by
  obtain ⟨empty, none, nodup, pending⟩ := h
  refine ⟨by rw [causes, state]; exact empty, by rw [first, state]; exact none, causes ▸ nodup, fun set => ?_⟩
  rcases edge with same | listed
  · exact causes ▸ pending (same ▸ set)
  · exact listed

theorem Supervisor.CausesSound.stoppingFor {r : Supervisor} (h : r.CausesSound) (normal : r.state = .normal) (c : Cause) :
    (r.stoppingFor c).CausesSound := by
  obtain ⟨empty, -, -, pending⟩ := h
  refine ⟨⟨fun e => (nomatch e), fun e => (nomatch e)⟩, ⟨fun e => (nomatch e), fun e => (nomatch e)⟩, List.nodup_singleton c,
    fun set => ?_⟩
  have listed := pending set
  rw [empty.mpr normal] at listed
  cases listed

theorem State.addCause_causesSound {s : State} (h : s.safety.CausesSound) {c : Cause} (absent : c ∉ s.safety.causes) :
    (s.addCause c).safety.CausesSound := by
  have recorded : s.safety.state ≠ .normal → (s.recordCause c).safety.CausesSound := fun during => by
    obtain ⟨-, none, nodup, pending⟩ := h
    rw [State.recordCause_safety]
    refine ⟨⟨fun e => absurd e (List.append_ne_nil_of_right_ne_nil _ (List.cons_ne_nil c [])), fun e => absurd e during⟩, none,
      ?_, fun set => List.mem_append_left _ (pending set)⟩
    refine List.nodup_append.mpr ⟨nodup, List.nodup_singleton c, fun x hx y hy => ?_⟩
    obtain rfl := List.mem_singleton.mp hy
    rintro rfl
    exact absent hx
  unfold State.addCause
  split
  · next normal => rw [s.enterStopping_safety]; exact h.stoppingFor normal c
  · next stopping => exact recorded (by rw [stopping]; exact SafetyState.noConfusion)
  · next stopped => exact recorded (by rw [stopped]; exact SafetyState.noConfusion)

theorem causesSound_field : KeptByField fun s => s.safety.CausesSound where
  deliver _ _ _ h := h
  supervise _ _ state causes first _ edge h := h.of_eq state causes first (.inl edge)
  cause _ _ absent h := State.addCause_causesSound h absent
  sweep _ _ e h := by rw [e.safety_eq]; exact h

theorem Supervisor.acknowledged_pending {r : Supervisor} (h : r.CausesSound) : r.acknowledged.intrusionPending = false := by
  obtain ⟨-, -, -, pending⟩ := h
  unfold Supervisor.acknowledged Supervisor.has
  dsimp only
  split
  · rfl
  · next absent =>
    by_contra set
    exact absent (by simpa using pending (Bool.not_eq_false _ ▸ set))

theorem safetyAckAction_causesSound (p : Port) {s : State} (h : s.safety.CausesSound) :
    (safetyAckAction p s).1.safety.CausesSound := by
  have calm := Supervisor.acknowledged_pending h
  have sound := h
  obtain ⟨empty, none, nodup, -⟩ := h
  have kept : s.safety.acknowledged.causes.Nodup := nodup.filter _
  unfold safetyAckAction
  split
  · exact sound
  · split
    · exact sound
    · next stopped =>
      have stopped : s.safety.state = .stopped := not_not.mp stopped
      dsimp only
      split
      · next none_left =>
        rw [State.returnToNormal_safety]
        exact ⟨⟨fun _ => rfl, fun _ => none_left⟩, ⟨fun _ => rfl, fun _ => rfl⟩, kept, fun set => absurd (calm.symm.trans set) Bool.false_ne_true⟩
      · next c rest left =>
        have during : s.safety.acknowledged.state ≠ .normal := by
          rw [show s.safety.acknowledged.state = s.safety.state from rfl, stopped]; exact SafetyState.noConfusion
        refine ⟨⟨fun e => ?_, fun e => absurd e during⟩, none, kept, fun set => absurd (calm.symm.trans set) Bool.false_ne_true⟩
        have e : s.safety.acknowledged.causes = [] := e
        rw [left] at e
        cases e

theorem State.frame_causesSound {s : State} (h : s.safety.CausesSound) : s.frame.safety.CausesSound := by
  have frozen : s.reloadFrame.changeFreeze.safety.CausesSound := by
    have same : s.reloadFrame.safety = s.safety := rfl
    rw [State.changeFreeze_safety, same]
    split
    · exact h
    · exact h.of_eq rfl rfl rfl (.inl rfl)
    · exact h
    · exact h.of_eq rfl rfl rfl (.inl rfl)
  rw [State.frame_safety, State.reachStopped_safety, State.evalIdle_safety, (State.shape_only _).safety_eq]
  split
  · next resting =>
    obtain ⟨empty, none, nodup, pending⟩ := frozen
    obtain ⟨stopping, -⟩ := resting
    rw [stopping] at empty none
    exact ⟨⟨fun e => (nomatch empty.mp e), fun e => (nomatch e)⟩, ⟨fun e => (nomatch none.mp e), fun e => (nomatch e)⟩, nodup, pending⟩
  · exact frozen

theorem causesSound_reset : Supervisor.reset.CausesSound :=
  ⟨⟨fun _ => rfl, fun _ => rfl⟩, ⟨fun _ => rfl, fun _ => rfl⟩, List.nodup_nil, fun set => (nomatch set)⟩

theorem State.startedUp_safety (s : State) (held : PerPort Bool) : (s.startedUp held).safety = Supervisor.reset := rfl

theorem KeptBySensor.assertEstop {P : State → Prop} (k : KeptBySensor P) (s : State) (h : P s) : P s.assertEstop := by
  unfold State.assertEstop
  split
  · exact h
  · exact k.addCauseOnce _ _ (k.supervise s { s.safety with estopAsserted := true } rfl rfl rfl rfl rfl h)

theorem KeptBySensor.powerOn {P : State → Prop} (k : KeptBySensor P) (s : State) (estop : Bool) (held : PerPort Bool)
    (h : P (s.startedUp held)) : P (s.powerOn estop held) := by
  rw [State.powerOn_eq]
  split
  · exact k.assertEstop _ h
  · exact h

theorem Effect.causesSound {m : Manner} {s t : State} (e : Effect m s t) (h : s.safety.CausesSound) : t.safety.CausesSound := by
  cases e with
  | claim p ch q wait => rw [(s.claimChannel_only p ch q wait).safety_eq]; exact h
  | release p ch => rw [(s.releaseChannel_only p ch).safety_eq]; exact h
  | stage p ch v => rw [(s.stage_only p ch v).safety_eq]; exact h
  | expireRecall ch => rw [(s.expireRecall_only ch).safety_eq]; exact h
  | rangeStep r => rw [(s.rangeStep_only r).safety_eq]; exact h
  | due t => rw [(s.takeDue_only t).show.safety_eq]; exact h
  | startClock source point => rw [(State.meetStart_only _).safety_eq]; exact h
  | block => rw [(audioBlockAction_only ..).safety_eq]; exact h
  | clockTick => rw [s.clockTick_only.safety_eq]; exact h
  | audioFrame => rw [s.audioFrame_only.safety_eq]; exact h
  | coastTick => rw [s.coastTick_only.safety_eq]; exact h
  | supervise r state causes first freeze edge => exact h.of_eq state causes first edge
  | cause c absent => exact State.addCause_causesSound h absent
  | freezeRecord f => exact h.of_eq rfl rfl rfl (.inl rfl)
  | acknowledge p => exact safetyAckAction_causesSound p h
  | reply e => exact causesSound_field.endTransmission e s h
  | write table bytes index e => exact causesSound_field.writeEntry s index e h
  | enterSetup => rw [s.enterSetup_safety]; exact h
  | showReset => rw [s.showReset_safety]; exact h.of_eq rfl rfl rfl (.inl rfl)
  | frame => exact State.frame_causesSound h
  | powerOn estop held =>
    exact causesSound_field.powerOn s estop held (by rw [s.startedUp_safety]; exact causesSound_reset)
  | _ => exact h

end Sys2Proof.Machine

/-!
# Every step keeps the causes and the SAFED channels sound
-/

namespace Sys2Proof.Machine

/-! ## Which channels are SAFED -/

/-- The same channels are SAFED. -/
def SafedKept (s t : State) : Prop := ∀ ch, (t.entry ch).hold = .safed ↔ (s.entry ch).hold = .safed

theorem SafedKept.trans {s t u : State} (h : SafedKept s t) (k : SafedKept t u) : SafedKept s u := fun ch => (k ch).trans (h ch)

theorem SafedKept.of_entries {s t : State} (h : t.directory.entries = s.directory.entries) : SafedKept s t := fun ch => by
  unfold State.entry; rw [h]

theorem SafedKept.of_directory {s t : State} (h : t.directory = s.directory) : SafedKept s t := .of_entries (by rw [h])

theorem SafedKept.refl (s : State) : SafedKept s s := .of_directory rfl

theorem Restaged.safedKept {s t : State} (h : Restaged s t) : SafedKept s t := fun ch => by rw [(h.2 ch).1]

theorem SafedKept.setHold {s : State} {ch : Fin 177} {h : Hold} (before : (s.entry ch).hold ≠ .safed) (after : h ≠ .safed) :
    SafedKept s (s.setHold ch h) := fun c => by
  by_cases hc : ch = c
  · subst hc
    rw [State.hold_setHold]
    exact iff_of_false after before
  · rw [State.setHold, State.entry_setEntry_ne _ _ hc]

theorem State.grant_safedKept {s : State} {ch : Fin 177} (before : (s.entry ch).hold ≠ .safed) (p : Port) (q : Nat) :
    SafedKept s (s.grant ch p q) :=
  (SafedKept.setHold before Hold.noConfusion).trans (.of_directory (State.tellWatchers_directory _ _ _))

theorem State.startRecall_safedKept {s : State} {ch : Fin 177} (before : (s.entry ch).hold ≠ .safed) (p : Port) (q : Nat) :
    SafedKept s (s.startRecall ch p q) :=
  (SafedKept.setHold before Hold.noConfusion).trans (.of_directory rfl)

theorem State.endRecall_safedKept {s : State} {ch : Fin 177} (before : (s.entry ch).hold ≠ .safed) (p : Port) (q : Nat) :
    SafedKept s (s.endRecall ch p q) :=
  (SafedKept.setHold before Hold.noConfusion).trans (.of_directory rfl)

theorem State.reclaim_safedKept (s : State) (ch : Fin 177) (p : Port) (q : Nat) : SafedKept s (s.reclaim ch p q) := by
  unfold State.reclaim
  split
  · next held =>
    have held : (s.entry ch).hold ≠ .safed := by rw [held]; exact Hold.noConfusion
    split
    · exact State.startRecall_safedKept held p q
    · exact .setHold held Hold.noConfusion
  · next recalling =>
    have held : (s.entry ch).hold ≠ .safed := by rw [recalling]; exact Hold.noConfusion
    split
    · exact .setHold held Hold.noConfusion
    · exact State.endRecall_safedKept held p q
  · exact .refl s
  · exact .refl s

/-- A claim queued changes no entry. -/
theorem State.enqueueClaim_entry {s t : State} {p : Port} {ch : Fin 177} {q : Nat} (h : s.enqueueClaim p ch q = some t)
    (c : Fin 177) : t.entry c = s.entry c := by
  obtain ⟨at_, entry, -⟩ := State.enqueueClaim_queued h
  by_cases hc : c = ch
  · exact hc ▸ entry
  · exact at_.entry c hc

theorem State.enqueueClaim_safedKept {s t : State} {p : Port} {ch : Fin 177} {q : Nat} (h : s.enqueueClaim p ch q = some t) :
    SafedKept s t := fun c => by rw [State.enqueueClaim_entry h]

theorem State.claimChannel_safedKept (s : State) (p : Port) (ch : Fin 177) (q : Nat) (wait : Bool) :
    SafedKept s (s.claimChannel p ch q wait).1 := by
  have queued : ∀ {t : State} {r}, s.enqueueClaim p ch r = some t → (s.entry ch).hold ≠ .safed → (t.entry ch).hold ≠ .safed :=
    fun e held => by rw [State.enqueueClaim_entry e]; exact held
  unfold State.claimChannel
  split
  · next free => exact State.grant_safedKept (by rw [free]; exact Hold.noConfusion) p q
  · next holder r held =>
    have held : (s.entry ch).hold ≠ .safed := by rw [held]; exact Hold.noConfusion
    split
    · exact s.reclaim_safedKept ch p q
    · unfold State.claimHeld
      split
      · split
        · next e => exact (State.enqueueClaim_safedKept e).trans (State.startRecall_safedKept (queued e held) holder r)
        · exact .refl s
      · split
        · split
          · next e => exact State.enqueueClaim_safedKept e
          · exact .refl s
        · exact .refl s
  · next holder r d recalling =>
    have held : (s.entry ch).hold ≠ .safed := by rw [recalling]; exact Hold.noConfusion
    split
    · exact s.reclaim_safedKept ch p q
    · unfold State.claimRecalling
      split
      · split
        · next e =>
          dsimp only
          split
          · exact State.enqueueClaim_safedKept e
          · exact (State.enqueueClaim_safedKept e).trans (State.endRecall_safedKept (queued e held) holder r)
        · exact .refl s
      · exact .refl s
  · exact .refl s

theorem State.transfer_safedKept {s : State} {ch : Fin 177} (before : (s.entry ch).hold ≠ .safed) : SafedKept s (s.transfer ch) := by
  have emptied := (s.setSlot_none_restaged ch).safedKept
  have before' : ((s.setSlot ch none).entry ch).hold ≠ .safed := fun e => before ((emptied ch).mp e)
  rcases h : winnerOf (s.waitersOf ch) with _ | w
  · rw [State.transfer_of_none h]
    exact (emptied.trans (.setHold before' Hold.noConfusion)).trans (.of_directory (State.tellWatchers_directory _ _ _))
  · rw [State.transfer_of_some h]
    have dropped : SafedKept (s.setSlot ch none) ((s.setSlot ch none).dropWaiter w.port ch) := .of_entries rfl
    have passed := (emptied.trans dropped).trans
      (.setHold (h := .held w.port w.priority) (fun e => before' ((dropped ch).mp e)) Hold.noConfusion)
    exact passed.trans (.of_directory (State.tellWatchers_directory _ _ _))

theorem State.withdraw_safedKept (s : State) (p : Port) (ch : Fin 177) : SafedKept s (s.withdraw p ch) := by
  have dropped : SafedKept s (s.dropWaiter p ch) := .of_entries rfl
  unfold State.withdraw
  dsimp only
  split
  · next recalling =>
    split
    · exact dropped
    · exact dropped.trans (State.endRecall_safedKept (by rw [recalling]; exact Hold.noConfusion) _ _)
  all_goals exact dropped

theorem not_safed_of_holder {h : Hold} {p : Port} (held : h.holder = some p) : h ≠ .safed := by
  rintro rfl
  cases held

theorem State.releaseChannel_safedKept (s : State) (p : Port) (ch : Fin 177) : SafedKept s (s.releaseChannel p ch).1 := by
  unfold State.releaseChannel
  split
  · next held => exact State.transfer_safedKept (not_safed_of_holder held)
  · split
    · exact s.withdraw_safedKept p ch
    · exact .refl s

theorem State.expireRecall_safedKept (s : State) (ch : Fin 177) : SafedKept s (s.expireRecall ch) := by
  unfold State.expireRecall
  split
  · next holder _ _ recalling =>
    split
    · have told : SafedKept s (s.post holder .lost ch.val 1) := .of_directory rfl
      have held : ((s.post holder .lost ch.val 1).entry ch).hold ≠ .safed := fun e => by
        rw [(told ch).mp e] at recalling; cases recalling
      exact told.trans (State.transfer_safedKept held)
    · exact .refl s
  all_goals exact .refl s

theorem State.rangeAct_safedKept (s : State) (x : Port) (op : RangeOp) (ch : Fin 177) : SafedKept s (s.rangeAct x op ch).1 := by
  unfold State.rangeAct
  split
  · split
    · next free => exact State.grant_safedKept (by rw [free]; exact Hold.noConfusion) x _
    · next held =>
      split
      · exact .setHold (by rw [held]; exact Hold.noConfusion) Hold.noConfusion
      · exact .refl s
    · next recalling =>
      have held : (s.entry ch).hold ≠ .safed := by rw [recalling]; exact Hold.noConfusion
      split
      · dsimp only
        split
        · exact .setHold held Hold.noConfusion
        · exact State.endRecall_safedKept held x _
      · exact .refl s
    · exact .refl s
  · split
    · next held => exact State.transfer_safedKept (not_safed_of_holder held)
    · exact .refl s
  · exact (s.stage_restaged x ch _).safedKept
  · exact (s.setWatch_restaged x ch true).safedKept
  · exact (s.setWatch_restaged x ch false).safedKept

theorem State.rangeStep_safedKept (s : State) (r : RangeRecord) : SafedKept s (s.rangeStep r) := by
  unfold State.rangeStep
  split
  · next hn =>
    have acted := s.rangeAct_safedKept r.issuer r.op ⟨r.next, hn⟩
    dsimp only
    split
    · exact acted.trans (.of_directory rfl)
    · exact acted.trans (.of_directory rfl)
  · exact .refl s

theorem State.releaseForSetup_safedKept (s : State) (ch : Fin 177) : SafedKept s (s.releaseForSetup ch) := fun c => by
  by_cases hc : c = ch
  · subst hc
    rw [s.releaseForSetup_entry]
    split
    · exact Iff.rfl
    · next held => exact iff_of_false Hold.noConfusion fun e => held (by rw [e]; rfl)
  · rw [(s.releaseForSetup_at ch).entry c hc]

theorem State.enterSetup_safedKept (s : State) : SafedKept s s.enterSetup := by
  have mode : SafedKept s (s.setMode .setup) := .of_directory rfl
  have released : SafedKept s ((Table.indices 177).foldl State.releaseForSetup (s.setMode .setup)) :=
    foldl_keeps (fun u ch hu => hu.trans (u.releaseForSetup_safedKept ch)) (Table.indices 177) mode
  have entries : ∀ (u : State) l, SafedKept u (u.setWaiters l) := fun _ _ => .of_entries rfl
  have emptied : SafedKept s (s.setMode .setup).directorySetupEntry := released.trans (entries _ [])
  exact emptied.trans (.of_directory (s.enterSetup_directory.trans s.emptiedForSetup_directory))

/-! ## SAFED exactly outside NORMAL (08 R145, R148) -/

theorem State.SafedSound.kept {s t : State} (h : s.SafedSound) (k : SafedKept s t)
    (state : t.safety.state = .normal ↔ s.safety.state = .normal) : t.SafedSound := fun ch => by
  rw [k ch, h ch, ne_eq, ne_eq, state]

theorem State.SafedSound.elsewhere {s t : State} (h : s.SafedSound) (directory : t.directory = s.directory)
    (state : t.safety.state = s.safety.state) : t.SafedSound := h.kept (.of_directory directory) (by rw [state])

theorem State.enterStopping_safed {s : State} (h : s.SafedSound) (c : Cause) : (s.enterStopping c).SafedSound := fun ch => by
  have state : (s.enterStopping c).safety.state ≠ .normal := by rw [s.enterStopping_safety]; exact SafetyState.noConfusion
  rw [s.enterStopping_entry]
  split
  · next stage => exact iff_of_true rfl ⟨stage, state⟩
  · next aud => exact iff_of_false (fun e => aud ((h ch).mp e).1) fun e => aud e.1

theorem State.addCause_safed {s : State} (h : s.SafedSound) (c : Cause) : (s.addCause c).SafedSound := by
  unfold State.addCause
  split
  · exact State.enterStopping_safed h c
  · exact h.elsewhere rfl rfl
  · exact h.elsewhere rfl rfl

theorem safedSound_field : KeptByField State.SafedSound where
  deliver _ _ _ h := h.elsewhere rfl rfl
  supervise _ _ state _ _ _ _ h := h.elsewhere rfl state
  cause _ c _ h := State.addCause_safed h c
  sweep _ _ e h := h.elsewhere e.directory_eq (by rw [e.safety_eq])

theorem State.freeSafed_hold (s : State) (ch : Fin 177) : ((s.freeSafed ch).entry ch).hold ≠ .safed := by
  unfold State.freeSafed
  split
  · rw [State.entry_of_directory (State.tellWatchers_directory _ _ _), State.hold_setHold]
    exact Hold.noConfusion
  · next calm => exact calm

theorem State.freeSafed_hold_ne (s : State) {ch c : Fin 177} (calm : (s.entry c).hold ≠ .safed) :
    ((s.freeSafed ch).entry c).hold ≠ .safed := by
  by_cases hc : ch = c
  · exact hc ▸ s.freeSafed_hold ch
  · unfold State.freeSafed
    split
    · rw [State.entry_of_directory (State.tellWatchers_directory _ _ _), State.setHold, State.entry_setEntry_ne _ _ hc]
      exact calm
    · exact calm

theorem State.returnToNormal_safed (s : State) : s.returnToNormal.SafedSound := fun ch => by
  have freed : ∀ u : State, (u.directorySafetyExit.entry ch).hold ≠ .safed := fun u =>
    foldl_brings (P := fun ch s => (s.entry ch).hold ≠ .safed) State.freeSafed_hold
      (fun s _ _ calm => s.freeSafed_hold_ne calm) (Table.mem_indices ch) u
  have state : s.returnToNormal.safety.state = .normal := by rw [s.returnToNormal_safety]
  refine iff_of_false ?_ fun e => e.2 state
  have told : ∀ u : State, (u.tellSafety 0).entry ch = u.entry ch := fun u =>
    State.entry_of_directory (State.tellSafety_only u 0).directory_eq ch
  rw [State.returnToNormal, told]
  exact freed _

theorem safetyAckAction_safed (p : Port) {s : State} (h : s.SafedSound) : (safetyAckAction p s).1.SafedSound := by
  unfold safetyAckAction
  split
  · exact h
  · split
    · exact h
    · dsimp only
      split
      · exact State.returnToNormal_safed _
      · exact h.elsewhere rfl rfl

theorem State.changeFreeze_state (s : State) : s.changeFreeze.safety.state = s.safety.state := by
  rw [s.changeFreeze_safety]
  split <;> rfl

theorem State.frame_state (s : State) : s.frame.safety.state = .normal ↔ s.safety.state = .normal := by
  have frozen : s.reloadFrame.changeFreeze.shape.evalIdle.safety.state = s.safety.state := by
    rw [State.evalIdle_safety, (State.shape_only _).safety_eq, State.changeFreeze_state]
    rfl
  rw [State.frame_safety, State.reachStopped_safety]
  split
  · next resting =>
    rw [frozen] at resting
    exact iff_of_false SafetyState.noConfusion (by rw [resting.1]; exact SafetyState.noConfusion)
  · rw [frozen]

theorem State.showReset_safed (s : State) : s.showReset.SafedSound := fun ch => by
  rw [State.entry_of_directory s.showReset_directory, s.directoryShowReset_entry, s.showReset_safety, showResetEntry]
  by_cases normal : s.safety.state = .normal <;> simp [normal]

theorem State.startedUp_safed (s : State) (held : PerPort Bool) : (s.startedUp held).SafedSound := fun ch => by
  have entry : (s.startedUp held).entry ch = ChannelEntry.reset := Table.get_fill _ ch
  rw [entry, s.startedUp_safety]
  exact iff_of_false Hold.noConfusion fun e => e.2 rfl

theorem Effect.safed {m : Manner} {s t : State} (e : Effect m s t) (h : s.SafedSound) : t.SafedSound := by
  have restaged : ∀ {t : State}, Restaged s t → t.safety = s.safety → t.SafedSound := fun r safety =>
    h.kept r.safedKept (by rw [safety])
  cases e with
  | claim p ch q wait => exact h.kept (s.claimChannel_safedKept p ch q wait) (by rw [(s.claimChannel_only p ch q wait).safety_eq])
  | release p ch => exact h.kept (s.releaseChannel_safedKept p ch) (by rw [(s.releaseChannel_only p ch).safety_eq])
  | stage p ch v => exact restaged (s.stage_restaged p ch v) (s.stage_only p ch v).safety_eq
  | watch p ch on => exact restaged (s.setWatch_restaged p ch on) rfl
  | expireRecall ch => exact h.kept (s.expireRecall_safedKept ch) (by rw [(s.expireRecall_only ch).safety_eq])
  | rangeStep r => exact h.kept (s.rangeStep_safedKept r) (by rw [(s.rangeStep_only r).safety_eq])
  | due t => exact restaged (s.takeDue_restaged t) (s.takeDue_only t).show.safety_eq
  | startClock source point =>
    exact restaged ((Restaged.play s).meetStart _ (.of_directory rfl)) ((State.meetStart_only _).safety_eq)
  | block p start count marker offset reserved frames =>
    exact restaged ((Restaged.play s).audioBlock p start count marker offset reserved frames s (.refl s))
      (audioBlockAction_only ..).safety_eq
  | clockTick => exact restaged ((Restaged.play s).clockTick s (.refl s)) s.clockTick_only.safety_eq
  | audioFrame => exact restaged ((Restaged.play s).audioFrame s (.refl s)) s.audioFrame_only.safety_eq
  | coastTick => exact restaged ((Restaged.play s).coastTick s (.refl s)) s.coastTick_only.safety_eq
  | supervise r state => exact h.elsewhere rfl state
  | cause c => exact State.addCause_safed h c
  | acknowledge p => exact safetyAckAction_safed p h
  | reply e => exact safedSound_field.endTransmission e s h
  | write table bytes index e => exact safedSound_field.writeEntry s index e (h.elsewhere rfl rfl)
  | enterSetup => exact h.kept s.enterSetup_safedKept (by rw [s.enterSetup_safety])
  | showReset => exact s.showReset_safed
  | frame => exact h.kept s.frame_restaged.safedKept s.frame_state
  | powerOn estop held => exact safedSound_field.powerOn s estop held (s.startedUp_safed held)
  | _ => exact h.elsewhere rfl rfl

/-- Settles O49: the cause list by the Supervisor's own actions, the SAFED channels by entry to STOPPING and the exit from it. -/
theorem stepKeepsSafetySound : Obligations.StepKeepsSafetySound := by
  intro s t causes next
  refine ⟨step_keeps_of_effects (P := fun s => s.safety.CausesSound) (fun _ _ _ h => h) (fun _ _ h => h) Effect.causesSound next causes,
    fun safed => ?_⟩
  exact step_keeps_of_effects (P := State.SafedSound) (fun _ _ _ h => h.elsewhere rfl rfl) (fun _ _ h => h.elsewhere rfl rfl)
    Effect.safed next safed

end Sys2Proof.Machine

/-!
# The notice queues
-/

namespace Sys2Proof.Machine

/-- Notices have come to the ports, and nothing else has become of them. -/
def Hears (s t : State) : Prop := ∀ q, Heard (s.port q) (t.port q)

theorem Hears.of_ports {s t : State} (h : t.ports = s.ports) : Hears s t := fun q => by
  unfold State.port; rw [h]; exact .refl _

/-- A property of the ports that notices leave standing. -/
def KeptByPosting (P : State → Prop) : Prop := ∀ s t, Hears s t → P s → P t

namespace KeptByPosting

variable {P : State → Prop} (k : KeptByPosting P)
include k

theorem deliver (s : State) (p : Port) (n : Notice) (h : P s) : P (s.deliver p n) := k _ _ (s.deliver_heard p n) h

theorem elsewhere (s t : State) (e : t.ports = s.ports) (h : P s) : P t := k s t (.of_ports e) h

/-! ## The Channel Directory -/

theorem postTo (s : State) (ps : PortSet) (kind : NoticeKind) (subject detail : Nat) (h : P s) :
    P (s.postTo ps kind subject detail) :=
  foldl_keeps (fun u p hu => by split; exacts [k.deliver u p _ hu, hu]) allPorts h

theorem tellWatchers (s : State) (ch : Fin 177) (detail : Nat) (h : P s) : P (s.tellWatchers ch detail) := k.postTo s _ _ _ _ h

theorem setHold (s : State) (ch : Fin 177) (hold : Hold) (h : P s) : P (s.setHold ch hold) := k.elsewhere s _ rfl h

theorem grant (s : State) (ch : Fin 177) (p : Port) (q : Nat) (h : P s) : P (s.grant ch p q) :=
  k.tellWatchers _ ch _ (k.setHold s ch _ h)

theorem startRecall (s : State) (ch : Fin 177) (p : Port) (q : Nat) (h : P s) : P (s.startRecall ch p q) :=
  k.deliver _ p _ (k.setHold s ch _ h)

theorem endRecall (s : State) (ch : Fin 177) (p : Port) (q : Nat) (h : P s) : P (s.endRecall ch p q) :=
  k.deliver _ p _ (k.setHold s ch _ h)

theorem reclaim (s : State) (ch : Fin 177) (p : Port) (q : Nat) (h : P s) : P (s.reclaim ch p q) := by
  unfold State.reclaim
  split
  · split
    · exact k.startRecall s ch p q h
    · exact k.setHold s ch _ h
  · split
    · exact k.setHold s ch _ h
    · exact k.endRecall s ch p q h
  · exact h
  · exact h

theorem enqueueClaim {s t : State} {p : Port} {ch : Fin 177} {q : Nat} (e : s.enqueueClaim p ch q = some t) (h : P s) : P t := by
  unfold State.enqueueClaim at e
  split at e
  · cases e; exact k.elsewhere s _ rfl h
  · split at e
    · cases e
      refine k.elsewhere s _ ?_ h
      unfold State.addWaiter
      dsimp only
      split <;> rfl
    · cases e

theorem claimChannel (s : State) (p : Port) (ch : Fin 177) (q : Nat) (wait : Bool) (h : P s) : P (s.claimChannel p ch q wait).1 := by
  unfold State.claimChannel
  split
  · exact k.grant s ch p q h
  · split
    · exact k.reclaim s ch p q h
    · unfold State.claimHeld
      split
      · split
        · next e => exact k.startRecall _ ch _ _ (k.enqueueClaim e h)
        · exact h
      · split
        · split
          · next e => exact k.enqueueClaim e h
          · exact h
        · exact h
  · split
    · exact k.reclaim s ch p q h
    · unfold State.claimRecalling
      split
      · split
        · next e =>
          dsimp only
          split
          · exact k.enqueueClaim e h
          · exact k.endRecall _ ch _ _ (k.enqueueClaim e h)
        · exact h
      · exact h
  · exact h

theorem transfer (s : State) (ch : Fin 177) (h : P s) : P (s.transfer ch) := by
  have emptied : P (s.setSlot ch none) := k.elsewhere s _ rfl h
  rcases e : winnerOf (s.waitersOf ch) with _ | w
  · rw [State.transfer_of_none e]
    exact k.tellWatchers _ ch _ (k.setHold _ ch _ emptied)
  · rw [State.transfer_of_some e]
    exact k.tellWatchers _ ch _ (k.deliver _ _ _ (k.setHold _ ch _ (k.elsewhere (s.setSlot ch none) _ rfl emptied)))

theorem releaseChannel (s : State) (p : Port) (ch : Fin 177) (h : P s) : P (s.releaseChannel p ch).1 := by
  have dropped : P (s.dropWaiter p ch) := k.elsewhere s _ rfl h
  unfold State.releaseChannel
  split
  · exact k.transfer s ch h
  · split
    · unfold State.withdraw
      dsimp only
      split
      · split
        · exact dropped
        · exact k.endRecall _ ch _ _ dropped
      all_goals exact dropped
    · exact h

theorem stage (s : State) (p : Port) (ch : Fin 177) (v : Setpoint) (h : P s) : P (s.stage p ch v).1 := by
  unfold State.stage
  split
  · exact h
  · split
    · exact k.elsewhere s _ rfl h
    · exact h

theorem expireRecall (s : State) (ch : Fin 177) (h : P s) : P (s.expireRecall ch) := by
  unfold State.expireRecall
  split
  · split
    · exact k.transfer _ ch (k.deliver s _ _ h)
    · exact h
  all_goals exact h

theorem rangeAct (s : State) (x : Port) (op : RangeOp) (ch : Fin 177) (h : P s) : P (s.rangeAct x op ch).1 := by
  unfold State.rangeAct
  split
  · split
    · exact k.grant s ch x _ h
    · split
      · exact k.setHold s ch _ h
      · exact h
    · split
      · dsimp only
        split
        · exact k.setHold s ch _ h
        · exact k.endRecall s ch x _ h
      · exact h
    · exact h
  · split
    · exact k.transfer s ch h
    · exact h
  · exact k.stage s x ch _ h
  · exact k.elsewhere s _ rfl h
  · exact k.elsewhere s _ rfl h

theorem endRange (s : State) (r : RangeRecord) (e : EndReason) (h : P s) : P (s.endRange r e) := by
  have ended := k.elsewhere s { s with range := (s.endRange r e).range } rfl h
  exact k.deliver _ _ _ ended

theorem rangeStep (s : State) (r : RangeRecord) (h : P s) : P (s.rangeStep r) := by
  unfold State.rangeStep
  split
  · next hn =>
    have acted := k.rangeAct s r.issuer r.op ⟨r.next, hn⟩ h
    dsimp only
    split
    · exact k.endRange _ _ _ (k.elsewhere (s.rangeAct r.issuer r.op ⟨r.next, hn⟩).1 _ rfl acted)
    · exact k.elsewhere (s.rangeAct r.issuer r.op ⟨r.next, hn⟩).1 _ rfl acted
  · exact h

theorem postLost (s : State) (ch : Fin 177) (detail : Nat) (h : P s) : P (s.postLost ch detail) := by
  unfold State.postLost
  split
  · exact k.deliver s _ _ h
  · exact h

theorem dropWaiters (s : State) (ch : Fin 177) (detail : Nat) (h : P s) : P (s.dropWaiters ch detail) := by
  have told : P ((s.waitersOf ch).foldl (fun u w => u.post w.port .claimDropped ch.val detail) s) :=
    foldl_keeps (fun u w hu => k.deliver u w.port _ hu) _ h
  have queue : ∀ (u : State) l, P u → P (u.setWaiters l) := fun u _ hu => k.elsewhere u _ rfl hu
  unfold State.dropWaiters
  dsimp only
  split
  · exact told
  · exact queue _ _ told

theorem setEntry (s : State) (ch : Fin 177) (e : ChannelEntry) (h : P s) : P (s.setEntry ch e) := k.elsewhere s _ rfl h

theorem safeChannel (s : State) (ch : Fin 177) (h : P s) : P (s.safeChannel ch) :=
  k.tellWatchers _ ch _ (k.setEntry _ ch _ (k.dropWaiters _ ch _ (k.postLost s ch _ h)))

theorem freeSafed (s : State) (ch : Fin 177) (h : P s) : P (s.freeSafed ch) := by
  unfold State.freeSafed
  split
  · exact k.tellWatchers _ ch _ (k.setHold s ch _ h)
  · exact h

theorem releaseForSetup (s : State) (ch : Fin 177) (h : P s) : P (s.releaseForSetup ch) := by
  unfold State.releaseForSetup
  split
  · exact k.tellWatchers _ ch _ (k.setEntry _ ch _ (k.dropWaiters _ ch _ (k.deliver s _ _ h)))
  · exact k.dropWaiters s ch 3 h

theorem directorySetupEntry (s : State) (h : P s) : P s.directorySetupEntry := by
  have released := foldl_keeps k.releaseForSetup (Table.indices 177) h
  have queue : ∀ (u : State) l, P u → P (u.setWaiters l) := fun u _ hu => k.elsewhere u _ rfl hu
  exact queue _ _ released

/-! ## The tracks and the clock -/

theorem takeDue (s : State) (t : Fin 4) (h : P s) : P (s.takeDue t) := by
  obtain ⟨p, acts⟩ := s.takeDue_acts t
  exact k _ _ acts.heard h

theorem setTrack (s : State) (t : Fin 4) (v : Track) (h : P s) : P (s.setTrack t v) := k.elsewhere s _ rfl h

theorem passTrack (m n : Nat) (s : State) (t : Fin 4) (h : P s) : P (State.passTrack m n s t) := by
  unfold State.passTrack
  split
  · exact h
  · dsimp only
    split
    · split
      · split
        · exact k.deliver _ _ _ (k.setTrack s t _ h)
        · exact k.deliver _ _ _ (k.setTrack s t _ h)
      · exact k.setTrack s t _ h
    · exact k.setTrack s t _ h
    · exact k.setTrack s t _ h
    · exact h
    · exact h

theorem setPaused (s : State) (t : Fin 4) (b : TrackBody) (r : PauseReasons) (n : Nat) (h : P s) : P (s.setPaused t b r n) :=
  k.deliver _ _ _ (k.setTrack s t _ h)

theorem setRunning (s : State) (t : Fin 4) (b : TrackBody) (n : Nat) (h : P s) : P (s.setRunning t b n) :=
  k.deliver _ _ _ (k.setTrack s t _ h)

theorem freezeTrack (s : State) (t : Fin 4) (h : P s) : P (s.freezeTrack t) := by
  unfold State.freezeTrack
  split
  · exact h
  · dsimp only
    split
    · exact k.setPaused s t _ _ _ h
    · exact k.setTrack s t _ h
    · exact k.setTrack s t _ h
    · exact h
    · exact h

theorem thawTrack (s : State) (t : Fin 4) (h : P s) : P (s.thawTrack t) := by
  unfold State.thawTrack
  split
  · exact h
  · dsimp only
    split
    · split
      · exact k.setRunning s t _ _ h
      · exact k.setTrack s t _ h
    all_goals exact k.setTrack s t _ h

theorem safeTrack (s : State) (t : Fin 4) (h : P s) : P (s.safeTrack t) := by
  unfold State.safeTrack
  split
  · exact h
  · dsimp only
    split
    · exact k.setPaused s t _ _ _ h
    · exact k.setPaused s t _ _ _ h
    · exact k.setTrack s t _ h
    · exact h
    · exact h

theorem idleForSetup (s : State) (t : Fin 4) (h : P s) : P (s.idleForSetup t) := by
  unfold State.idleForSetup
  split
  · exact h
  · exact k.deliver _ _ _ (k.setTrack s t _ h)

/-! ## The Supervisor and the modes -/

theorem tellSafety (s : State) (detail : Nat) (h : P s) : P (s.tellSafety detail) := k.postTo s everyPort _ _ _ h

theorem rangeSafetyEntry (s : State) (h : P s) : P s.rangeSafetyEntry := by
  unfold State.rangeSafetyEntry
  split
  · split
    · exact k.endRange s _ _ h
    · exact h
  · exact h

theorem rangeSetupEntry (s : State) (h : P s) : P s.rangeSetupEntry := by
  unfold State.rangeSetupEntry
  split
  · exact k.endRange s _ _ h
  · exact h

theorem enterStopping (s : State) (c : Cause) (h : P s) : P (s.enterStopping c) := by
  have safed : P (s.setSafety (s.safety.stoppingFor c)).directorySafetyEntry :=
    foldl_keeps k.safeChannel stageChannels (k.elsewhere s (s.setSafety (s.safety.stoppingFor c)) rfl h)
  have paused : P (s.takenForStop c) := State.eachTrack_keeps k.safeTrack (k.rangeSafetyEntry _ safed)
  have clock : ∀ u : State, P u → P u.clockSafetyEntry := fun u hu => k.elsewhere u _ rfl hu
  rw [State.enterStopping_eq]
  exact k.tellSafety _ _ (clock _ paused)

theorem addCause (s : State) (c : Cause) (h : P s) : P (s.addCause c) := by
  have recorded : P (s.recordCause c) := k.tellSafety _ _ (k.elsewhere s (s.setSafety _) rfl h)
  unfold State.addCause
  split
  · exact k.enterStopping s c h
  · exact recorded
  · exact recorded

theorem field : KeptByField P where
  deliver := k.deliver
  supervise s _ _ _ _ _ _ h := k.elsewhere s _ rfl h
  cause s c _ h := k.addCause s c h
  sweep s t e h := k.elsewhere s t (by unfold OnlySweep at e; rw [e]) h

theorem play : KeptByPlay P where
  deliver := k.deliver
  setClock s _ h := k.elsewhere s _ rfl h
  emptyGain s h := k.elsewhere s _ rfl h
  takeDue s t h := k.takeDue s t h
  passTrack m n s t h := k.passTrack m n s t h

theorem returnToNormal (s : State) (h : P s) : P s.returnToNormal := by
  have left := k.elsewhere s (s.setSafety { s.safety with state := .normal, first := none, further := false }) rfl h
  exact k.tellSafety _ _ (foldl_keeps k.freeSafed (Table.indices 177) left)

theorem acknowledge (p : Port) (s : State) (h : P s) : P (safetyAckAction p s).1 := by
  have heard := k.elsewhere s (s.setSafety s.safety.acknowledged) rfl h
  unfold safetyAckAction
  split
  · exact h
  · split
    · exact h
    · dsimp only
      split
      · exact k.returnToNormal _ heard
      · exact heard

theorem changeFreeze (s : State) (h : P s) :
    P s.changeFreeze := by
  have begun : ∀ f p kind, P ((s.setFreeze f).post p kind noSubject 0) := fun f p _ =>
    k.deliver _ p _ (k.elsewhere s (s.setFreeze f) rfl h)
  have frozen : ∀ u : State, P u → P (u.setClock u.clock.freezeIn) := fun u hu => k.elsewhere u _ rfl hu
  unfold State.changeFreeze
  split
  · exact h
  · exact frozen _ (State.eachTrack_keeps k.freezeTrack (begun _ _ _))
  · exact h
  · exact k.play.clockThaw _ (State.eachTrack_keeps k.thawTrack (begun _ _ _))

theorem tellHeaders (before : Table HeaderRecord 16) (s : State) (h : P s) : P (s.tellHeaders before) :=
  foldl_keeps (fun u x hu => by
    unfold State.tellHeader
    split
    · exact k.postTo u _ _ _ _ hu
    · exact hu) _ h

theorem frame (s : State) (h : P s) : P s.frame := by
  have frozen := k.changeFreeze s.reloadFrame (k.elsewhere s _ rfl h)
  have slewed : ∀ u : State, P u → P u.slewed := fun u hu => k.elsewhere u _ rfl hu
  have rest : ∀ u : State, P u → P u.settleRest := fun u hu => k.elsewhere u _ rfl hu
  have shaped : P s.reloadFrame.changeFreeze.shape := rest _ (k.tellHeaders _ _ (slewed _ frozen))
  have evaluated : ∀ u : State, P u → P u.evalIdle := fun u hu => k.elsewhere u _ (by rw [State.evalIdle_only]) hu
  have settled : ∀ u : State, P u → P u.reachStopped := fun u hu => by
    unfold State.reachStopped
    split
    · exact k.tellSafety _ _ (k.elsewhere u (u.setSafety _) rfl hu)
    · exact hu
  have mixed : ∀ u : State, P u → P u.mix := fun u hu => k.elsewhere u _ rfl hu
  rw [State.frame_eq]
  exact k.field.sweep _ _ (State.giveSweep_only _) (mixed _ (settled _ (evaluated _ shaped)))

theorem tellMode (s : State) (detail : Nat) (h : P s) : P (s.tellMode detail) := k.postTo s everyPort _ _ _ h

theorem enterSetup (s : State) (h : P s) : P s.enterSetup := by
  have released := k.directorySetupEntry (s.setMode .setup) (k.elsewhere s _ rfl h)
  have emptied : P s.emptiedForSetup := State.eachTrack_keeps k.idleForSetup (k.rangeSetupEntry _ released)
  have clock : ∀ u : State, P u → P u.clockSetupEntry := fun u hu => k.elsewhere u _ rfl hu
  have jets : ∀ u : State, P u → P u.shaperSetupEntry := fun u hu => k.elsewhere u _ rfl hu
  have fixtures : ∀ u : State, P u → P u.mixerSetupEntry := fun u hu => k.elsewhere u _ rfl hu
  rw [State.enterSetup_eq]
  exact k.tellMode _ _ (fixtures _ (jets _ (clock _ emptied)))

end KeptByPosting

/-! ## At most 32 notices (10 R176) -/

theorem State.NoticesSound.kept : KeptByPosting State.NoticesSound := fun _ _ heard h q => (heard q).length (h q)

theorem State.showReset_notices (s : State) : s.showReset.NoticesSound := by
  have cleared : s.clearedShow.NoticesSound := fun q => by cases q <;> exact Nat.zero_le 32
  rw [State.showReset_eq]
  split
  · exact State.NoticesSound.kept.tellMode _ _ (State.NoticesSound.kept.elsewhere s.clearedShow (s.clearedShow.setMode .dark) rfl cleared)
  · exact cleared

theorem Effect.notices {m : Manner} {s t : State} (e : Effect m s t) (h : s.NoticesSound) : t.NoticesSound := by
  have k := State.NoticesSound.kept
  have play := k.play
  cases e with
  | port p lp shorter =>
    intro q
    by_cases hq : p = q
    · subst hq; rw [State.port_setPort_self]; exact shorter.trans (h p)
    · rw [State.port_setPort_ne _ _ hq]; exact h q
  | deliver p n => exact k.deliver s p n h
  | claim p ch q wait => exact k.claimChannel s p ch q wait h
  | release p ch => exact k.releaseChannel s p ch h
  | stage p ch v => exact k.stage s p ch v h
  | expireRecall ch => exact k.expireRecall s ch h
  | endRange r e => exact k.endRange s r e h
  | rangeStep r => exact k.rangeStep s r h
  | due t => exact k.takeDue s t h
  | startClock source point => exact play.meetStart _ (k.elsewhere s _ rfl h)
  | block p start count marker offset reserved frames => exact play.audioBlock p start count marker offset reserved frames s h
  | clockTick => exact play.clockTick s h
  | audioFrame => exact play.audioFrame s h
  | coastTick => exact play.coastTick s h
  | cause c => exact k.addCause s c h
  | acknowledge p => exact k.acknowledge p s h
  | reply e => exact k.field.endTransmission e s h
  | write table bytes index e => exact k.field.writeEntry s index e (k.elsewhere s _ rfl h)
  | leaveSetup => exact k.tellMode _ _ (k.elsewhere s _ rfl h)
  | enterSetup => exact k.enterSetup s h
  | goLive => exact k.tellMode _ _ (k.elsewhere s _ rfl h)
  | goDark detail => exact k.tellMode _ _ (k.elsewhere s _ rfl h)
  | expireIdle => exact k.tellMode _ _ (k.elsewhere s _ rfl h)
  | showReset => exact s.showReset_notices
  | frame => exact k.frame s h
  | powerOn estop held =>
    have started : (s.startedUp held).NoticesSound := fun q => by cases q <;> exact Nat.zero_le 32
    exact k.field.powerOn s estop held started
  | drawFree | watch | beginRange | load | arm | retime | idle | stopClock | supervise | freezeRecord | overrun | save | saved =>
    exact k.elsewhere s _ rfl h

end Sys2Proof.Machine

/-!
# The node records and the sweep
-/

namespace Sys2Proof.Machine

/-- The node records, the transmission in flight and the tables stand. -/
structure LinkKept (s t : State) : Prop where
  nodes : t.nodes = s.nodes
  running : t.sweep.running = s.sweep.running
  config : t.config = s.config

theorem OnlySafety.linkKept {s t : State} (h : OnlySafety s t) : LinkKept s t := by
  unfold OnlySafety at h; rw [h]; exact ⟨rfl, rfl, rfl⟩

theorem OnlyShow.linkKept {s t : State} (h : OnlyShow s t) : LinkKept s t := h.safety.linkKept

theorem LinkKept.refl (s : State) : LinkKept s s := ⟨rfl, rfl, rfl⟩

theorem LinkKept.trans {s t u : State} (h : LinkKept s t) (k : LinkKept t u) : LinkKept s u :=
  ⟨k.nodes.trans h.nodes, k.running.trans h.running, k.config.trans h.config⟩

theorem LinkKept.node {s t : State} (h : LinkKept s t) (n : Fin 32) : t.node n = s.node n := by
  unfold State.node; rw [h.nodes]

/-- Every node's record is sound for its type. -/
def State.RecordsSound (s : State) : Prop := ∀ n : Fin 32, (s.node n).Sound (s.config.nodes.get n)

theorem State.RecordsSound.kept {s t : State} (h : s.RecordsSound) (k : LinkKept s t) : t.RecordsSound := fun n => by
  rw [k.node, k.config]; exact h n

theorem LinkKept.nodesSound {s t : State} (k : LinkKept s t) (h : s.NodesSound) : t.NodesSound := by
  obtain ⟨records, awaited⟩ := h
  refine ⟨State.RecordsSound.kept records k, fun r running counted => ?_⟩
  rw [k.node, k.config]
  exact awaited r (k.running ▸ running) counted

theorem State.RecordsSound.setNode {s : State} (h : s.RecordsSound) {n : Fin 32} {r : NodeRecord}
    (own : r.Sound (s.config.nodes.get n)) : (s.setNode n r).RecordsSound := fun m => by
  by_cases hm : n = m
  · subst hm; rw [State.node_setNode_self]; exact own
  · rw [State.node_setNode_ne _ _ hm]; exact h m

/-! ## The sweep -/

theorem NodeRecord.Sound.passed {r : NodeRecord} {t : NodeType} (h : r.Sound t) : r.passed.Sound t := by
  obtain ⟨busy, miss, skip, calm, lost, unlost, absent⟩ := h
  unfold NodeRecord.passed
  split
  · next backoff => exact ⟨busy, miss, (Nat.sub_le _ 1).trans skip, fun ne => absurd backoff ne, lost, unlost, absent⟩
  all_goals exact ⟨busy, miss, skip, calm, lost, unlost, absent⟩

/-- A node that is sent a frame awaits it, and is not ABSENT. -/
theorem NodeRecord.visit_awaits {r : NodeRecord} {probing : Bool} {kind : SentKind} (h : r.visit probing = some kind) :
    r.state ≠ .absent ∧ r.awaits kind := by
  unfold NodeRecord.visit at h
  unfold NodeRecord.awaits
  split at h
  · cases h
  · next e => cases h; simp [e]
  · next e => cases h; simp [e]
  · next e =>
    split at h
    · next skip => cases h; simp [e, skip]
    · cases h
  · next e =>
    split at h
    · cases h; simp [e]
    · cases h
  · next e =>
    split at h
    · cases h; simp [e]
    · cases h

/-- Wherever a sweep comes to stand, it leaves the records sound and the transmission it begins awaited. -/
theorem State.walk_nodesSound (probing : Bool) (l : List (Fin 32)) {s : State} (h : s.RecordsSound) :
    (State.walk probing l s).NodesSound := by
  induction l generalizing s with
  | nil => exact ⟨h, fun r running => by cases running⟩
  | cons n rest ih =>
    unfold State.walk
    split
    · next kind visited =>
      obtain ⟨present, awaits⟩ := NodeRecord.visit_awaits visited
      refine ⟨h, fun r running counted => ?_⟩
      obtain rfl : r = ⟨s.transmit n kind, probing⟩ := (Option.mem_some_iff.mp (Option.mem_toList.mp running)).symm
      obtain ⟨-, -, -, -, -, -, absent⟩ := h n
      exact ⟨fun none => present (absent.mpr none), awaits⟩
    · exact ih (h.setNode (h n).passed)

theorem State.startSweep_nodesSound {s : State} (h : s.RecordsSound) : s.startSweep.NodesSound :=
  State.walk_nodesSound _ _ (s := s.setSweep _) h

theorem State.goOn_nodesSound {s : State} (h : s.RecordsSound) (probing : Bool) (rest : List (Fin 32)) :
    (s.goOn probing rest).NodesSound := by
  have walked := State.walk_nodesSound probing rest h
  unfold State.goOn
  dsimp only
  split
  · exact walked
  · split
    · exact State.startSweep_nodesSound (s := (State.walk probing rest s).setSweep _) walked.1
    · exact walked

theorem State.giveSweep_nodesSound {s : State} (h : s.NodesSound) : s.giveSweep.NodesSound := by
  unfold State.giveSweep
  split
  · exact State.startSweep_nodesSound h.1
  · split <;> exact LinkKept.nodesSound ⟨rfl, rfl, rfl⟩ h

/-! ## The end of a transmission -/

theorem State.loseNode_records {s : State} (h : s.RecordsSound) {n : Fin 32} (typed : s.config.nodes.get n ≠ .none)
    {r : NodeRecord} (busy : r.busyCount ≤ 5) (detail : Nat) : (s.loseNode n r detail).RecordsSound := by
  have lost : (s.setNode n { r with state := .lost, skipCount := 0, missCount := Config.missLimit }).RecordsSound :=
    h.setNode ⟨busy, Nat.le_refl 3, Nat.zero_le 8, fun _ => rfl, fun _ => rfl, fun ne => absurd rfl ne,
      ⟨fun e => (nomatch e), fun e => absurd e typed⟩⟩
  have told := lost.kept (State.postAll_only _ .nodeState n.val detail).directory.tracks.show.linkKept
  unfold State.loseNode State.handLoss
  split
  · exact State.RecordsSound.kept told (State.sensorLost_only _).linkKept
  · exact told

theorem State.missNode_records {s : State} (h : s.RecordsSound) {n : Fin 32} (typed : s.config.nodes.get n ≠ .none) :
    (s.missNode n).RecordsSound := by
  obtain ⟨busy, miss, skip, calm, lost, unlost, absent⟩ := h n
  unfold State.missNode
  dsimp only
  split
  · exact h
  · next present =>
    split
    · exact State.loseNode_records h typed busy 1
    · next few =>
      have few : (s.node n).missCount + 1 < 3 := Nat.lt_of_not_le few
      exact h.setNode ⟨busy, few.le, skip, calm, fun e => absurd e present, fun _ => few, absent⟩

theorem backoffSkip_le (b : Nat) : backoffSkip b ≤ 8 := by
  unfold backoffSkip
  split <;> omega

theorem State.busyNode_records {s : State} (h : s.RecordsSound) {n : Fin 32} (typed : s.config.nodes.get n ≠ .none)
    (present : (s.node n).state ≠ .lost) : (s.busyNode n).RecordsSound := by
  obtain ⟨busy, miss, skip, calm, lost, unlost, absent⟩ := h n
  unfold State.busyNode
  dsimp only
  split
  · exact State.loseNode_records h typed (Nat.le_refl 5) 2
  · next few =>
    have few : (s.node n).busyCount + 1 ≤ 5 := (Nat.lt_of_not_le few).le
    have backedOff : (s.setNode n { s.node n with
        state := .backoff, busyCount := (s.node n).busyCount + 1, skipCount := backoffSkip ((s.node n).busyCount + 1) }).RecordsSound :=
      h.setNode ⟨few, miss, backoffSkip_le _, fun ne => absurd rfl ne, fun e => (nomatch e), fun _ => unlost present,
        ⟨fun e => (nomatch e), fun e => absurd e typed⟩⟩
    split
    · unfold State.handLoss
      split
      · exact State.RecordsSound.kept backedOff (State.sensorLost_only _).linkKept
      · exact backedOff
    · exact backedOff

theorem NodeRecord.acked_sound {r : NodeRecord} {t : NodeType} (typed : t ≠ .none) (body : AckBody) : (r.acked body).Sound t := by
  have online : ∀ d f, NodeRecord.Sound ⟨.online, 0, 0, 0, d, f⟩ t := fun _ _ =>
    ⟨Nat.zero_le 5, Nat.zero_le 3, Nat.zero_le 8, fun _ => rfl, fun e => (nomatch e), fun _ => Nat.zero_lt_succ 2,
      ⟨fun e => (nomatch e), fun e => absurd e typed⟩⟩
  cases body <;> exact online _ _

theorem State.ackNode_records {s : State} (h : s.RecordsSound) {n : Fin 32} (typed : s.config.nodes.get n ≠ .none)
    (body : AckBody) : (s.ackNode n body).RecordsSound := by
  have acked : (s.setNode n ((s.node n).acked body)).RecordsSound := h.setNode (NodeRecord.acked_sound typed body)
  unfold State.ackNode
  split
  · exact acked
  · exact acked
  · split
    · exact State.RecordsSound.kept acked (State.takeReading_only _ _ _).linkKept
    · exact State.RecordsSound.kept acked ((State.sensorOnline_only _).linkKept.trans (State.takeReading_only _ _ _).linkKept)

theorem State.identNode_records {s : State} (h : s.RecordsSound) {n : Fin 32} (typed : s.config.nodes.get n ≠ .none)
    (probed : (s.node n).state = .offline ∨ (s.node n).state = .lost) : (s.identNode n).RecordsSound := by
  obtain ⟨busy, miss, skip, calm, lost, unlost, absent⟩ := h n
  have rest : (s.node n).skipCount = 0 := calm (by rcases probed with e | e <;> rw [e] <;> exact NodeState.noConfusion)
  have syncing : (s.setNode n { s.node n with state := .syncing, busyCount := 0, missCount := 0 }).RecordsSound :=
    h.setNode ⟨Nat.zero_le 5, Nat.zero_le 3, skip, fun _ => rest, fun e => (nomatch e), fun _ => Nat.zero_lt_succ 2,
      ⟨fun e => (nomatch e), fun e => absurd e typed⟩⟩
  unfold State.identNode
  dsimp only
  split
  · exact syncing.kept (State.postAll_only _ .nodeState n.val 0).directory.tracks.show.linkKept
  · exact syncing

theorem NodeRecord.awaits.not_lost {r : NodeRecord} {kind : SentKind} (h : r.awaits kind) (update : kind ≠ .probe) :
    r.state ≠ .lost := by
  rcases h.1 update with e | e | ⟨e, -⟩ <;> rw [e] <;> exact NodeState.noConfusion

/-- The end of a counted transmission leaves the records sound. -/
theorem EndOfTransmission.records {act : State → Transmission → State} (e : EndOfTransmission act) {s : State} {tx : Transmission}
    (h : s.RecordsSound) (typed : s.config.nodes.get tx.node ≠ .none) (awaits : (s.node tx.node).awaits tx.kind) :
    (act s tx).RecordsSound := by
  cases e with
  | ack body =>
    unfold State.endAck
    split
    · exact State.ackNode_records h typed body
    · exact State.missNode_records h typed
  | busy =>
    unfold State.endBusy
    split
    · next update => exact State.busyNode_records h typed (awaits.not_lost (by simpa [Transmission.isUpdate] using update))
    · exact State.missNode_records h typed
  | ident ty =>
    unfold State.endIdent
    split
    · next named =>
      have probe : tx.kind = .probe := by
        rw [Bool.and_eq_true, Transmission.isUpdate] at named
        simpa using named.1
      exact State.identNode_records h typed (awaits.2 probe)
    · exact State.missNode_records h typed
  | miss => exact State.missNode_records h typed

theorem State.endTransmission_nodesSound {s : State} (h : s.NodesSound) {act : State → Transmission → State}
    (e : EndOfTransmission act) : (s.endTransmission act).NodesSound := by
  obtain ⟨records, awaited⟩ := h
  unfold State.endTransmission
  split
  · exact ⟨records, awaited⟩
  · next r running =>
    refine State.goOn_nodesSound ?_ _ _
    split
    · next counted =>
      obtain ⟨typed, awaits⟩ := awaited r (Option.mem_toList.mpr running) counted
      exact e.records records typed awaits
    · exact records

/-! ## A node entry written (07 R130) -/

theorem NodeRecord.fresh_sound (t : NodeType) : (NodeRecord.fresh t).Sound t := by
  cases t <;> exact ⟨by decide, by decide, by decide, by decide, by decide, by decide, by decide⟩

/-- A counted transmission in flight after the uncounting went on before it, to another node. -/
theorem State.uncount_running {s : State} {n : Fin 32} {r : RunningSweep} (h : r ∈ (s.uncount n).sweep.running.toList)
    (counted : r.tx.counted = true) : r.tx.node ≠ n ∧ r ∈ s.sweep.running.toList := by
  unfold State.uncount at h
  split at h
  · next idle => rw [idle] at h; cases h
  · next q running =>
    split at h
    · obtain rfl := Option.mem_some_iff.mp (Option.mem_toList.mp h)
      cases counted
    · next other =>
      rw [running] at h ⊢
      obtain rfl := Option.mem_some_iff.mp (Option.mem_toList.mp h)
      exact ⟨other, h⟩

theorem State.uncount_node (s : State) (n m : Fin 32) : (s.uncount n).node m = s.node m := by
  unfold State.uncount
  split
  · rfl
  · split <;> rfl

theorem State.uncount_config (s : State) (n : Fin 32) : (s.uncount n).config = s.config := by
  unfold State.uncount
  split
  · rfl
  · split <;> rfl

/-- What a written node entry makes of the records: the node's own is remade where its type changed. -/
theorem State.nodeWritten_link (s : State) (n : Fin 32) (before : NodeType) :
    LinkKept (if s.config.nodes.get n = before then s.uncount n
      else (s.uncount n).setNode n (.fresh (s.config.nodes.get n))) (s.nodeWritten n before) := by
  unfold State.nodeWritten
  dsimp only
  split
  · exact .refl _
  · have told : LinkKept ((s.uncount n).setNode n (.fresh (s.config.nodes.get n)))
        (if ((s.uncount n).node n).state = .lost
        then ((s.uncount n).setNode n (.fresh (s.config.nodes.get n))).tellNode n 3
        else (s.uncount n).setNode n (.fresh (s.config.nodes.get n))) := by
      split
      · exact (State.postAll_only _ .nodeState n.val 3).directory.tracks.show.linkKept
      · exact .refl _
    split
    · exact told.trans (State.sensorLost_only _).linkKept
    · exact told

theorem Tables.put_node (t : Tables) (index : Nat) (ty : NodeType) :
    (t.put index (.node ty)).nodes = t.nodes.set (Fin.ofNat 32 index) ty := rfl

/-- The written node's record is sound for its new type, and no counted transmission goes to it. -/
theorem State.nodeReplaced_nodesSound {s : State} (records : s.RecordsSound)
    (awaited : ∀ r ∈ s.sweep.running.toList, r.tx.counted = true →
      s.config.nodes.get r.tx.node ≠ .none ∧ (s.node r.tx.node).awaits r.tx.kind)
    (n : Fin 32) (ty : NodeType) {u : State} (written : u = { s with config := u.config })
    (nodes : u.config.nodes = s.config.nodes.set n ty := by rfl) :
    (if u.config.nodes.get n = s.config.nodes.get n then u.uncount n
      else (u.uncount n).setNode n (.fresh (u.config.nodes.get n))).NodesSound := by
  have node : ∀ m, u.node m = s.node m := fun m => by rw [written]; rfl
  have other : ∀ m, n ≠ m → u.config.nodes.get m = s.config.nodes.get m := fun m hm => by
    rw [nodes, Table.get_set_ne _ _ hm]
  have flight : ∀ r ∈ (u.uncount n).sweep.running.toList, r.tx.counted = true →
      n ≠ r.tx.node ∧ u.config.nodes.get r.tx.node ≠ .none ∧ (u.node r.tx.node).awaits r.tx.kind := fun r running counted => by
    obtain ⟨ne, before⟩ := State.uncount_running running counted
    have before' : r ∈ s.sweep.running.toList := by rw [written] at before; exact before
    rw [other _ (Ne.symm ne), node]
    exact ⟨Ne.symm ne, awaited r before' counted⟩
  split
  · next same =>
    refine ⟨fun m => ?_, fun r running counted => ?_⟩
    · rw [State.uncount_node, State.uncount_config, node]
      by_cases hm : n = m
      · subst hm; rw [same]; exact records n
      · rw [other m hm]; exact records m
    · rw [State.uncount_node, State.uncount_config]
      exact (flight r running counted).2
  · refine ⟨fun m => ?_, fun r running counted => ?_⟩
    · have config : ((u.uncount n).setNode n (.fresh (u.config.nodes.get n))).config = u.config := State.uncount_config u n
      rw [config]
      by_cases hm : n = m
      · subst hm; rw [State.node_setNode_self]; exact NodeRecord.fresh_sound _
      · rw [State.node_setNode_ne _ _ hm, State.uncount_node, node, other m hm]; exact records m
    · obtain ⟨ne, sent⟩ := flight r running counted
      have config : ((u.uncount n).setNode n (.fresh (u.config.nodes.get n))).config = u.config := State.uncount_config u n
      rw [config, State.node_setNode_ne _ _ ne, State.uncount_node]
      exact sent

theorem State.writeEntry_nodesSound {s : State} (h : s.NodesSound) (index : Nat) (e : ConfigEntry) :
    (s.writeEntry index e).NodesSound := by
  obtain ⟨records, awaited⟩ := h
  have same : ∀ t, LinkKept { s with config := s.config.put index e } t → (s.config.put index e).nodes = s.config.nodes →
      t.NodesSound := fun t kept nodes => by
    refine kept.nodesSound ⟨fun m => ?_, fun r running counted => ?_⟩
    · show (s.node m).Sound ((s.config.put index e).nodes.get m)
      rw [nodes]; exact records m
    · show (s.config.put index e).nodes.get r.tx.node ≠ .none ∧ _
      rw [nodes]; exact awaited r running counted
  cases e with
  | node ty =>
    exact (State.nodeWritten_link _ _ _).nodesSound (State.nodeReplaced_nodesSound records awaited (Fin.ofNat 32 index) ty rfl)
  | global g => exact same _ (State.setWind_only _ _).linkKept rfl
  | rights _ => exact same _ (.refl _) rfl
  | jet _ => exact same _ (.refl _) rfl
  | header _ => exact same _ (.refl _) rfl
  | fixture _ => exact same _ (.refl _) rfl

/-! ## The effects -/

theorem State.frame_nodesSound {s : State} (h : s.NodesSound) : s.frame.NodesSound := by
  have reloaded : LinkKept s s.reloadFrame := ⟨rfl, rfl, rfl⟩
  have shaped : ∀ u : State, LinkKept u u.shape := fun u => by
    have only := u.shape_only
    unfold OnlyShaper at only
    rw [only]; exact ⟨rfl, rfl, rfl⟩
  have evaluated : ∀ u : State, LinkKept u u.evalIdle := fun u => by rw [State.evalIdle_only]; exact ⟨rfl, rfl, rfl⟩
  have mixed : ∀ u : State, LinkKept u u.mix := fun u => ⟨rfl, rfl, rfl⟩
  have begun := (reloaded.trans (State.changeFreeze_only _).linkKept).trans (shaped _)
  have settled := ((begun.trans (evaluated _)).trans (State.reachStopped_only _).linkKept).trans (mixed _)
  rw [State.frame_eq]
  exact State.giveSweep_nodesSound (settled.nodesSound h)

theorem State.enterSetup_linkKept (s : State) : LinkKept s s.enterSetup := by
  have mode : LinkKept s (s.setMode .setup) := ⟨rfl, rfl, rfl⟩
  have clock : ∀ u : State, LinkKept u u.clockSetupEntry := fun u => ⟨rfl, rfl, rfl⟩
  have jets : ∀ u : State, LinkKept u u.shaperSetupEntry := fun u => ⟨rfl, rfl, rfl⟩
  have fixtures : ∀ u : State, LinkKept u u.mixerSetupEntry := fun u => ⟨rfl, rfl, rfl⟩
  have told : ∀ u : State, LinkKept u (u.tellMode 0) := fun u => ⟨rfl, rfl, rfl⟩
  rw [State.enterSetup_eq]
  exact ((((mode.trans s.emptiedForSetup_only.linkKept).trans (clock _)).trans (jets _)).trans (fixtures _)).trans (told _)

theorem State.showReset_linkKept (s : State) : LinkKept s s.showReset := by
  have cleared : LinkKept s s.clearedShow := ⟨rfl, rfl, rfl⟩
  have dark : ∀ (u : State) d, LinkKept u (u.goDark d) := fun _ _ => ⟨rfl, rfl, rfl⟩
  rw [State.showReset_eq]
  split
  · exact cleared.trans (dark _ _)
  · exact cleared

theorem State.startedUp_nodesSound (s : State) (held : PerPort Bool) : (s.startedUp held).NodesSound := by
  refine ⟨fun n => ?_, fun r running => (nomatch running)⟩
  have node : (s.startedUp held).node n = .fresh ((s.startedUp held).config.nodes.get n) := Table.get_build _ n
  rw [node]
  exact NodeRecord.fresh_sound _

theorem Effect.nodesSound {m : Manner} {s t : State} (e : Effect m s t) (h : s.NodesSound) : t.NodesSound := by
  cases e with
  | claim p ch q wait => exact (s.claimChannel_only p ch q wait).tracks.show.linkKept.nodesSound h
  | release p ch => exact (s.releaseChannel_only p ch).tracks.show.linkKept.nodesSound h
  | stage p ch v => exact (s.stage_only p ch v).tracks.show.linkKept.nodesSound h
  | expireRecall ch => exact (s.expireRecall_only ch).tracks.show.linkKept.nodesSound h
  | rangeStep r => exact (s.rangeStep_only r).linkKept.nodesSound h
  | due t => exact (s.takeDue_only t).show.linkKept.nodesSound h
  | startClock source point => exact ((s.setClock_only _).trans (State.meetStart_only _)).linkKept.nodesSound h
  | block => exact (audioBlockAction_only ..).linkKept.nodesSound h
  | clockTick => exact s.clockTick_only.linkKept.nodesSound h
  | audioFrame => exact s.audioFrame_only.linkKept.nodesSound h
  | coastTick => exact s.coastTick_only.linkKept.nodesSound h
  | cause c => exact (s.addCause_only c).linkKept.nodesSound h
  | acknowledge p => exact (safetyAckAction_only p s).linkKept.nodesSound h
  | reply e => exact State.endTransmission_nodesSound h e
  | write table bytes index e => exact State.writeEntry_nodesSound h index e
  | enterSetup => exact s.enterSetup_linkKept.nodesSound h
  | showReset => exact s.showReset_linkKept.nodesSound h
  | frame => exact State.frame_nodesSound h
  | powerOn estop held =>
    rw [State.powerOn_eq]
    split
    · exact (State.assertEstop_only _).linkKept.nodesSound (s.startedUp_nodesSound held)
    · exact s.startedUp_nodesSound held
  | port | deliver | drawFree | watch | beginRange | endRange | load | arm | retime | idle | stopClock | supervise | freezeRecord
    | overrun | save | saved | leaveSetup | goLive | goDark | expireIdle => exact LinkKept.nodesSound (s := s) ⟨rfl, rfl, rfl⟩ h

/-- Settles O44: the records by each end of a transmission and by the sweep; the queues by a port's own limit. -/
theorem stepKeepsNodesAndNoticesSound : Obligations.StepKeepsNodesAndNoticesSound := by
  intro s t next
  exact ⟨step_keeps_of_effects (P := State.NodesSound) (fun _ _ _ h => h) (fun _ _ h => h) Effect.nodesSound next,
    step_keeps_of_effects (P := State.NoticesSound) (fun _ _ _ h => h) (fun _ _ h => h) Effect.notices next⟩

end Sys2Proof.Machine

/-!
# The show clock: what each action makes of its record

The clock's record depends on nothing that a track or a channel does, so each action is an equation of clock records.
-/

namespace Sys2Proof.Machine

/-! ## What leaves the clock alone -/

theorem OnlyTracks.clock_eq {s t : State} (h : OnlyTracks s t) : t.clock = s.clock := by
  unfold OnlyTracks at h; rw [h]

theorem OnlyDirectory.clock_eq {s t : State} (h : OnlyDirectory s t) : t.clock = s.clock := h.tracks.clock_eq

theorem OnlyPorts.clock_eq {s t : State} (h : OnlyPorts s t) : t.clock = s.clock := h.directory.clock_eq

theorem OnlyRanges.clock_eq {s t : State} (h : OnlyRanges s t) : t.clock = s.clock := by
  unfold OnlyRanges at h; rw [h]

theorem OnlySweep.clock_eq {s t : State} (h : OnlySweep s t) : t.clock = s.clock := by
  unfold OnlySweep at h; rw [h]

theorem OnlyShaper.clock_eq {s t : State} (h : OnlyShaper s t) : t.clock = s.clock := by
  unfold OnlyShaper at h; rw [h]

theorem State.takenForStop_clock (s : State) (c : Cause) : (s.takenForStop c).clock = s.clock := by
  have paused : OnlyTracks _ (s.takenForStop c) := State.eachTrack_only _ State.safeTrack_only
  rw [paused.clock_eq, (State.rangeSafetyEntry_ranges _).clock_eq, (State.directorySafetyEntry_only _).clock_eq]
  rfl

/-- Entry to STOPPING stops the clock (04 R83). -/
theorem State.enterStopping_clock (s : State) (c : Cause) : (s.enterStopping c).clock = s.clock.stop := by
  have stopped : ∀ u : State, u.clockSafetyEntry.clock = u.clock.stop := fun _ => rfl
  rw [State.enterStopping_eq, (State.tellSafety_only _ _).clock_eq, stopped, s.takenForStop_clock]

theorem State.recordCause_clock (s : State) (c : Cause) : (s.recordCause c).clock = s.clock := rfl

theorem ClockUnit.stop_stop (c : ClockUnit) : c.stop.stop = c.stop := rfl

/-- What the Supervisor and the field link make of the clock: nothing, or a stop. -/
theorem clock_field (c : ClockUnit) : KeptByField fun s => s.clock = c ∨ s.clock = c.stop where
  deliver _ _ _ h := h
  supervise _ _ _ _ _ _ _ h := h
  cause s x _ h := by
    unfold State.addCause
    split
    · rw [s.enterStopping_clock]
      rcases h with e | e <;> rw [e]
      · exact .inr rfl
      · exact .inr c.stop_stop
    · exact h
    · exact h
  sweep _ _ e h := by rw [e.clock_eq]; exact h

theorem safetyAckAction_clock (p : Port) (s : State) : (safetyAckAction p s).1.clock = s.clock := by
  have returned : ∀ u : State, u.returnToNormal.clock = u.clock := fun u => by
    rw [State.returnToNormal, (State.tellSafety_only _ _).clock_eq, (State.directorySafetyExit_only _).clock_eq]
    rfl
  unfold safetyAckAction
  split
  · rfl
  · split
    · rfl
    · dsimp only
      split
      · rw [returned]; rfl
      · rfl

/-! ## The clock's own actions -/

/-- The records agree on what the show follows: all but the marker log, the active gain and the frame put out. -/
structure ClockUnit.Shows (c d : ClockUnit) : Prop where
  value : d.value = c.value
  run : d.run = c.run
  source : d.source = c.source
  underrun : d.underrun = c.underrun
  freeze : d.freeze = c.freeze
  coasting : d.coasting = c.coasting
  position : d.position = c.position
  queue : d.queue = c.queue

theorem ClockUnit.Shows.refl (c : ClockUnit) : c.Shows c := ⟨rfl, rfl, rfl, rfl, rfl, rfl, rfl, rfl⟩

theorem ClockUnit.Shows.trans {c d e : ClockUnit} (h : c.Shows d) (k : d.Shows e) : c.Shows e :=
  ⟨k.value.trans h.value, k.run.trans h.run, k.source.trans h.source, k.underrun.trans h.underrun, k.freeze.trans h.freeze,
    k.coasting.trans h.coasting, k.position.trans h.position, k.queue.trans h.queue⟩

/-- What an underrun makes of the clock by the policy in force (04 R80, R81). -/
def ClockUnit.underrunBy (c : ClockUnit) (policy : Policy) : ClockUnit :=
  match policy with
  | .coast => { c with coasting := true }
  | .stall => { c with run := .stalled, underrun := true }

theorem State.postAud_clock (s : State) (k : NoticeKind) (detail : Nat) : (s.postAud k detail).clock = s.clock :=
  (s.postAud_only k detail).clock_eq

theorem State.rangeEnd_clock (s : State) : s.rangeEnd.clock = s.clock.heldUp := by
  unfold State.rangeEnd ClockUnit.heldUp
  simp only [State.setClock_clock, State.postAud_clock]

theorem State.meetUnderrun_clock (s : State) : s.meetUnderrun.clock = s.clock.underrunBy s.config.global.policy := by
  unfold State.meetUnderrun ClockUnit.underrunBy
  cases s.config.global.policy <;> simp only [State.setClock_clock, State.postAud_clock]

theorem State.endCoasting_clock (s : State) : s.endCoasting.clock = { s.clock with coasting := false } := by
  unfold State.endCoasting
  simp only [State.setClock_clock, State.postAud_clock]

/-- What a clock made RUNNING with the audio source meets (04 R69, R79, R82). -/
def ClockUnit.met (c : ClockUnit) (policy : Policy) : ClockUnit :=
  if c.run = .running ∧ c.source = .audio then
    if c.position = Config.lastPosition then c.heldUp
    else if c.queue.isEmpty ∧ c.coasting = false then c.underrunBy policy
    else c
  else c

theorem State.meetStart_clock (s : State) : s.meetStart.clock = s.clock.met s.config.global.policy := by
  unfold State.meetStart ClockUnit.met
  split
  · split
    · exact s.rangeEnd_clock
    · split
      · exact s.meetUnderrun_clock
      · rfl
  · rfl

/-- The clock after a block has been taken OK (04 R80, R81). -/
def ClockUnit.arrived (c : ClockUnit) : ClockUnit :=
  if c.underrun then
    { c with underrun := false, run := if c.run = .stopped then .stopped else startedRun false c.freeze }
  else if c.coasting ∧ c.reachesBlock = true then { c with coasting := false }
  else c

theorem State.blockArrived_clock (s : State) : s.blockArrived.clock = s.clock.arrived := by
  unfold State.blockArrived ClockUnit.arrived
  split
  · rw [State.postAud_clock]; rfl
  · split
    · exact s.endCoasting_clock
    · rfl

theorem State.clockTick_clock (s : State) : s.clockTick.clock =
    if s.clock.run = .running ∧ s.clock.source = .internal ∧ s.clock.value < Config.lastPosition
    then { s.clock with value := s.clock.value + 1 } else s.clock := by
  unfold State.clockTick
  split
  · simp only [State.setClock_clock, s.takeOwed_clock]
  · rfl

theorem State.commitGain_shows (s : State) : s.clock.Shows s.commitGain.clock := by
  unfold State.commitGain
  split
  · split
    · exact ⟨rfl, rfl, rfl, rfl, rfl, rfl, rfl, rfl⟩
    · exact .refl _
  all_goals exact .refl _

theorem State.playFrame_shows (s : State) (b : Block) : s.clock.Shows (s.playFrame b).clock := by
  have committed : s.clock.Shows (if b.start = s.clock.position then s.commitGain else s).clock := by
    split
    · exact s.commitGain_shows
    · exact .refl _
  have putOut : ∀ (u : State) o, u.clock.Shows (u.setClock { u.clock with output := o }).clock := fun _ _ =>
    ⟨rfl, rfl, rfl, rfl, rfl, rfl, rfl, rfl⟩
  have passed : ∀ (u : State) m, u.clock.Shows (u.passMarker m).clock := fun u m => by
    have logged : u.clock.Shows (u.setClock { u.clock with
        log := appendLog u.clock.log ⟨m.id, m.position / Config.framesPerMs⟩ }).clock := ⟨rfl, rfl, rfl, rfl, rfl, rfl, rfl, rfl⟩
    unfold State.passMarker
    dsimp only
    rw [(State.passage_only _ _ _).clock_eq]
    exact logged
  unfold State.playFrame
  split
  · exact putOut s _
  · dsimp only
    split
    · split
      · exact (committed.trans (putOut _ _)).trans (passed _ _)
      · exact committed.trans (putOut _ _)
    · exact committed.trans (putOut _ _)

/-- The clock set to an audio play position: `advancePlay` on the record. -/
theorem State.advancePlay_clock (s : State) (p : Nat) (queue : List Block) :
    (s.advancePlay p queue).clock = s.clock.atPosition p queue := by
  unfold State.advancePlay ClockUnit.atPosition
  simp only [State.setClock_clock, s.takeOwed_clock]
  rfl

/-- The clock after the play position has moved on by one frame (04 R72, R76, R79). -/
def ClockUnit.movedOn (c : ClockUnit) (policy : Policy) : ClockUnit :=
  let d := c.atPosition (c.position + 1) (queuePast c.queue (c.position + 1))
  if c.position + 1 = Config.lastPosition then d.heldUp
  else if d.queue.isEmpty then d.underrunBy policy
  else d

theorem OnlyShow.config_eq {s t : State} (h : OnlyShow s t) : t.config = s.config := by
  unfold OnlyShow at h; rw [h]

theorem State.movePlay_clock (s : State) : s.movePlay.clock = s.clock.movedOn s.config.global.policy := by
  unfold State.movePlay ClockUnit.movedOn
  dsimp only
  split
  · rw [State.rangeEnd_clock, State.takeOwed_clock, State.advancePlay_clock]; rfl
  · split
    · next empty =>
      rw [State.meetUnderrun_clock, State.takeOwed_clock, State.advancePlay_clock,
        ((State.advancePlay_only _ _ _).trans (State.takeOwed_only _).show).config_eq]
      exact (if_pos empty).symm
    · next full =>
      rw [State.advancePlay_clock]
      exact (if_neg full).symm

/-- What one frame period makes of the clock: its output silenced; or coasting ended, and then what an empty queue meets or the
play position moved on (04 R76 to R80). -/
inductive ClockUnit.Framed (c : ClockUnit) (policy : Policy) : ClockUnit → Prop
  | silent (d : ClockUnit) (h : c.Shows d) : c.Framed policy d
  | empty (d : ClockUnit) (run : c.run = .running) (source : c.source = .audio)
      (h : ({ c with coasting := false } : ClockUnit).Shows d) (queue : c.queue = []) : c.Framed policy (d.met policy)
  | moved (d : ClockUnit) (run : c.run = .running) (source : c.source = .audio)
      (h : ({ c with coasting := false } : ClockUnit).Shows d) (queue : c.queue ≠ []) : c.Framed policy (d.movedOn policy)

theorem ClockUnit.quiet_shows (c : ClockUnit) : c.Shows c.quiet := ⟨rfl, rfl, rfl, rfl, rfl, rfl, rfl, rfl⟩

theorem State.resumed_clock (s : State) : (if s.clock.coasting = true then s.endCoasting else s).clock =
    { s.clock with coasting := false } := by
  split
  · exact s.endCoasting_clock
  · next calm => rw [← Bool.eq_false_iff.mpr calm]

theorem State.audioFrame_framed (s : State) : s.clock.Framed s.config.global.policy s.audioFrame.clock := by
  have resumed := s.resumed_clock
  have config : (if s.clock.coasting = true then s.endCoasting else s).config = s.config := by
    split
    · exact (State.endCoasting_only s).config_eq
    · rfl
  unfold State.audioFrame
  split
  · next playing =>
    obtain ⟨run, source⟩ := playing
    split
    · exact .silent _ s.clock.quiet_shows
    · dsimp only
      generalize (if s.clock.coasting = true then s.endCoasting else s) = u at resumed config
      have queue : u.clock.queue = s.clock.queue := by rw [resumed]
      split
      · next none_left =>
        rw [State.meetStart_clock, State.takeOwed_clock, (State.takeOwed_only _).show.config_eq]
        have quiet : ({ s.clock with coasting := false } : ClockUnit).Shows u.clock.quiet := by
          rw [resumed]; exact ClockUnit.quiet_shows _
        have same : (u.setClock u.clock.quiet).config = s.config := config
        rw [same]
        exact .empty _ run source quiet (queue.symm.trans none_left)
      · next b rest some_left =>
        have shown := u.playFrame_shows b
        rw [State.movePlay_clock, (State.playFrame_only u b).config_eq, config]
        refine .moved _ run source (resumed ▸ shown) ?_
        rw [← queue, some_left]
        exact List.cons_ne_nil b rest
  · exact .silent _ s.clock.quiet_shows

theorem State.coastTick_clock (s : State) : s.coastTick.clock =
    if s.clock.run = .running ∧ s.clock.source = .audio ∧ s.clock.coasting = true then
      if min (s.clock.position + 48) Config.lastPosition = Config.lastPosition then
        (s.clock.atPosition (min (s.clock.position + 48) Config.lastPosition)
          (bringTo (min (s.clock.position + 48) Config.lastPosition) s.clock.queue)).heldUp
      else if (s.clock.atPosition (min (s.clock.position + 48) Config.lastPosition)
          (bringTo (min (s.clock.position + 48) Config.lastPosition) s.clock.queue)).reachesBlock then
        { s.clock.atPosition (min (s.clock.position + 48) Config.lastPosition)
          (bringTo (min (s.clock.position + 48) Config.lastPosition) s.clock.queue) with coasting := false }
      else s.clock.atPosition (min (s.clock.position + 48) Config.lastPosition)
          (bringTo (min (s.clock.position + 48) Config.lastPosition) s.clock.queue)
    else s.clock := by
  unfold State.coastTick
  split
  · dsimp only
    have ms : Config.framesPerMs = 48 := rfl
    rw [ms]
    split
    · rw [State.rangeEnd_clock, State.takeOwed_clock, State.advancePlay_clock]
    · simp only [State.advancePlay_clock]
      split
      · rw [State.endCoasting_clock, State.advancePlay_clock]
      · rw [State.advancePlay_clock]
  · rfl

/-- The clock after a freeze is lifted (04 R82). -/
def ClockUnit.thawed (c : ClockUnit) (policy : Policy) : ClockUnit :=
  let d : ClockUnit := { c with
    freeze := false, run := if c.run = .stopped then .stopped else startedRun c.underrun false }
  if c.run = .stalled then d.met policy else d

theorem State.clockThaw_clock (s : State) : s.clockThaw.clock = s.clock.thawed s.config.global.policy := by
  unfold State.clockThaw ClockUnit.thawed
  dsimp only
  split
  · exact State.meetStart_clock _
  · rfl

/-! ## AUDIO_BLOCK -/

/-- A block that AUDIO_BLOCK adds is sound and begins at or after the bound of lateness (04 R74, R75). -/
structure ClockUnit.Admits (c : ClockUnit) (b : Block) : Prop where
  room : c.queue.length < 48
  bound : c.lateBound ≤ b.start
  sound : b.Sound

theorem arriving_sound {start count marker offset : Nat} {frames : List (Sample × Sample)} {bound : Nat}
    (length : frames.length = count) (within : marker ≠ 0 → offset < count) (last : start + count ≤ 4294967295)
    (late : bound < start + count) (some_frames : 0 < count) : (arriving bound start marker offset frames).Sound := by
  have frames_left : (frames.drop (bound - start)).length = count - (bound - start) := by rw [List.length_drop, length]
  refine ⟨fun empty => ?_, ?_, fun m hm => ?_⟩
  · have none_left : (frames.drop (bound - start)).length = 0 := by
      rw [show frames.drop (bound - start) = [] from empty]; rfl
    omega
  · unfold Block.stop arriving
    rw [frames_left]
    show max bound start + (count - (bound - start)) ≤ 4294967295
    omega
  · unfold arriving at hm
    dsimp only at hm
    split at hm
    · next kept =>
      obtain ⟨marked, inside⟩ := kept
      have := within marked
      obtain rfl := Option.mem_some_iff.mp (Option.mem_toList.mp hm)
      unfold Block.stop arriving
      rw [frames_left]
      show max bound start ≤ start + offset ∧ start + offset < max bound start + (count - (bound - start))
      omega
    · cases hm

/-- The block that joins the queue, as the statements write it. -/
theorem joined_eq_arriving {start marker offset bound : Nat} {frames : List (Sample × Sample)} :
    (if start < bound then Block.trim ⟨start, if marker = 0 then none else some ⟨marker, start + offset⟩, frames⟩ bound
      else ⟨start, if marker = 0 then none else some ⟨marker, start + offset⟩, frames⟩)
      = arriving bound start marker offset frames := by
  unfold arriving Block.trim
  split
  · next early =>
    have top : max bound start = bound := by omega
    by_cases unmarked : marker = 0
    · simp [unmarked, top]
    · by_cases kept : bound ≤ start + offset
      · simp [unmarked, kept, top]
      · simp [unmarked, kept, top, Nat.lt_of_not_le kept]
  · next late =>
    have top : max bound start = start := by omega
    have none_cut : bound - start = 0 := by omega
    have kept : bound ≤ start + offset := by omega
    by_cases unmarked : marker = 0 <;> simp [unmarked, top, none_cut, kept]

theorem audioFieldsOk_iff {start : U32} {count marker offset : U8} {reserved : List Byte} :
    audioFieldsOk start count marker offset reserved = true ↔
      (if marker.val = 0 then offset.val = 0 else offset.val < resolveCount 256 count.val) ∧ (∀ b ∈ reserved, b = 0)
        ∧ start.val + resolveCount 256 count.val - 1 ≤ 4294967294 := by
  unfold audioFieldsOk
  by_cases h : marker.val = 0 <;> simp [h, and_assoc]

theorem resolveCount_pos (c : Nat) : 0 < resolveCount 256 c := by
  unfold resolveCount
  split <;> omega

theorem audioBlockAction_clock (p : Port) (start : U32) (count marker offset : U8) (reserved : List Byte)
    (frames : List (Sample × Sample)) (s : State) :
    (audioBlockAction p start count marker offset reserved frames s).1.clock = s.clock
      ∨ ∃ b, s.clock.Admits b ∧ s.unit.mode ≠ .setup ∧ (audioBlockAction p start count marker offset reserved frames s).1.clock
        = ({ s.clock with queue := s.clock.queue ++ [b] } : ClockUnit).arrived := by
  unfold audioBlockAction
  split
  · next lengths =>
    obtain ⟨-, length⟩ := lengths
    split
    · exact .inl rfl
    · next fields =>
      split
      · exact .inl rfl
      · next mode =>
        split
        · exact .inl rfl
        · split
          · exact .inl rfl
          · next room =>
            lift_lets
            extract_lets block bound joined
            split
            · exact .inl rfl
            · next late =>
              obtain ⟨inside, -, last⟩ := audioFieldsOk_iff.mp (Bool.not_eq_false _ ▸ fields)
              have some_frames := resolveCount_pos count.val
              have late : s.clock.lateBound < start.val + resolveCount 256 count.val := by
                have := Nat.lt_of_not_le late
                unfold Block.stop at this
                rwa [length] at this
              refine .inr ⟨arriving s.clock.lateBound start.val marker.val offset.val frames, ⟨Nat.lt_of_not_le room, ?_,
                arriving_sound length (fun marked => ?_) (by omega) late some_frames⟩, mode, ?_⟩
              · exact Nat.le_max_left _ _
              · rw [if_neg marked] at inside; exact inside
              · have arrived : joined = arriving s.clock.lateBound start.val marker.val offset.val frames := joined_eq_arriving
                rw [State.blockArrived_clock, State.setClock_clock, arrived]
  · exact .inl rfl

end Sys2Proof.Machine

/-!
# What an effect makes of the clock, the unit and the outputs
-/

namespace Sys2Proof.Machine

/-! ## The clock -/

/-- What one effect makes of the clock's record, by its manner. -/
inductive ClockChange (m : Manner) (s : State) : ClockUnit → Prop
  | kept : ClockChange m s s.clock
  | stopped : ClockChange m s s.clock.stop
  | started (restart : m = .restart) (source : Source) (point : U32) (live : s.unit.mode = .live)
      (still : s.anyTrackMoves = false) :
      ClockChange m s ((s.clock.start source point.val).met s.config.global.policy)
  | block (b : Block) (h : s.clock.Admits b) (mode : s.unit.mode ≠ .setup) :
      ClockChange m s ({ s.clock with queue := s.clock.queue ++ [b] } : ClockUnit).arrived
  | tick (run : s.clock.run = .running) (source : s.clock.source = .internal) :
      ClockChange m s { s.clock with value := s.clock.value + 1 }
  | framed (c : ClockUnit) (h : s.clock.Framed s.config.global.policy c) : ClockChange m s c
  | coasted (run : s.clock.run = .running) (source : s.clock.source = .audio) (c : ClockUnit)
      (p : Nat) (place : p = min (s.clock.position + 48) Config.lastPosition)
      (h : if p = Config.lastPosition then c = (s.clock.atPosition p (bringTo p s.clock.queue)).heldUp
        else (s.clock.atPosition p (bringTo p s.clock.queue)).Shows c
          ∨ ({ s.clock.atPosition p (bringTo p s.clock.queue) with coasting := false } : ClockUnit).Shows c) : ClockChange m s c
  | emptied : ClockChange m s { s.clock with queue := [] }
  | frozen (own : m = .own) : ClockChange m s s.clock.freezeIn
  | thawed (own : m = .own) : ClockChange m s (s.clock.thawed s.config.global.policy)
  | cleared (h : m ≠ .plain) : ClockChange m s ClockUnit.reset

theorem ClockChange.of_stop {m : Manner} {s : State} {c : ClockUnit} (h : c = s.clock ∨ c = s.clock.stop) : ClockChange m s c := by
  rcases h with rfl | rfl
  · exact .kept
  · exact .stopped

theorem State.changeFreeze_clock (s : State) : s.changeFreeze.clock = match s.safety.freeze with
    | .none => s.clock
    | .requested _ => s.clock.freezeIn
    | .inEffect _ => s.clock
    | .thawRequested _ => s.clock.thawed s.config.global.policy := by
  have frozen : ∀ u : State, (u.eachTrack State.freezeTrack).clock = u.clock := fun u =>
    (u.eachTrack_only State.freezeTrack_only).clock_eq
  have thawed : ∀ u : State, (u.eachTrack State.thawTrack).clock = u.clock := fun u =>
    (u.eachTrack_only State.thawTrack_only).clock_eq
  have config : ∀ u : State, (u.eachTrack State.thawTrack).config = u.config := fun u =>
    (u.eachTrack_only State.thawTrack_only).show.config_eq
  have posted : ∀ (u : State) p k, (u.post p k noSubject 0).clock = u.clock := fun _ _ _ => rfl
  have told : ∀ (u : State) p k, (u.post p k noSubject 0).config = u.config := fun _ _ _ => rfl
  unfold State.changeFreeze
  cases h : s.safety.freeze with
  | none => rfl
  | requested p => simp only [State.setClock_clock, frozen, posted]; rfl
  | inEffect p => rfl
  | thawRequested p => simp only [State.clockThaw_clock, thawed, posted, config, told]; rfl

/-- A frame event changes the clock by the freeze record alone. -/
theorem State.frame_clock (s : State) : s.frame.clock = s.reloadFrame.changeFreeze.clock := by
  have mixed : ∀ u : State, u.mix.clock = u.clock := fun _ => rfl
  have settled : ∀ u : State, u.reachStopped.clock = u.clock := fun u => by unfold State.reachStopped; split <;> rfl
  have evaluated : ∀ u : State, u.evalIdle.clock = u.clock := fun u => by rw [State.evalIdle_only]
  rw [State.frame_eq, (State.giveSweep_only _).clock_eq, mixed, settled, evaluated, (State.shape_only _).clock_eq]

theorem State.enterSetup_clock (s : State) : s.enterSetup.clock = { s.clock with queue := [] } := by
  have clock : ∀ t : State, t.clockSetupEntry.clock = { t.clock with queue := [] } := fun _ => rfl
  have jets : ∀ t : State, t.shaperSetupEntry.clock = t.clock := fun _ => rfl
  have fixtures : ∀ t : State, t.mixerSetupEntry.clock = t.clock := fun _ => rfl
  have told : ∀ t : State, (t.tellMode 0).clock = t.clock := fun _ => rfl
  have emptied : s.emptiedForSetup.clock = s.clock := by
    have idled : OnlyTracks _ s.emptiedForSetup := State.eachTrack_only _ State.idleForSetup_only
    have ranges : ∀ u : State, u.rangeSetupEntry.clock = u.clock := fun u => by
      unfold State.rangeSetupEntry; split <;> rfl
    rw [idled.clock_eq, ranges, (State.directorySetupEntry_only _).clock_eq]
    rfl
  rw [State.enterSetup_eq, told, fixtures, jets, clock, emptied]

theorem State.showReset_clock (s : State) : s.showReset.clock = ClockUnit.reset := by
  have cleared : s.clearedShow.clock = ClockUnit.reset := rfl
  have dark : ∀ (t : State) d, (t.goDark d).clock = t.clock := fun _ _ => rfl
  rw [State.showReset_eq]
  split
  · rw [dark, cleared]
  · exact cleared

theorem State.powerOn_clock (s : State) (estop : Bool) (held : PerPort Bool) : (s.powerOn estop held).clock = ClockUnit.reset := by
  have started : (s.startedUp held).clock = ClockUnit.reset ∨ (s.startedUp held).clock = ClockUnit.reset.stop := .inl rfl
  rcases (clock_field ClockUnit.reset).powerOn s estop held started with e | e <;> exact e

theorem Effect.clock {m : Manner} {s t : State} (e : Effect m s t) : ClockChange m s t.clock := by
  have same : ∀ {c : ClockUnit}, c = s.clock → ClockChange m s c := fun e => .of_stop (.inl e)
  cases e with
  | claim p ch q wait => exact same (s.claimChannel_only p ch q wait).clock_eq
  | release p ch => exact same (s.releaseChannel_only p ch).clock_eq
  | stage p ch v => exact same (s.stage_only p ch v).clock_eq
  | expireRecall ch => exact same (s.expireRecall_only ch).clock_eq
  | rangeStep r => exact same (s.rangeStep_ranges r).clock_eq
  | due t => exact same (s.takeDue_only t).clock_eq
  | startClock source point live still => rw [State.meetStart_clock]; exact .started rfl source point live still
  | stopClock => exact .stopped
  | block p start count marker offset reserved frames =>
    rcases audioBlockAction_clock p start count marker offset reserved frames s with e | ⟨b, admits, mode, e⟩
    · exact same e
    · rw [e]; exact .block b admits mode
  | clockTick =>
    rw [s.clockTick_clock]
    split
    · next h => exact .tick h.1 h.2.1
    · exact .kept
  | audioFrame => exact .framed _ s.audioFrame_framed
  | coastTick =>
    rw [s.coastTick_clock]
    split
    · next h =>
      refine .coasted h.1 h.2.1 _ _ rfl ?_
      split
      · rfl
      · split
        · exact .inr (.refl _)
        · exact .inl (.refl _)
    · exact .kept
  | cause c absent => exact .of_stop ((clock_field s.clock).cause s c absent (.inl rfl))
  | acknowledge p => exact same (safetyAckAction_clock p s)
  | reply e => exact .of_stop ((clock_field s.clock).endTransmission e s (.inl rfl))
  | write table bytes index e => exact .of_stop ((clock_field s.clock).writeEntry s index e (.inl rfl))
  | enterSetup => rw [s.enterSetup_clock]; exact .emptied
  | showReset => rw [s.showReset_clock]; exact .cleared Manner.noConfusion
  | frame =>
    rw [s.frame_clock, State.changeFreeze_clock]
    split
    · exact same rfl
    · exact .frozen rfl
    · exact same rfl
    · exact .thawed rfl
  | powerOn estop held => rw [s.powerOn_clock]; exact .cleared Manner.noConfusion
  | _ => exact same rfl

/-! ### STOPPED stays STOPPED (04 R71) -/

theorem ClockUnit.met_stopped {c : ClockUnit} (h : c.run = .stopped) (policy : Policy) : (c.met policy).run = .stopped := by
  unfold ClockUnit.met
  split
  · next playing => rw [h] at playing; exact absurd playing.1 RunState.noConfusion
  · exact h

theorem ClockUnit.arrived_stopped {c : ClockUnit} (h : c.run = .stopped) : c.arrived.run = .stopped := by
  unfold ClockUnit.arrived
  simp only [if_pos h]
  split
  · rfl
  · split <;> exact h

/-- Nothing but CLOCK_RUN takes a clock out of STOPPED. -/
theorem ClockChange.stays_stopped {m : Manner} {s : State} {c : ClockUnit} (h : ClockChange m s c) (stopped : s.clock.run = .stopped) :
    c.run = .stopped ∨ s.unit.mode = .live := by
  have halted : ∀ {x : RunState}, x ≠ .stopped → s.clock.run = x → c.run = .stopped := fun ne e =>
    absurd (e.symm.trans stopped) ne
  cases h with
  | kept => exact .inl stopped
  | stopped => exact .inl rfl
  | started _ source point live => exact .inr live
  | block b => exact .inl (ClockUnit.arrived_stopped stopped)
  | tick run => exact .inl (halted RunState.noConfusion run)
  | framed _ h =>
    cases h with
    | silent _ h => exact .inl (h.run.trans stopped)
    | empty _ run => exact .inl (halted RunState.noConfusion run)
    | moved _ run => exact .inl (halted RunState.noConfusion run)
  | coasted run => exact .inl (halted RunState.noConfusion run)
  | emptied => exact .inl stopped
  | frozen =>
    refine .inl ?_
    unfold ClockUnit.freezeIn
    dsimp only
    rw [if_neg (by rw [stopped]; exact RunState.noConfusion)]
    exact stopped
  | thawed =>
    refine .inl ?_
    unfold ClockUnit.thawed
    dsimp only
    rw [if_neg (by rw [stopped]; exact RunState.noConfusion), if_pos stopped]
  | cleared => exact .inl rfl

/-! ## The unit and the outputs -/

/-- The unit, the tables, the outputs and the stores stand. -/
structure Outside (s t : State) : Prop where
  unit : t.unit = s.unit
  config : t.config = s.config
  shaper : t.shaper = s.shaper
  jets : t.jets = s.jets
  headers : t.headers = s.headers
  fixtures : t.fixtures = s.fixtures

theorem Outside.refl (s : State) : Outside s s := ⟨rfl, rfl, rfl, rfl, rfl, rfl⟩

theorem Outside.trans {s t u : State} (h : Outside s t) (k : Outside t u) : Outside s u :=
  ⟨k.unit.trans h.unit, k.config.trans h.config, k.shaper.trans h.shaper, k.jets.trans h.jets, k.headers.trans h.headers,
    k.fixtures.trans h.fixtures⟩

theorem OnlyField.outside {s t : State} (h : OnlyField s t) : Outside s t := by
  unfold OnlyField at h; rw [h]; exact ⟨rfl, rfl, rfl, rfl, rfl, rfl⟩

/-- The effects that reach the unit's record, the tables or the outputs, but for a frame event and power-on reset. -/
inductive Administered (s : State) : State → Prop
  | write (t : State) (mode : s.unit.mode = .setup) (index : Nat) (e : ConfigEntry)
      (h : Outside { s with config := s.config.put index e } t) : Administered s t
  | saving (t : State) (x : Option Port) (h : Outside (s.setUnit { s.unit with saving := x }) t) : Administered s t
  | leaveSetup (mode : s.unit.mode = .setup) (valid : s.config.validate = none) : Administered s s.leaveSetup
  | enterSetup (mode : s.unit.mode = .dark) (rest : s.shaper.outputsAtRest = true) : Administered s s.enterSetup
  | goLive (mode : s.unit.mode = .dark) : Administered s s.goLive
  | goDark (detail : Nat) (mode : s.unit.mode = .live) (stopped : s.clock.run = .stopped) : Administered s (s.goDark detail)
  | showReset : Administered s s.showReset

theorem Effect.outside {m : Manner} {s t : State} (e : Effect m s t) (plain : m ≠ .own) : Outside s t ∨ Administered s t := by
  cases e with
  | claim p ch q wait => exact .inl (s.claimChannel_only p ch q wait).field.outside
  | release p ch => exact .inl (s.releaseChannel_only p ch).field.outside
  | stage p ch v => exact .inl (s.stage_only p ch v).field.outside
  | expireRecall ch => exact .inl (s.expireRecall_only ch).field.outside
  | rangeStep r => exact .inl (s.rangeStep_only r).field.outside
  | due t => exact .inl (s.takeDue_only t).field.outside
  | startClock source point => exact .inl ((s.setClock_only _).trans (State.meetStart_only _)).field.outside
  | block => exact .inl (audioBlockAction_only ..).field.outside
  | clockTick => exact .inl s.clockTick_only.field.outside
  | audioFrame => exact .inl s.audioFrame_only.field.outside
  | coastTick => exact .inl s.coastTick_only.field.outside
  | cause c => exact .inl (s.addCause_only c).field.outside
  | acknowledge p => exact .inl (safetyAckAction_only p s).field.outside
  | reply e => exact .inl (s.endTransmission_only e).outside
  | write table bytes index e mode => exact .inr (.write _ mode index e (s.writeEntry_only index e).outside)
  | save p => exact .inr (.saving _ (some p) (.refl _))
  | saved i => exact .inr (.saving _ none ⟨rfl, rfl, rfl, rfl, rfl, rfl⟩)
  | leaveSetup saving valid mode => exact .inr (.leaveSetup mode valid)
  | enterSetup mode rest => exact .inr (.enterSetup mode rest)
  | goLive mode => exact .inr (.goLive mode)
  | goDark detail mode stopped => exact .inr (.goDark detail mode stopped)
  | showReset => exact .inr .showReset
  | expireIdle | frame | powerOn => exact absurd rfl plain
  | port | deliver | drawFree | watch | beginRange | endRange | load | arm | retime | idle | stopClock | supervise | freezeRecord
    | overrun => exact .inl ⟨rfl, rfl, rfl, rfl, rfl, rfl⟩

theorem State.frame_mode (s : State) : s.frame.unit.mode = s.unit.mode := s.frame_fixed.mode

end Sys2Proof.Machine

/-!
# The tables stay in range
-/

namespace Sys2Proof.Machine

/-! ## What the checks of an entry establish (09 R159 check 6) -/

theorem firstFault_eq_none {l : List (Bool × Nat)} : firstFault l = none ↔ ∀ c ∈ l, c.1 = true := by
  induction l with
  | nil => simp [firstFault]
  | cons c rest ih =>
    obtain ⟨ok, field⟩ := c
    cases ok
    · simp [firstFault]
    · simp [firstFault, ih]

/-- Every field of an entry lies in its range. -/
def ConfigEntry.inRange : ConfigEntry → Bool
  | .rights e => e.inRange
  | .jet e => e.inRange
  | .header e => e.inRange
  | .fixture _ => true
  | .node _ => true
  | .global g => g.inRange

theorem parseRights_inRange {l : List Byte} {e : PortRights} (h : parseRights l = .ok e) : e.inRange = true := by
  unfold parseRights at h
  split at h
  · split at h
    · cases h
    · next passed =>
      cases h
      have checks := firstFault_eq_none.mp passed
      simp only [List.forall_mem_cons, decide_eq_true_eq, Bool.and_eq_true] at checks
      obtain ⟨ceiling, -, base, ⟨length, window⟩, -⟩ := checks
      exact decide_eq_true ⟨ceiling, base, length, window⟩
  · cases h

theorem curveOf_rows_all {limit k : Nat} {l : List Nat} (h : ∀ c ∈ curveChecks limit k l, c.1 = true) :
    (curveOf l).rows.all (fun o => decide (o ≤ limit)) = true := by
  rw [Table.all_rows]
  intro i
  rw [curveOf, Table.get_build]
  refine h (decide (l.getD i.val 0 ≤ limit), k + i.val) ?_
  exact List.mem_map.mpr ⟨i.val, List.mem_range.mpr i.isLt, rfl⟩

theorem parseJet_inRange {l : List Byte} {e : JetConfig} (h : parseJet l = .ok e) : e.inRange = true := by
  unfold parseJet at h
  split at h
  · dsimp only at h
    split at h
    · cases h
    · next passed =>
      cases h
      have checks := firstFault_eq_none.mp passed
      simp only [List.forall_mem_append, List.forall_mem_cons, decide_eq_true_eq, Bool.and_eq_true] at checks
      obtain ⟨⟨⟨-, -, -, -, ⟨low, high⟩, exposure, ⟨up, up'⟩, ⟨down, down'⟩, -⟩, openings⟩, flows⟩ := checks
      unfold JetConfig.inRange
      rw [Bool.and_eq_true, Bool.and_eq_true]
      exact ⟨⟨decide_eq_true ⟨low, high, exposure, up, up', down, down'⟩, curveOf_rows_all openings⟩, curveOf_rows_all flows⟩
  · cases h

theorem parseHeader_inRange {l : List Byte} {e : HeaderConfig} (h : parseHeader l = .ok e) : e.inRange = true := by
  unfold parseHeader at h
  split at h
  · split at h
    · cases h
    · next passed =>
      cases h
      have checks := firstFault_eq_none.mp passed
      simp only [List.forall_mem_cons, decide_eq_true_eq, Bool.and_eq_true] at checks
      obtain ⟨-, -, ⟨q, q'⟩, smin, ⟨up, up'⟩, ⟨down, down'⟩, -⟩ := checks
      exact decide_eq_true ⟨q, q', smin, up, up', down, down'⟩
  · cases h

theorem byte_toNat_le (b : Byte) : b.toNat ≤ 255 := Nat.le_of_lt_succ b.isLt

theorem parseGlobal_inRange {l : List Byte} {g : Global} (h : parseGlobal l = .ok g) : g.inRange = true := by
  unfold parseGlobal at h
  split at h
  · next white idle =>
    split at h
    · cases h
    · next passed =>
      cases h
      have checks := firstFault_eq_none.mp passed
      simp only [List.forall_mem_cons, decide_eq_true_eq, Bool.and_eq_true] at checks
      obtain ⟨⟨fp, fp'⟩, ⟨rt, rt'⟩, calm, ⟨stop, stop'⟩, hyst, hold, -, ⟨window, window'⟩, ⟨probe, probe'⟩, -⟩ := checks
      exact decide_eq_true ⟨fp, fp', rt, rt', calm, stop, stop', hyst, hold, window, window', probe, probe', byte_toNat_le white,
        byte_toNat_le idle⟩
  · cases h

theorem except_map_eq_ok {α β : Type} {f : α → β} {x : Except Nat α} {y : β} (h : x.map f = .ok y) : ∃ a, x = .ok a ∧ f a = y := by
  cases x with
  | error _ => cases h
  | ok a => cases h; exact ⟨a, rfl, rfl⟩

/-- An entry that the checks take has every field in its range. -/
theorem parseEntry_inRange {table : Nat} {l : List Byte} {e : ConfigEntry} (h : parseEntry table l = .ok e) : e.inRange = true := by
  unfold parseEntry at h
  split at h
  · obtain ⟨x, parsed, rfl⟩ := except_map_eq_ok h; exact parseRights_inRange parsed
  · obtain ⟨x, parsed, rfl⟩ := except_map_eq_ok h; exact parseJet_inRange parsed
  · obtain ⟨x, parsed, rfl⟩ := except_map_eq_ok h; exact parseHeader_inRange parsed
  · obtain ⟨x, -, rfl⟩ := except_map_eq_ok h; rfl
  · obtain ⟨x, -, rfl⟩ := except_map_eq_ok h; rfl
  · obtain ⟨x, parsed, rfl⟩ := except_map_eq_ok h; exact parseGlobal_inRange parsed
  · cases h

theorem Tables.inRange_iff {t : Tables} : t.inRange = true ↔ (∀ p, (t.rights.get p).inRange = true)
    ∧ (∀ j, (t.jets.get j).inRange = true) ∧ (∀ h, (t.headers.get h).inRange = true) ∧ t.global.inRange = true := by
  unfold Tables.inRange
  simp only [Bool.and_eq_true, Table.all_rows]
  constructor
  · rintro ⟨⟨⟨⟨⟨a, b⟩, c⟩, jets⟩, headers⟩, globalOk⟩
    exact ⟨fun p => by cases p <;> assumption, jets, headers, globalOk⟩
  · rintro ⟨rights, jets, headers, globalOk⟩
    exact ⟨⟨⟨⟨⟨rights .a, rights .b⟩, rights .c⟩, jets⟩, headers⟩, globalOk⟩

theorem Table.get_set_all {α : Type} {n : Nat} {P : α → Prop} {t : Table α n} (h : ∀ i, P (t.get i)) {v : α} (hv : P v)
    (k i : Fin n) : P ((t.set k v).get i) := by
  rw [Table.get_set]
  split
  · exact hv
  · exact h i

/-- Replacing an entry by one in range keeps the tables in range. -/
theorem Tables.put_inRange {t : Tables} (h : t.inRange = true) {e : ConfigEntry} (he : e.inRange = true) (index : Nat) :
    (t.put index e).inRange = true := by
  rw [Tables.inRange_iff] at h ⊢
  obtain ⟨rights, jets, headers, globalOk⟩ := h
  cases e with
  | rights e =>
    refine ⟨fun p => ?_, jets, headers, globalOk⟩
    show ((t.rights.set (portOfIndex index) e).get p).inRange = true
    by_cases hp : portOfIndex index = p
    · subst hp; rw [PerPort.get_set_self]; exact he
    · rw [PerPort.get_set_ne _ _ hp]; exact rights p
  | jet e => exact ⟨rights, Table.get_set_all (P := fun x => JetConfig.inRange x = true) jets he _, headers, globalOk⟩
  | header e => exact ⟨rights, jets, Table.get_set_all (P := fun x => HeaderConfig.inRange x = true) headers he _, globalOk⟩
  | fixture e => exact ⟨rights, jets, headers, globalOk⟩
  | node e => exact ⟨rights, jets, headers, globalOk⟩
  | global g => exact ⟨rights, jets, headers, he⟩

theorem Tables.factory_inRange : Tables.factory.inRange = true := by
  rw [Tables.inRange_iff]
  refine ⟨fun p => by cases p <;> decide, fun j => ?_, fun h => ?_, by decide⟩
  · have entry : Tables.factory.jets.get j = JetConfig.factory := Table.get_fill _ j
    rw [entry]; decide
  · have entry : Tables.factory.headers.get h = HeaderConfig.factory := Table.get_fill _ h
    rw [entry]; decide

theorem Image.good_sound {i : Image} {t : Tables} (h : i.good = some t) : t.inRange = true ∧ t.keepsSafety = true := by
  unfold Image.good at h
  split at h
  · cases h
  · cases h
  · split at h
    · next sound =>
      cases h
      obtain ⟨-, -, range, safety⟩ := sound
      exact ⟨range, safety⟩
    · cases h

/-- Start-up loads tables in range, and leaves SETUP only with tables that validate (09 R167). -/
theorem startUp_sound (i : Image) : (startUp i).1.inRange = true ∧ (startUp i).1.keepsSafety = true
    ∧ ((startUp i).2.1 ≠ .setup → (startUp i).1.validate = none) := by
  have factory : Tables.factory.inRange = true ∧ Tables.factory.keepsSafety = true := ⟨Tables.factory_inRange, rfl⟩
  unfold startUp
  split
  · next t good =>
    obtain ⟨range, safety⟩ := Image.good_sound good
    split
    · next valid => exact ⟨range, safety, fun _ => valid⟩
    · exact ⟨factory.1, factory.2, fun ne => absurd rfl ne⟩
  · exact ⟨factory.1, factory.2, fun ne => absurd rfl ne⟩

theorem State.ConfigSound.kept : KeptByAdministration State.ConfigSound where
  fixed s t e h := by
    unfold State.ConfigSound
    rw [e.config, e.mode, e.saving]
    exact h
  load _ _ _ _ h := h
  write s table bytes index e mode parsed safety h := by
    obtain ⟨range, -, -, saving⟩ := h
    exact ⟨Tables.put_inRange range (parseEntry_inRange parsed) index, safety, fun ne => absurd mode ne, saving⟩
  save s p mode h := by
    obtain ⟨range, safety, valid, -⟩ := h
    exact ⟨range, safety, valid, fun _ => mode⟩
  saved s i h := by
    obtain ⟨range, safety, valid, -⟩ := h
    exact ⟨range, safety, valid, fun set => (nomatch set)⟩
  leaveSetup s saving valid mode h := by
    obtain ⟨range, safety, -, -⟩ := h
    have idle : (s.setMode .dark).unit.saving = none := saving
    exact ⟨range, safety, fun _ => valid, fun set => by rw [idle] at set; cases set⟩
  enterSetup s mode h := by
    obtain ⟨range, safety, -, -⟩ := h
    exact ⟨range, safety, fun ne => absurd rfl ne, fun _ => rfl⟩
  goLive s mode h := by
    obtain ⟨range, safety, valid, saving⟩ := h
    have dark : s.unit.mode ≠ .setup := by rw [mode]; exact Mode.noConfusion
    exact ⟨range, safety, fun _ => valid dark, fun set => absurd (saving set) dark⟩
  goDark s mode h := by
    obtain ⟨range, safety, valid, saving⟩ := h
    have live : s.unit.mode ≠ .setup := by rw [mode]; exact Mode.noConfusion
    exact ⟨range, safety, fun _ => valid live, fun set => absurd (saving set) live⟩
  powerOn s held := by
    obtain ⟨range, safety, valid⟩ := startUp_sound s.imageAtReset
    exact ⟨range, safety, valid, fun set => (nomatch set)⟩

end Sys2Proof.Machine

/-!
# The modes: the idle timer, and SETUP
-/

namespace Sys2Proof.Machine

/-! ## The clock runs in LIVE alone (04 R71) -/

/-- Outside LIVE the clock is STOPPED. -/
def State.DarkStopped (s : State) : Prop := s.unit.mode ≠ .live → s.clock.run = .stopped

theorem State.showReset_unit (s : State) : s.showReset.unit =
    if s.unit.mode = .live then { s.unit with mode := .dark, idleDeadline := none } else s.unit := by
  have cleared : s.clearedShow.unit = s.unit := rfl
  have dark : ∀ (t : State) d, (t.goDark d).unit = { t.unit with mode := .dark, idleDeadline := none } := fun _ _ => rfl
  rw [State.showReset_eq, cleared]
  split
  · rw [dark, cleared]
  · exact cleared

/-- From outside LIVE an effect leaves the clock STOPPED. -/
theorem Effect.run_of_dark {m : Manner} {s t : State} (e : Effect m s t) (h : s.DarkStopped) (mode : s.unit.mode ≠ .live) :
    t.clock.run = .stopped := by
  rcases e.clock.stays_stopped (h mode) with stopped | live
  · exact stopped
  · exact absurd live mode

theorem Effect.darkStopped {m : Manner} {s t : State} (e : Effect m s t) (plain : m ≠ .own) (h : s.DarkStopped) : t.DarkStopped := fun mode => by
  by_cases live : s.unit.mode = .live
  · have unmoved : t.unit.mode = s.unit.mode → t.clock.run = .stopped := fun same => absurd (same.trans live) mode
    rcases e.outside plain with same | changed
    · exact unmoved (by rw [same.unit])
    · cases changed with
      | write _ setup _ _ same => exact unmoved (by rw [same.unit])
      | saving _ _ same => exact unmoved (by rw [same.unit]; rfl)
      | leaveSetup setup => rw [live] at setup; cases setup
      | enterSetup dark => rw [live] at dark; cases dark
      | goLive dark => rw [live] at dark; cases dark
      | goDark _ _ stopped => exact stopped
      | showReset => rw [State.showReset_clock]; rfl
  · exact e.run_of_dark h live

/-! ## The idle timer (09 R165) -/

theorem State.enterSetup_outside (s : State) : s.enterSetup.unit = { s.unit with mode := .setup } ∧ s.enterSetup.shaper = s.shaper := by
  have clock : ∀ t : State, t.clockSetupEntry.unit = t.unit ∧ t.clockSetupEntry.shaper = t.shaper := fun _ => ⟨rfl, rfl⟩
  have jets : ∀ t : State, t.shaperSetupEntry.unit = t.unit ∧ t.shaperSetupEntry.shaper = t.shaper := fun _ => ⟨rfl, rfl⟩
  have fixtures : ∀ t : State, t.mixerSetupEntry.unit = t.unit ∧ t.mixerSetupEntry.shaper = t.shaper := fun _ => ⟨rfl, rfl⟩
  have told : ∀ t : State, (t.tellMode 0).unit = t.unit ∧ (t.tellMode 0).shaper = t.shaper := fun _ => ⟨rfl, rfl⟩
  have emptied := s.emptiedForSetup_only.field.outside
  rw [State.enterSetup_eq, (told _).1, (told _).2, (fixtures _).1, (fixtures _).2, (jets _).1, (jets _).2, (clock _).1,
    (clock _).2, emptied.unit, emptied.shaper]
  exact ⟨rfl, rfl⟩

/-- The timer stands or goes OFF, and what the Shaper last settled stands. -/
def TimerKept (s t : State) : Prop :=
  (t.unit.idleDeadline = s.unit.idleDeadline ∨ t.unit.idleDeadline = none) ∧ t.shaper = s.shaper

theorem TimerKept.trans {s t u : State} (h : TimerKept s t) (k : TimerKept t u) : TimerKept s u := by
  obtain ⟨hd, hs⟩ := h
  obtain ⟨kd, ks⟩ := k
  refine ⟨?_, ks.trans hs⟩
  rcases kd with same | off
  · rw [same]; exact hd
  · exact .inr off

theorem Effect.timerKept {m : Manner} {s t : State} (e : Effect m s t) (plain : m ≠ .own) : TimerKept s t := by
  rcases e.outside plain with same | changed
  · exact ⟨.inl (by rw [same.unit]), same.shaper⟩
  · cases changed with
    | write _ _ _ _ same => exact ⟨.inl (by rw [same.unit]), same.shaper⟩
    | saving _ _ same => exact ⟨.inl (by rw [same.unit]; rfl), same.shaper⟩
    | leaveSetup => exact ⟨.inl rfl, rfl⟩
    | enterSetup =>
      obtain ⟨unit, shaper⟩ := s.enterSetup_outside
      exact ⟨.inl (by rw [unit]), shaper⟩
    | goLive => exact ⟨.inl rfl, rfl⟩
    | goDark => exact ⟨.inr rfl, rfl⟩
    | showReset =>
      have shaper : s.showReset.shaper = s.shaper := by
        have cleared : s.clearedShow.shaper = s.shaper := rfl
        have dark : ∀ (t : State) d, (t.goDark d).shaper = t.shaper := fun _ _ => rfl
        rw [State.showReset_eq]
        split
        · rw [dark, cleared]
        · exact cleared
      refine ⟨?_, shaper⟩
      rw [State.showReset_unit]
      split
      · exact .inr rfl
      · exact .inl rfl

theorem State.anyTrackMoves_of_names {s t : State} (h : t.tracks.rows.map trackName = s.tracks.rows.map trackName) :
    t.anyTrackMoves = s.anyTrackMoves := by
  have names : ∀ u : State, u.anyTrackMoves =
      (u.tracks.rows.map trackName).any fun n => match n with | .running => true | .waiting => true | _ => false := fun u => by
    rw [List.any_map]
    rfl
  rw [names, names, h]

theorem State.idleCondition_eq_true {s : State} : s.idleCondition = true ↔
    s.unit.mode = .live ∧ s.anyTrackMoves = false ∧ s.clock.run = .stopped ∧ s.shaper.jetsStill = true := by
  unfold State.idleCondition
  simp [and_assoc]

theorem IdleUnmoved.idleSound {s t : State} (h : IdleUnmoved s t) (hs : s.IdleSound) : t.IdleSound := by
  obtain ⟨mode, deadline, tracks, run, still⟩ := h
  obtain ⟨dark, idle⟩ := hs
  have moves : t.anyTrackMoves = s.anyTrackMoves := by unfold State.anyTrackMoves; rw [tracks]
  refine ⟨by rw [mode, run]; exact dark, fun set => ?_⟩
  rw [State.idleCondition_eq_true, mode, moves, run, still, ← State.idleCondition_eq_true]
  exact idle (deadline ▸ set)

theorem State.evalIdle_idleSound {s : State} (h : s.DarkStopped) : s.evalIdle.IdleSound := by
  have condition : ∀ d, (s.setUnit { s.unit with idleDeadline := d }).idleCondition = s.idleCondition := fun _ => rfl
  unfold State.evalIdle
  split
  · next off =>
    split
    · next idle =>
      refine ⟨h, fun _ => ?_⟩
      rw [condition]
      exact (Bool.and_eq_true_iff.mp idle).1
    · exact ⟨h, fun set => by rw [off] at set; cases set⟩
  · split
    · next idle => exact ⟨h, fun _ => idle⟩
    · exact ⟨h, fun set => (nomatch set)⟩

theorem settleIdle_idleSound {s t : State} (hs : s.IdleSound) (after : t.DarkStopped) (kept : TimerKept s t) :
    (settleIdle s t).IdleSound := by
  obtain ⟨-, idle⟩ := hs
  unfold settleIdle
  split
  · exact State.evalIdle_idleSound after
  · next still =>
    refine ⟨after, fun set => ?_⟩
    obtain ⟨timer, shaper⟩ := kept
    have before : s.unit.idleDeadline.isSome = true := by
      rcases timer with same | off
      · rw [← same]; exact set
      · rw [off] at set; cases set
    simp only [idleMatters, Bool.or_eq_true, bne_iff_ne, not_or, not_not] at still
    obtain ⟨⟨names, run⟩, mode⟩ := still
    have := State.idleCondition_eq_true.mp (idle before)
    rw [State.idleCondition_eq_true, ← mode, ← run, shaper, State.anyTrackMoves_of_names names.symm]
    exact this

theorem State.frame_idleSound {s : State} (h : s.DarkStopped) : s.frame.IdleSound := by
  have begun : s.reloadFrame.changeFreeze.shape.DarkStopped := fun mode => by
    have same : s.reloadFrame.changeFreeze.shape.unit.mode = s.unit.mode := by
      rw [(State.shape_only _).fixed.mode, (State.changeFreeze_only _).field.fixed.mode]; rfl
    have halted := (Effect.frame (s := s)).run_of_dark h (same ▸ mode)
    rw [s.frame_clock] at halted
    rw [(State.shape_only _).clock_eq]
    exact halted
  have evaluated := State.evalIdle_idleSound begun
  have settled : ∀ u : State, IdleUnmoved u u.reachStopped := fun u => by
    unfold State.reachStopped
    split <;> exact .rfl' u
  have mixed : ∀ u : State, IdleUnmoved u u.mix := fun u => .rfl' u
  have swept : ∀ u : State, IdleUnmoved u u.giveSweep := fun u => by
    have only := u.giveSweep_only
    unfold OnlySweep at only
    rw [only]; exact .rfl' u
  rw [State.frame_eq]
  exact (((settled _).trans (mixed _)).trans (swept _)).idleSound evaluated

theorem State.powerOn_unit (s : State) (estop : Bool) (held : PerPort Bool) :
    (s.powerOn estop held).unit = (s.startedUp held).unit := by
  rw [State.powerOn_eq]
  split
  · exact (State.assertEstop_only _).field.outside.unit
  · rfl

/-- Each stage of a command leaves the idle timer true to the idle condition. -/
theorem Stage.idleSound {s t : State} (e : Stage s t) (h : s.IdleSound) : t.IdleSound := by
  cases e with
  | quiet e unmoved => exact unmoved.idleSound h
  | settle e =>
    exact settleIdle_idleSound h (e.keeps (P := State.DarkStopped) (fun e => e.darkStopped Manner.noConfusion) h.1)
      (e.keeps (P := TimerKept s) (fun e h => h.trans (e.timerKept Manner.noConfusion)) ⟨.inl rfl, rfl⟩)
  | idleExpiry mode timer =>
    obtain ⟨-, idle⟩ := h
    obtain ⟨-, -, stopped, -⟩ := State.idleCondition_eq_true.mp (idle timer)
    exact ⟨fun _ => stopped, fun set => (nomatch set)⟩
  | frame => exact State.frame_idleSound h.1

theorem Restart.idleSound {s t : State} (e : Restart s t) (h : s.IdleSound) : t.IdleSound := by
  cases e with
  | settled e => exact settleIdle_idleSound h (e.darkStopped Manner.noConfusion h.1) (e.timerKept Manner.noConfusion)
  | powerOn estop held =>
    have off : (s.powerOn estop held).unit.idleDeadline = none := by rw [s.powerOn_unit]; rfl
    exact ⟨fun _ => by rw [s.powerOn_clock]; rfl, fun set => by rw [off] at set; cases set⟩

end Sys2Proof.Machine

/-!
# SETUP: nothing is held, waited for or lit
-/

namespace Sys2Proof.Machine

/-! ## No channel has a holder -/

/-- No port holds a channel. -/
def State.Unheld (s : State) : Prop := ∀ ch : Fin 177, (s.entry ch).hold.holder = none

theorem State.Unheld.of_directory {s t : State} (h : s.Unheld) (e : t.directory = s.directory) : t.Unheld := fun ch => by
  rw [State.entry_of_directory e]; exact h ch

theorem Restaged.unheld {s t : State} (r : Restaged s t) (h : s.Unheld) : t.Unheld := fun ch => by
  rw [(r.2 ch).1]; exact h ch

theorem State.safeChannel_unheld (s : State) (ch : Fin 177) (h : s.Unheld) : (s.safeChannel ch).Unheld := fun c => by
  by_cases hc : c = ch
  · subst hc; rw [s.safeChannel_entry]; rfl
  · rw [(s.safeChannel_at ch).entry c hc]; exact h c

theorem State.freeSafed_unheld (s : State) (ch : Fin 177) (h : s.Unheld) : (s.freeSafed ch).Unheld := by
  unfold State.freeSafed
  split
  · refine State.Unheld.of_directory (s := s.setHold ch .free) (fun c => ?_) (State.tellWatchers_directory _ _ _)
    by_cases hc : ch = c
    · subst hc; rw [State.hold_setHold]; rfl
    · rw [State.setHold, State.entry_setEntry_ne _ _ hc]; exact h c
  · exact h

theorem unheld_kept : KeptInDirectory State.Unheld where
  elsewhere _ _ e h := h.of_directory e
  safed s ch h := s.safeChannel_unheld ch h

theorem State.returnToNormal_unheld {s : State} (h : s.Unheld) : s.returnToNormal.Unheld := by
  have left : (s.setSafety { s.safety with state := .normal, first := none, further := false }).Unheld := h.of_directory rfl
  exact State.Unheld.of_directory (foldl_keeps State.freeSafed_unheld (Table.indices 177) left)
    (State.tellSafety_only _ 0).directory_eq

theorem safetyAckAction_unheld (p : Port) {s : State} (h : s.Unheld) : (safetyAckAction p s).1.Unheld := by
  have heard : (s.setSafety s.safety.acknowledged).Unheld := h.of_directory rfl
  unfold safetyAckAction
  split
  · exact h
  · split
    · exact h
    · dsimp only
      split
      · exact State.returnToNormal_unheld heard
      · exact heard

/-- Where no port holds a channel and none waits, a release is refused. -/
theorem State.releaseChannel_idle {s : State} (h : s.Unheld) (waiters : s.directory.waiters = []) (p : Port) (ch : Fin 177) :
    (s.releaseChannel p ch).1 = s := by
  have waits : s.waits p ch = false := by unfold State.waits; rw [waiters]; rfl
  unfold State.releaseChannel
  rw [h ch, if_neg (Option.some_ne_none p).symm, waits]
  rfl

theorem State.expireRecall_idle {s : State} (h : s.Unheld) (ch : Fin 177) : s.expireRecall ch = s := by
  unfold State.expireRecall
  split
  · next recalling =>
    have held := h ch
    rw [recalling] at held
    cases held
  all_goals rfl

theorem State.rangeStep_unheld {s : State} (h : s.Unheld) {r : RangeRecord} (op : r.op.needsMode = false) :
    (s.rangeStep r).Unheld := by
  unfold State.rangeStep
  split
  · next hn =>
    have acted : (s.rangeAct r.issuer r.op ⟨r.next, hn⟩).1.Unheld := by
      cases hop : r.op with
      | watch => exact (s.setWatch_restaged r.issuer _ true).unheld h
      | unwatch => exact (s.setWatch_restaged r.issuer _ false).unheld h
      | claim _ => rw [hop] at op; cases op
      | release => rw [hop] at op; cases op
      | set _ => rw [hop] at op; cases op
    dsimp only
    split
    · exact acted.of_directory rfl
    · exact acted.of_directory rfl
  · exact h

/-! ## The range operation -/

/-- The operation in the Range Engine, if any, takes no holding. -/
def State.RangeCalm (s : State) : Prop := ∀ r ∈ s.range.active.toList, r.op.needsMode = false

theorem State.RangeCalm.of_range {s t : State} (h : s.RangeCalm) (e : t.range = s.range) : t.RangeCalm := by
  unfold State.RangeCalm; rw [e]; exact h

theorem State.RangeCalm.of_idle {s : State} (h : s.range.active = none) : s.RangeCalm := fun r hr => by
  rw [h] at hr; cases hr

theorem OnlyTracks.range_eq {s t : State} (h : OnlyTracks s t) : t.range = s.range := by
  unfold OnlyTracks at h; rw [h]

theorem OnlyDirectory.range_eq {s t : State} (h : OnlyDirectory s t) : t.range = s.range := h.tracks.range_eq

theorem rangeCalm_play : KeptByPlay State.RangeCalm where
  deliver _ _ _ h := h
  setClock _ _ h := h
  emptyGain _ h := h
  takeDue s t h := h.of_range (s.takeDue_only t).range_eq
  passTrack m k s t h := h.of_range (State.passTrack_only m k s t).range_eq

theorem State.rangeSafetyEntry_calm {s : State} (h : s.RangeCalm) : s.rangeSafetyEntry.RangeCalm := by
  unfold State.rangeSafetyEntry
  split
  · split
    · exact .of_idle rfl
    · exact h
  · exact h

theorem rangeCalm_field : KeptByField State.RangeCalm where
  deliver _ _ _ h := h
  supervise _ _ _ _ _ _ _ h := h
  cause s c _ h := by
    unfold State.addCause
    split
    · have safed : (s.setSafety (s.safety.stoppingFor c)).directorySafetyEntry.RangeCalm :=
        State.RangeCalm.of_range (s := s.setSafety (s.safety.stoppingFor c)) h (State.directorySafetyEntry_only _).range_eq
      have paused : OnlyTracks _ (s.takenForStop c) := State.eachTrack_only _ State.safeTrack_only
      have clock : ∀ u : State, u.clockSafetyEntry.range = u.range := fun _ => rfl
      rw [State.enterStopping_eq]
      refine State.RangeCalm.of_range (State.rangeSafetyEntry_calm safed) ?_
      rw [(State.tellSafety_only _ _).directory.range_eq, clock, paused.range_eq]
    · exact h
    · exact h
  sweep s t e h := h.of_range (by unfold OnlySweep at e; rw [e])

theorem safetyAckAction_range (p : Port) (s : State) : (safetyAckAction p s).1.range = s.range := by
  have returned : ∀ u : State, u.returnToNormal.range = u.range := fun u => by
    rw [State.returnToNormal, (State.tellSafety_only _ _).directory.range_eq, (State.directorySafetyExit_only _).range_eq]
    rfl
  unfold safetyAckAction
  split
  · rfl
  · split
    · rfl
    · dsimp only
      split
      · rw [returned]; rfl
      · rfl

theorem State.frame_calm {s : State} (h : s.RangeCalm) : s.frame.RangeCalm := by
  have each : ∀ (u : State) {f : State → Fin 4 → State}, (∀ s t, OnlyTracks s (f s t)) → u.RangeCalm → (u.eachTrack f).RangeCalm :=
    fun u _ only hu => hu.of_range (u.eachTrack_only only).range_eq
  have frozen : s.reloadFrame.changeFreeze.RangeCalm := by
    have begun : ∀ f p k, ((s.reloadFrame.setFreeze f).post p k noSubject 0).RangeCalm := fun _ _ _ => h
    have held : ∀ u : State, u.RangeCalm → (u.setClock u.clock.freezeIn).RangeCalm := fun _ hu => hu
    unfold State.changeFreeze
    split
    · exact h
    · exact held _ (each _ State.freezeTrack_only (begun _ _ _))
    · exact h
    · exact rangeCalm_play.clockThaw _ (each _ State.thawTrack_only (begun _ _ _))
  have shaped : ∀ u : State, u.shape.range = u.range := fun u => by
    have only := u.shape_only
    unfold OnlyShaper at only
    rw [only]
  have evaluated : ∀ u : State, u.evalIdle.range = u.range := fun u => by rw [State.evalIdle_only]
  have settled : ∀ u : State, u.reachStopped.range = u.range := fun u => by unfold State.reachStopped; split <;> rfl
  have mixed : ∀ u : State, u.mix.range = u.range := fun _ => rfl
  have swept : ∀ u : State, u.giveSweep.range = u.range := fun u => by
    have only := u.giveSweep_only
    unfold OnlySweep at only
    rw [only]
  rw [State.frame_eq]
  exact frozen.of_range (by rw [swept, mixed, settled, evaluated, shaped])

theorem State.showReset_range (s : State) : s.showReset.range = RangeEngine.reset := by
  have cleared : s.clearedShow.range = RangeEngine.reset := rfl
  have dark : ∀ (t : State) d, (t.goDark d).range = t.range := fun _ _ => rfl
  rw [State.showReset_eq]
  split
  · rw [dark, cleared]
  · exact cleared

theorem State.rangeStep_calm {s : State} (h : s.RangeCalm) {r : RangeRecord} (active : s.range.active = some r) :
    (s.rangeStep r).RangeCalm := by
  unfold State.rangeStep
  split
  · next hn =>
    dsimp only
    split
    · exact .of_idle rfl
    · intro q hq
      obtain rfl := Option.mem_some_iff.mp (Option.mem_toList.mp hq)
      have op : (r.tally (s.rangeAct r.issuer r.op ⟨r.next, hn⟩).2).op = r.op := by
        unfold RangeRecord.tally; split <;> rfl
      rw [op]
      exact h r (by rw [active]; exact Option.mem_toList.mpr rfl)
  · exact h

/-! ## The music and the lamps -/

theorem ClockUnit.met_queue_nil {c : ClockUnit} (run : c.run = .stopped) (policy : Policy) : (c.met policy).queue = c.queue := by
  unfold ClockUnit.met
  split
  · next playing => rw [run] at playing; exact absurd playing.1 RunState.noConfusion
  · rfl

/-- In SETUP nothing joins an empty queue. -/
theorem ClockChange.queue_nil {m : Manner} {s : State} {c : ClockUnit} (h : ClockChange m s c) (mode : s.unit.mode = .setup)
    (run : s.clock.run = .stopped) (queue : s.clock.queue = []) : c.queue = [] := by
  have halted : ∀ {x : RunState}, x ≠ .stopped → s.clock.run = x → c.queue = [] := fun ne e => absurd (e.symm.trans run) ne
  cases h with
  | kept => exact queue
  | stopped => exact queue
  | started _ _ _ live => rw [mode] at live; cases live
  | block _ _ ne => exact absurd mode ne
  | tick => exact queue
  | framed _ h =>
    cases h with
    | silent _ h => exact h.queue.trans queue
    | empty _ run => exact halted RunState.noConfusion run
    | moved _ run => exact halted RunState.noConfusion run
  | coasted run => exact halted RunState.noConfusion run
  | emptied => rfl
  | frozen => exact queue
  | thawed =>
    unfold ClockUnit.thawed
    dsimp only
    rw [if_neg (by rw [run]; exact RunState.noConfusion)]
    exact queue
  | cleared => rfl

/-- Every fixture output is 0. -/
def State.Unlit (s : State) : Prop := ∀ f : Fin 48, (s.fixtures.get f).output = Rgbw.black

theorem State.mix_unlit {s : State} (mode : s.unit.mode = .setup) : s.mix.Unlit := fun f => by
  have record : s.mix.fixtures.get f = s.mixedFixture f := Table.get_build _ f
  have output : ∀ enabled follow colour, (s.fixtureOutput enabled follow colour).1 = Rgbw.black := fun _ _ _ => by
    unfold State.fixtureOutput
    rw [if_pos mode]
  rw [record]
  exact output _ _ _

theorem State.frame_unlit {s : State} (mode : s.unit.mode = .setup) : s.frame.Unlit := by
  have reloaded : Fixed s s.reloadFrame := ⟨rfl, rfl, rfl, rfl, rfl, rfl⟩
  have shaped := (reloaded.trans (State.changeFreeze_only _).field.fixed).trans (State.shape_only _).fixed
  have kept := (shaped.trans (State.evalIdle_fixed _)).trans (State.reachStopped_only _).field.fixed
  have mixed := State.mix_unlit (kept.mode.trans mode)
  rw [State.frame_eq]
  unfold State.Unlit
  rw [(State.giveSweep_only _).field.outside.fixtures]
  exact mixed

theorem State.enterSetup_unlit (s : State) : s.enterSetup.Unlit := fun f => by
  have told : ∀ t : State, (t.tellMode 0).fixtures = t.fixtures := fun _ => rfl
  have cleared : ∀ t : State, (t.mixerSetupEntry.fixtures.get f).output = Rgbw.black := fun t => by
    have record : t.mixerSetupEntry.fixtures.get f = (t.fixtures.get f).clear := Table.get_build _ f
    rw [record]; rfl
  rw [State.enterSetup_eq, told]
  exact cleared _

theorem State.startedUp_unlit (s : State) (held : PerPort Bool) : (s.startedUp held).Unlit := fun f => by
  have record : (s.startedUp held).fixtures.get f = FixtureRecord.reset := Table.get_fill _ f
  rw [record]; rfl

/-! ## SETUP (09 R155) -/

/-- What SETUP leaves to the masters: nothing held, waited for, owned, queued or lit. -/
structure State.AtRestForSetup (s : State) : Prop where
  unheld : s.Unheld
  waiters : s.directory.waiters = []
  range : s.RangeCalm
  tracks : ∀ t : Fin 4, s.track t = none
  run : s.clock.run = .stopped
  queue : s.clock.queue = []
  unlit : s.Unlit

theorem State.setupSound_iff {s : State} : s.SetupSound ↔ (s.unit.mode = .setup → s.AtRestForSetup) :=
  ⟨fun h mode => by
    obtain ⟨unheld, waiters, range, tracks, run, queue, unlit⟩ := h mode
    exact ⟨unheld, waiters, range, tracks, run, queue, unlit⟩,
  fun h mode => by
    obtain ⟨unheld, waiters, range, tracks, run, queue, unlit⟩ := h mode
    exact ⟨unheld, waiters, range, tracks, run, queue, unlit⟩⟩

/-- With no holder the wait queue is sound only where it is empty. -/
theorem State.waiters_of_unheld {s : State} (h : s.QueueSound) (unheld : s.Unheld) : s.directory.waiters = [] := by
  refine List.eq_nil_iff_forall_not_mem.mpr fun w hw => ?_
  have claims := (h.2 w.channel).no_claims (unheld w.channel)
  have none_left : s.waitersOf w.channel = [] := List.map_eq_nil_iff.mp claims
  have here : w ∈ s.waitersOf w.channel := List.mem_filter.mpr ⟨hw, decide_eq_true rfl⟩
  rw [none_left] at here
  cases here

theorem State.queueSound_of_idle {s : State} (unheld : s.Unheld) (waiters : s.directory.waiters = []) : s.QueueSound := by
  refine ⟨by rw [waiters]; exact Nat.zero_le _, fun ch => ?_⟩
  have claims : s.claims ch = [] := by unfold State.claims State.waitersOf; rw [waiters]; rfl
  rw [claims]
  exact .no_holder (unheld ch)

theorem Effect.unheld {m : Manner} {s t : State} (e : Effect m s t) (mode : s.unit.mode = .setup) (h : s.Unheld)
    (waiters : s.directory.waiters = []) (range : s.RangeCalm) : t.Unheld := by
  have play := Restaged.play s
  cases e with
  | claim p ch q wait ne => exact absurd mode ne
  | release p ch => rw [State.releaseChannel_idle h waiters]; exact h
  | stage p ch v => exact (s.stage_restaged p ch v).unheld h
  | watch p ch on => exact (s.setWatch_restaged p ch on).unheld h
  | expireRecall ch => rw [State.expireRecall_idle h]; exact h
  | rangeStep r active => exact State.rangeStep_unheld h (range r (by rw [active]; exact Option.mem_toList.mpr rfl))
  | due t => exact (s.takeDue_restaged t).unheld h
  | startClock source point => exact (play.meetStart (s.setClock (s.clock.start source point.val)) (.of_directory rfl)).unheld h
  | block p start count marker offset reserved frames =>
    exact (play.audioBlock p start count marker offset reserved frames s (.refl s)).unheld h
  | clockTick => exact (play.clockTick s (.refl s)).unheld h
  | audioFrame => exact (play.audioFrame s (.refl s)).unheld h
  | coastTick => exact (play.coastTick s (.refl s)).unheld h
  | cause c => exact unheld_kept.addCause s c h
  | acknowledge p => exact safetyAckAction_unheld p h
  | reply e => exact unheld_kept.field.endTransmission e s h
  | write table bytes index e => exact unheld_kept.field.writeEntry s index e (h.of_directory rfl)
  | enterSetup dark => rw [mode] at dark; cases dark
  | showReset =>
    intro ch
    rw [State.entry_of_directory s.showReset_directory, s.directoryShowReset_entry]
    exact showResetEntry_holder _ ch
  | frame => exact s.frame_restaged.unheld h
  | powerOn estop held =>
    have started : (s.startedUp held).Unheld := fun ch => by
      have entry : (s.startedUp held).entry ch = ChannelEntry.reset := Table.get_fill _ ch
      rw [entry]; rfl
    exact unheld_kept.field.powerOn s estop held started
  | _ => exact h.of_directory rfl

theorem Effect.rangeCalm {m : Manner} {s t : State} (e : Effect m s t) (mode : s.unit.mode = .setup) (h : s.RangeCalm) :
    t.RangeCalm := by
  cases e with
  | claim p ch q wait => exact h.of_range (s.claimChannel_only p ch q wait).range_eq
  | release p ch => exact h.of_range (s.releaseChannel_only p ch).range_eq
  | stage p ch v => exact h.of_range (s.stage_only p ch v).range_eq
  | expireRecall ch => exact h.of_range (s.expireRecall_only ch).range_eq
  | beginRange r needs =>
    intro q hq
    obtain rfl := Option.mem_some_iff.mp (Option.mem_toList.mp hq)
    exact Bool.eq_false_iff.mpr fun set => needs set mode
  | endRange r e => exact .of_idle rfl
  | rangeStep r active => exact State.rangeStep_calm h active
  | due t => exact h.of_range (s.takeDue_only t).range_eq
  | startClock source point => exact rangeCalm_play.meetStart (s.setClock _) h
  | block p start count marker offset reserved frames =>
    exact rangeCalm_play.audioBlock p start count marker offset reserved frames s h
  | clockTick => exact rangeCalm_play.clockTick s h
  | audioFrame => exact rangeCalm_play.audioFrame s h
  | coastTick => exact rangeCalm_play.coastTick s h
  | cause c absent => exact rangeCalm_field.cause s c absent h
  | acknowledge p => exact h.of_range (safetyAckAction_range p s)
  | reply e => exact rangeCalm_field.endTransmission e s h
  | write table bytes index e => exact rangeCalm_field.writeEntry s index e h
  | enterSetup dark => rw [mode] at dark; cases dark
  | showReset => exact .of_idle (by rw [s.showReset_range]; rfl)
  | frame => exact State.frame_calm h
  | powerOn estop held => exact rangeCalm_field.powerOn s estop held (.of_idle rfl)
  | _ => exact h

theorem State.powerOn_unlit (s : State) (estop : Bool) (held : PerPort Bool) : (s.powerOn estop held).Unlit := by
  rw [State.powerOn_eq]
  split
  · unfold State.Unlit
    rw [(State.assertEstop_only _).field.outside.fixtures]
    exact s.startedUp_unlit held
  · exact s.startedUp_unlit held

theorem Effect.unlit {m : Manner} {s t : State} (e : Effect m s t) (mode : s.unit.mode = .setup) (h : s.Unlit) : t.Unlit := by
  have same : ∀ {t : State}, t.fixtures = s.fixtures → t.Unlit := fun e => by unfold State.Unlit; rw [e]; exact h
  by_cases plain : m ≠ .own
  · rcases e.outside plain with kept | changed
    · exact same kept.fixtures
    · cases changed with
      | write _ _ _ _ kept => exact same kept.fixtures
      | saving _ _ kept => exact same kept.fixtures
      | enterSetup => exact s.enterSetup_unlit
      | showReset =>
        have cleared : s.clearedShow.fixtures = s.fixtures := rfl
        have dark : ∀ (t : State) d, (t.goDark d).fixtures = t.fixtures := fun _ _ => rfl
        refine same ?_
        rw [State.showReset_eq]
        split
        · rw [dark, cleared]
        · exact cleared
      | leaveSetup => exact same rfl
      | goLive => exact same rfl
      | goDark => exact same rfl
  · obtain rfl := not_not.mp plain
    cases e with
    | expireIdle => exact same rfl
    | frame => exact State.frame_unlit mode
    | powerOn estop held => exact s.powerOn_unlit estop held

/-- In SETUP an effect leaves everything at rest, unless it leaves SETUP. -/
theorem Effect.atRestForSetup {m : Manner} {s t : State} (e : Effect m s t) (mode : s.unit.mode = .setup) (h : s.AtRestForSetup)
    (after : t.unit.mode = .setup) : t.AtRestForSetup := by
  obtain ⟨unheld, waiters, range, tracks, run, queue, unlit⟩ := h
  have unheld' := e.unheld mode unheld waiters range
  have tracksSound : t.TracksSound := e.tracksSound (.of_idle tracks)
  have run' : t.clock.run = .stopped := by
    rcases e.clock.stays_stopped run with stopped | live
    · exact stopped
    · rw [mode] at live; cases live
  exact ⟨unheld', State.waiters_of_unheld (State.QueueSound.kept.effect e (State.queueSound_of_idle unheld waiters)) unheld',
    e.rangeCalm mode range, tracksSound.2 after, run', e.clock.queue_nil mode run queue, e.unlit mode unlit⟩

/-- Entry to SETUP leaves everything at rest, once the clock is STOPPED. -/
theorem State.enterSetup_atRest {s : State} (run : s.clock.run = .stopped) : s.enterSetup.AtRestForSetup where
  unheld ch := by
    rw [State.entry_of_directory (s.enterSetup_directory.trans s.emptiedForSetup_directory)]
    exact State.directorySetupEntry_holder _ ch
  waiters := by
    rw [s.enterSetup_directory, s.emptiedForSetup_directory]
    exact State.directorySetupEntry_waiters _
  range := by
    have clock : ∀ t : State, t.clockSetupEntry.range = t.range := fun _ => rfl
    have jets : ∀ t : State, t.shaperSetupEntry.range = t.range := fun _ => rfl
    have fixtures : ∀ t : State, t.mixerSetupEntry.range = t.range := fun _ => rfl
    have told : ∀ t : State, (t.tellMode 0).range = t.range := fun _ => rfl
    have idled : OnlyTracks _ s.emptiedForSetup := State.eachTrack_only _ State.idleForSetup_only
    refine .of_idle ?_
    rw [State.enterSetup_eq, told, fixtures, jets, clock, idled.range_eq]
    unfold State.rangeSetupEntry
    split
    · rfl
    · assumption
  tracks := s.enterSetup_track
  run := by rw [s.enterSetup_clock]; exact run
  queue := by rw [s.enterSetup_clock]
  unlit := s.enterSetup_unlit

theorem State.startedUp_entry (s : State) (held : PerPort Bool) (ch : Fin 177) :
    (s.startedUp held).entry ch = ChannelEntry.reset := Table.get_fill _ ch

theorem State.powerOn_track (s : State) (estop : Bool) (held : PerPort Bool) (k : Fin 4) :
    (s.powerOn estop held).track k = none := by
  have kept := (Retracked.field (s.startedUp held)).powerOn s estop held (.refl _)
  cases h : (s.powerOn estop held).track k with
  | none => rfl
  | some c =>
    obtain ⟨b, hb, -⟩ := kept.track k c h
    have idle : (s.startedUp held).track k = none := Table.get_fill none k
    rw [idle] at hb
    cases hb

/-- Start-up leaves everything at rest. -/
theorem State.powerOn_atRest (s : State) (estop : Bool) (held : PerPort Bool) : (s.powerOn estop held).AtRestForSetup := by
  have unheld : (s.powerOn estop held).Unheld :=
    unheld_kept.field.powerOn s estop held fun ch => by rw [s.startedUp_entry]; rfl
  exact ⟨unheld, State.waiters_of_unheld (State.QueueSound.kept.powerOn s estop held) unheld,
    rangeCalm_field.powerOn s estop held (.of_idle rfl), s.powerOn_track estop held, by rw [s.powerOn_clock]; rfl,
    by rw [s.powerOn_clock]; rfl, s.powerOn_unlit estop held⟩

/-- The mode after an effect is SETUP where it was, or where the effect enters SETUP or starts the part up. -/
theorem Effect.setupSound {m : Manner} {s t : State} (e : Effect m s t) (dark : s.DarkStopped) (h : s.SetupSound) : t.SetupSound := by
  rw [State.setupSound_iff] at h ⊢
  intro after
  by_cases mode : s.unit.mode = .setup
  · exact e.atRestForSetup mode (h mode) after
  · have left : t.unit.mode = s.unit.mode → t.AtRestForSetup := fun same => absurd (same.symm.trans after) mode
    by_cases plain : m ≠ .own
    · rcases e.outside plain with kept | changed
      · exact left (by rw [kept.unit])
      · cases changed with
        | write _ setup => exact absurd setup mode
        | saving _ _ kept => exact left (by rw [kept.unit]; rfl)
        | leaveSetup setup => exact absurd setup mode
        | enterSetup was => exact State.enterSetup_atRest (dark (by rw [was]; exact Mode.noConfusion))
        | goLive => cases after
        | goDark => cases after
        | showReset =>
          rw [State.showReset_unit] at after
          split at after
          · cases after
          · exact absurd after mode
    · obtain rfl := not_not.mp plain
      cases e with
      | expireIdle => cases after
      | frame => exact left s.frame_mode
      | powerOn estop held => exact s.powerOn_atRest estop held

theorem State.SetupSound.of_timer {s : State} {d : Option Nat} (h : s.SetupSound) :
    (s.setUnit { s.unit with idleDeadline := d }).SetupSound := h

/-- Each stage of a command keeps what SETUP asks for, where the clock runs in LIVE alone. -/
theorem Stage.setupSound {s t : State} (e : Stage s t) (idle : s.IdleSound) (h : s.SetupSound) : t.SetupSound := by
  obtain ⟨dark, -⟩ := idle
  cases e with
  | quiet e _ => exact e.setupSound dark h
  | settle e =>
    have settled := e.keeps (P := fun u => u.DarkStopped ∧ u.SetupSound)
      (fun e ⟨dark, setup⟩ => ⟨e.darkStopped Manner.noConfusion dark, e.setupSound dark setup⟩) ⟨dark, h⟩
    rw [settleIdle_only]
    exact settled.2.of_timer
  | idleExpiry mode timer => exact (Effect.expireIdle mode timer).setupSound dark h
  | frame => exact Effect.frame.setupSound dark h

theorem Restart.setupSound {s t : State} (e : Restart s t) (idle : s.IdleSound) (h : s.SetupSound) : t.SetupSound := by
  obtain ⟨dark, -⟩ := idle
  cases e with
  | settled e =>
    rw [settleIdle_only]
    exact (e.setupSound dark h).of_timer
  | powerOn estop held => exact (Effect.powerOn estop held).setupSound dark h

/-- Settles O57: the tables by what a write and start-up leave, the idle timer by each stage of a command, SETUP by each effect. -/
theorem stepKeepsModesSound : Obligations.StepKeepsModesSound := by
  intro s t next
  refine ⟨State.ConfigSound.kept.step next, fun idle => ⟨?_, fun setup => ?_⟩⟩
  · exact step_keeps (P := State.IdleSound) (fun _ _ _ h => h) (fun e h => e.idleSound h) (fun e h => e.idleSound h) next idle
  · exact (step_keeps (P := fun u => u.IdleSound ∧ u.SetupSound) (fun _ _ _ h => h)
      (fun e ⟨idle, setup⟩ => ⟨e.idleSound idle, e.setupSound idle setup⟩)
      (fun e ⟨idle, setup⟩ => ⟨e.idleSound idle, e.setupSound idle setup⟩) next ⟨idle, setup⟩).2

end Sys2Proof.Machine

/-!
# The frame event by parts
-/

namespace Sys2Proof.Machine

/-! ## The Shaper's records (05) -/

theorem State.commitHeights_jet (s : State) (j : Fin 128) :
    s.commitHeights.jets.get j = { s.jets.get j with commanded := s.committedHeight j } := Table.get_build _ j

theorem State.shapeJets_jet (s : State) (j : Fin 128) : s.shapeJets.jets.get j = s.shapedJet j := Table.get_build _ j

theorem State.computeHeaders_header (s : State) (h : Fin 16) : s.computeHeaders.headers.get h = s.computedHeader h :=
  Table.get_build _ h

theorem State.slewJets_jet (s : State) (j : Fin 128) : s.slewJets.jets.get j = s.slewedJet j := Table.get_build _ j

/-- The commanded heights, targets, openings and flows of a frame event. -/
def State.shaping (s : State) : State := s.commitHeights.shapeJets

theorem State.shaping_jet (s : State) (j : Fin 128) : s.shaping.jets.get j = s.commitHeights.shapedJet j := State.shapeJets_jet _ j

/-- What the notices of the headers leave alone. -/
theorem OnlyPorts.records {s t : State} (h : OnlyPorts s t) :
    t.jets = s.jets ∧ t.headers = s.headers ∧ t.shaper = s.shaper ∧ t.directory = s.directory := by
  unfold OnlyPorts at h; rw [h]; exact ⟨rfl, rfl, rfl, rfl⟩

theorem State.shape_jet (s : State) (j : Fin 128) : s.shape.jets.get j = s.shaping.computeHeaders.slewedJet j := by
  have rest : ∀ u : State, u.settleRest.jets = u.jets := fun _ => rfl
  obtain ⟨jets, -⟩ := (State.tellHeaders_only s.headers s.slewed).records
  rw [State.shape_eq, rest, jets]
  exact State.slewJets_jet _ j

theorem State.shape_header (s : State) (h : Fin 16) : s.shape.headers.get h = s.shaping.computedHeader h := by
  have rest : ∀ u : State, u.settleRest.headers = u.headers := fun _ => rfl
  obtain ⟨-, headers, -⟩ := (State.tellHeaders_only s.headers s.slewed).records
  rw [State.shape_eq, rest, headers]
  exact State.computeHeaders_header _ h

theorem State.shaping_entry_hold (s : State) (ch : Fin 177) : (s.shaping.entry ch).hold = (s.entry ch).hold :=
  (s.commitHeights_restaged.2 ch).1

/-! ### Rest (05 R103) -/

theorem State.outputsRest_iff {s : State} : s.outputsRest = true ↔
    s.ValvesClosed ∧ ∀ h : Fin 16, (s.config.headers.get h).enabled = true → (s.headers.get h).commanded = 0 := by
  unfold State.outputsRest State.ValvesClosed
  rw [Bool.and_eq_true, Table.all_rows, List.all_eq_true]
  refine and_congr (by simp) ⟨fun h i enabled => ?_, fun h i _ => ?_⟩
  · have := h i (Table.mem_indices i)
    simpa [enabled] using this
  · cases enabled : (s.config.headers.get i).enabled with
    | false => rfl
    | true => simpa using h i enabled

theorem State.pumpsRest_iff {s : State} : s.pumpsRest = true ↔ ∀ h : Fin 16, (s.config.headers.get h).enabled = true →
    (s.headers.get h).actual = 0 ∨ (s.node (s.config.headers.get h).driveNode).state ≠ .online := by
  unfold State.pumpsRest State.driveOnline
  rw [List.all_eq_true]
  refine ⟨fun h i enabled => ?_, fun h i _ => ?_⟩
  · have := h i (Table.mem_indices i)
    simpa [enabled] using this
  · cases enabled : (s.config.headers.get i).enabled with
    | false => rfl
    | true => simpa using h i enabled

theorem State.shape_shaper (s : State) : s.shape.shaper = { s.shaper with
    outputsAtRest := s.shape.outputsRest, pumpsAtRest := s.shape.pumpsRest, jetsStill := s.shape.jetsRest } := by
  have settled : ∀ u : State, u.settleRest.shaper = { u.shaper with
      outputsAtRest := u.settleRest.outputsRest, pumpsAtRest := u.settleRest.pumpsRest, jetsStill := u.settleRest.jetsRest } :=
    fun _ => rfl
  obtain ⟨-, -, shaper, -⟩ := (State.tellHeaders_only s.headers s.slewed).records
  have slewed : s.slewed.shaper = s.shaper := rfl
  rw [State.shape_eq, settled, shaper, slewed]

theorem State.shape_outputsAtRest (s : State) : s.shape.shaper.outputsAtRest = s.shape.outputsRest := by rw [State.shape_shaper]

theorem State.shape_pumpsAtRest (s : State) : s.shape.shaper.pumpsAtRest = s.shape.pumpsRest := by rw [State.shape_shaper]

/-! ### A jet that stays closed, and a pump that stays stopped -/

theorem interpolate_zero (curve : Table Nat 9) (hMax : Nat) : interpolate curve hMax 0 = 0 := by
  unfold interpolate
  exact if_pos rfl

theorem slew_zero (up down : Nat) : slew 0 0 up down = 0 := by unfold slew; simp

theorem State.jetTarget_zero {s : State} {j : Fin 128}
    (calm : s.unit.mode ≠ .live ∨ (s.entry (jetChannel j)).hold = .safed) : s.jetTarget j = 0 := by
  unfold State.jetTarget State.effectiveHeight
  dsimp only
  split
  · rfl
  · next open_ =>
    rcases calm with mode | safed
    · rw [if_neg mode]; exact Nat.zero_min _
    · exact absurd (.inr safed) open_

theorem State.shapedJet_zero {s : State} {j : Fin 128} (calm : s.unit.mode ≠ .live ∨ (s.entry (jetChannel j)).hold = .safed) :
    (s.shapedJet j).opening = 0 ∧ (s.shapedJet j).flow = 0 := by
  unfold State.shapedJet
  dsimp only
  split
  · simp only [State.jetTarget_zero calm, interpolate_zero, and_self]
  · exact ⟨rfl, rfl⟩

theorem State.shapedJet_valve (s : State) (j : Fin 128) : (s.shapedJet j).valve = (s.jets.get j).valve := by
  unfold State.shapedJet
  dsimp only
  split <;> rfl

theorem State.shaping_valve (s : State) (j : Fin 128) : (s.shaping.jets.get j).valve = (s.jets.get j).valve := by
  rw [State.shaping_jet, State.shapedJet_valve, State.commitHeights_jet]

/-- A closed jet whose target is 0 stays closed. -/
theorem State.shape_valve_zero {s : State} {j : Fin 128} (calm : s.unit.mode ≠ .live ∨ (s.entry (jetChannel j)).hold = .safed)
    (closed : (s.jets.get j).valve = 0) : (s.shape.jets.get j).valve = 0 := by
  have calm' : s.commitHeights.unit.mode ≠ .live ∨ (s.commitHeights.entry (jetChannel j)).hold = .safed := by
    rw [(s.commitHeights_restaged.2 _).1]; exact calm
  have opening : (s.shaping.computeHeaders.jets.get j).opening = 0 := by
    have same : s.shaping.computeHeaders.jets = s.shaping.jets := rfl
    rw [same, State.shaping_jet]
    exact (State.shapedJet_zero calm').1
  have valve : (s.shaping.computeHeaders.jets.get j).valve = 0 := (s.shaping_valve j).trans closed
  rw [State.shape_jet]
  unfold State.slewedJet
  dsimp only
  split
  · rw [opening, valve]
    unfold scaleBy
    rw [Nat.zero_mul, Nat.zero_div, slew_zero]
  · rfl

theorem State.pumpTarget_zero {s : State} {h : Fin 16} {demand : Nat} (quiet : s.safety.state ≠ .normal ∨ demand = 0) :
    s.pumpTarget h demand = 0 := by
  unfold State.pumpTarget
  dsimp only
  rcases quiet with stopped | dry
  · rw [if_pos stopped]
  · simp [dry]

theorem State.headerDemand_zero {s : State} (calm : ∀ j, (s.jets.get j).flow = 0) (h : Fin 16) : s.headerDemand h = 0 := by
  unfold State.headerDemand
  rw [List.sum_eq_zero_iff]
  intro x hx
  obtain ⟨j, -, rfl⟩ := List.mem_map.mp hx
  exact calm j

theorem State.shape_commanded_disabled {s : State} {h : Fin 16} (disabled : (s.config.headers.get h).enabled = false) :
    s.shape.headers.get h = s.headers.get h := by
  have off : (s.shaping.config.headers.get h).enabled = false := disabled
  rw [State.shape_header]
  unfold State.computedHeader
  dsimp only
  rw [off]
  rfl

/-- A stopped pump stays stopped outside NORMAL, and where no jet asks for flow. -/
theorem State.shape_commanded_zero {s : State} {h : Fin 16} (quiet : s.safety.state ≠ .normal ∨ s.unit.mode ≠ .live)
    (stopped : (s.headers.get h).commanded = 0) : (s.shape.headers.get h).commanded = 0 := by
  have target : s.shaping.pumpTarget h (s.shaping.headerDemand h) = 0 := by
    refine State.pumpTarget_zero ?_
    rcases quiet with safety | mode
    · exact .inl safety
    · refine .inr (State.headerDemand_zero (fun j => ?_) h)
      have calm : s.commitHeights.unit.mode ≠ .live ∨ (s.commitHeights.entry (jetChannel j)).hold = .safed := .inl mode
      rw [State.shaping_jet]
      exact (State.shapedJet_zero calm).2
  have before : (s.shaping.headers.get h).commanded = 0 := stopped
  rw [State.shape_header]
  unfold State.computedHeader
  dsimp only
  split
  · rw [target, before, slew_zero]
  · exact before

/-! ## Before and after the Shaper's part -/

/-- What a change of the freeze leaves alone. -/
theorem State.changeFreeze_directory (s : State) : s.changeFreeze.directory = s.directory := by
  have started : ∀ u : State, u.meetStart.directory = u.directory := fun u => by
    have posted : ∀ (v : State) k d, (v.postAud k d).directory = v.directory := fun v k d => (v.postAud_only k d).directory_eq
    have set : ∀ (v : State) c, (v.setClock c).directory = v.directory := fun _ _ => rfl
    unfold State.meetStart State.rangeEnd State.meetUnderrun
    dsimp only
    split
    · split
      · rw [set, posted]
      · split
        · split <;> rw [set, posted]
        · rfl
    · rfl
  have frozen : ∀ u : State, (u.eachTrack State.freezeTrack).directory = u.directory := fun u =>
    u.eachTrack_directory State.freezeTrack_directory
  have thawed : ∀ u : State, (u.eachTrack State.thawTrack).directory = u.directory := fun u =>
    u.eachTrack_directory State.thawTrack_directory
  have posted : ∀ (u : State) p k, (u.post p k noSubject 0).directory = u.directory := fun _ _ _ => rfl
  have set : ∀ (u : State) c, (u.setClock c).directory = u.directory := fun _ _ => rfl
  unfold State.changeFreeze
  split
  · rfl
  · dsimp only; rw [set, frozen, posted]; rfl
  · rfl
  · unfold State.clockThaw
    dsimp only
    split
    · rw [started, set, thawed, posted]; rfl
    · rw [set, thawed, posted]; rfl

/-- The state in which the Shaper's part begins: the timer reloaded and the freeze settled. -/
def State.frameBegun (s : State) : State := s.reloadFrame.changeFreeze

theorem State.frameBegun_directory (s : State) : s.frameBegun.directory = s.directory := s.reloadFrame.changeFreeze_directory

theorem State.frameBegun_entry (s : State) (ch : Fin 177) : s.frameBegun.entry ch = s.entry ch :=
  State.entry_of_directory s.frameBegun_directory ch

theorem State.frameBegun_state (s : State) : s.frameBegun.safety.state = s.safety.state := s.reloadFrame.changeFreeze_state

/-- The outputs, the unit and the tables as the Shaper's part finds them. -/
theorem State.frameBegun_outside (s : State) : s.frameBegun.unit = s.unit ∧ s.frameBegun.config = s.config
    ∧ s.frameBegun.jets = s.jets ∧ s.frameBegun.headers = s.headers ∧ s.frameBegun.fixtures = s.fixtures := by
  have kept := (State.changeFreeze_only s.reloadFrame).field.outside
  exact ⟨kept.unit, kept.config, kept.jets, kept.headers, kept.fixtures⟩

/-- The state in which the Mixer's part begins. -/
def State.mixBegun (s : State) : State := s.frameBegun.shape.evalIdle.reachStopped

theorem State.frame_parts (s : State) : s.frame = s.mixBegun.mix.giveSweep := rfl

/-- What the end of the Shaper's part leaves alone. -/
structure Settled (s t : State) : Prop where
  directory : t.directory = s.directory
  config : t.config = s.config
  mode : t.unit.mode = s.unit.mode
  shaper : t.shaper = s.shaper
  jets : t.jets = s.jets
  headers : t.headers = s.headers
  fixtures : t.fixtures = s.fixtures
  clock : t.clock = s.clock

theorem Settled.trans {s t u : State} (h : Settled s t) (k : Settled t u) : Settled s u :=
  ⟨k.directory.trans h.directory, k.config.trans h.config, k.mode.trans h.mode, k.shaper.trans h.shaper, k.jets.trans h.jets,
    k.headers.trans h.headers, k.fixtures.trans h.fixtures, k.clock.trans h.clock⟩

theorem State.evalIdle_settled (s : State) : Settled s s.evalIdle := by
  rw [State.evalIdle_only]
  exact ⟨rfl, rfl, rfl, rfl, rfl, rfl, rfl, rfl⟩

theorem State.reachStopped_settled (s : State) : Settled s s.reachStopped := by
  unfold State.reachStopped
  split <;> exact ⟨rfl, rfl, rfl, rfl, rfl, rfl, rfl, rfl⟩

theorem State.mixBegun_settled (s : State) : Settled s.frameBegun.shape s.mixBegun :=
  (State.evalIdle_settled _).trans (State.reachStopped_settled _)

/-- The sweep and the Mixer leave the Shaper's records alone. -/
theorem State.frame_records (s : State) : s.frame.jets = s.frameBegun.shape.jets ∧ s.frame.headers = s.frameBegun.shape.headers
    ∧ s.frame.shaper = s.frameBegun.shape.shaper ∧ s.frame.config = s.config := by
  have swept := (State.giveSweep_only s.mixBegun.mix).field.outside
  have settled := s.mixBegun_settled
  have mixed : ∀ u : State, u.mix.jets = u.jets ∧ u.mix.headers = u.headers ∧ u.mix.shaper = u.shaper := fun _ => ⟨rfl, rfl, rfl⟩
  obtain ⟨jets, headers, shaper⟩ := mixed s.mixBegun
  rw [State.frame_parts, swept.jets, swept.headers, swept.shaper, jets, headers, shaper]
  exact ⟨settled.jets, settled.headers, settled.shaper, s.frame_fixed.config⟩

theorem State.frame_jet (s : State) (j : Fin 128) : s.frame.jets.get j = s.frameBegun.shape.jets.get j := by
  rw [s.frame_records.1]

theorem State.frame_header (s : State) (h : Fin 16) : s.frame.headers.get h = s.frameBegun.shape.headers.get h := by
  rw [s.frame_records.2.1]

theorem State.mixBegun_safety (s : State) : s.mixBegun.safety =
    if s.safety.state = .stopping ∧ s.frameBegun.shape.shaper.atRest = true
    then { s.frameBegun.safety with state := .stopped } else s.frameBegun.safety := by
  have evaluated : s.frameBegun.shape.evalIdle.safety = s.frameBegun.safety := by
    rw [State.evalIdle_safety, (State.shape_only _).safety_eq]
  have shaper : s.frameBegun.shape.evalIdle.shaper = s.frameBegun.shape.shaper := by rw [State.evalIdle_only]
  unfold State.mixBegun
  rw [State.reachStopped_safety, evaluated, shaper, s.frameBegun_state]

theorem State.frame_safety_parts (s : State) : s.frame.safety = s.mixBegun.safety := by
  have mixed : ∀ u : State, u.mix.safety = u.safety := fun _ => rfl
  rw [State.frame_parts, (State.giveSweep_only _).safety_eq, mixed]

end Sys2Proof.Machine

/-!
# Every step keeps the outputs sound
-/

namespace Sys2Proof.Machine

/-! ## STOPPED is reached at a frame event alone (08 R146) -/

theorem stopped_field (r : Supervisor) : KeptByField fun s => s.safety.state = .stopped → r.state = .stopped where
  deliver _ _ _ h := h
  supervise _ _ state _ _ _ _ h := by rw [← state] at h; exact h
  cause s c _ h := by
    unfold State.addCause
    split
    · rw [s.enterStopping_safety]; exact fun e => (nomatch e)
    · exact h
    · exact h
  sweep _ _ e h := by rw [e.safety_eq]; exact h

theorem Effect.state_stopped {m : Manner} {s t : State} (e : Effect m s t) (plain : m ≠ .own) : t.safety.state = .stopped → s.safety.state = .stopped := by
  have same : ∀ {t : State}, t.safety = s.safety → t.safety.state = .stopped → s.safety.state = .stopped := fun e => e ▸ id
  cases e with
  | claim p ch q wait => exact same (s.claimChannel_only p ch q wait).safety_eq
  | release p ch => exact same (s.releaseChannel_only p ch).safety_eq
  | stage p ch v => exact same (s.stage_only p ch v).safety_eq
  | expireRecall ch => exact same (s.expireRecall_only ch).safety_eq
  | rangeStep r => exact same (s.rangeStep_only r).safety_eq
  | due t => exact same (s.takeDue_only t).show.safety_eq
  | startClock source point => exact same ((s.setClock_only _).trans (State.meetStart_only _)).safety_eq
  | block => exact same (audioBlockAction_only ..).safety_eq
  | clockTick => exact same s.clockTick_only.safety_eq
  | audioFrame => exact same s.audioFrame_only.safety_eq
  | coastTick => exact same s.coastTick_only.safety_eq
  | supervise r state => exact fun e => state ▸ e
  | cause c absent => exact (stopped_field s.safety).cause s c absent id
  | acknowledge p =>
    unfold safetyAckAction
    split
    · exact id
    · split
      · exact id
      · dsimp only
        split
        · rw [State.returnToNormal_safety]; exact fun e => (nomatch e)
        · exact id
  | reply e => exact (stopped_field s.safety).endTransmission e s id
  | write table bytes index e => exact (stopped_field s.safety).writeEntry s index e id
  | enterSetup => rw [s.enterSetup_safety]; exact id
  | showReset => rw [s.showReset_safety]; exact id
  | expireIdle | frame | powerOn => exact absurd rfl plain
  | _ => exact id

/-! ## The outputs -/

theorem State.OutputsSound.kept {s t : State} (h : s.OutputsSound) (shaper : t.shaper = s.shaper) (jets : t.jets = s.jets)
    (headers : t.headers = s.headers) (config : t.config = s.config)
    (rest : t.unit.mode = .setup ∨ t.safety.state = .stopped → s.unit.mode = .setup ∨ s.safety.state = .stopped) :
    t.OutputsSound := by
  unfold State.OutputsSound State.ValvesClosed State.PumpsStopped at h ⊢
  rw [shaper, jets, headers, config]
  obtain ⟨told, disabled, still⟩ := h
  exact ⟨told, disabled, still ∘ rest⟩

theorem Outside.outputsSound {s t : State} (k : Outside s t) (h : s.OutputsSound)
    (stopped : t.safety.state = .stopped → s.safety.state = .stopped) : t.OutputsSound :=
  h.kept k.shaper k.jets k.headers k.config (Or.imp (fun mode => k.unit ▸ mode) stopped)

/-- With every output at rest the outputs are sound, whatever the tables and the mode. -/
theorem State.OutputsSound.of_rest {s : State} (valves : s.ValvesClosed) (pumps : s.PumpsStopped) : s.OutputsSound :=
  ⟨fun _ => ⟨valves, fun h _ => pumps h⟩, fun h _ => pumps h, fun _ => ⟨valves, pumps⟩⟩

/-- A change to DARK or LIVE with its notice. -/
theorem State.OutputsSound.remode {s : State} (h : s.OutputsSound) (u : ModeUnit) (left : u.mode ≠ .setup) (detail : Nat) :
    ((s.setUnit u).tellMode detail).OutputsSound := by
  have told : ∀ v : State, Outside v (v.tellMode detail) ∧ (v.tellMode detail).safety = v.safety :=
    fun _ => ⟨⟨rfl, rfl, rfl, rfl, rfl, rfl⟩, rfl⟩
  obtain ⟨outside, safety⟩ := told (s.setUnit u)
  have moved : (s.setUnit u).OutputsSound :=
    h.kept rfl rfl rfl rfl fun rest => .inr (rest.resolve_left fun setup => left setup)
  exact outside.outputsSound moved (fun e => safety ▸ e)

theorem State.enterSetup_valve (s : State) (j : Fin 128) : (s.enterSetup.jets.get j).valve = (s.jets.get j).valve := by
  have told : ∀ t : State, (t.tellMode 0).jets = t.jets := fun _ => rfl
  have fixtures : ∀ t : State, t.mixerSetupEntry.jets = t.jets := fun _ => rfl
  have jets : ∀ t : State, (t.shaperSetupEntry.jets.get j).valve = (t.jets.get j).valve := fun t => by
    have record : t.shaperSetupEntry.jets.get j = { t.jets.get j with commanded := 0 } := Table.get_build _ j
    rw [record]
  have clock : ∀ t : State, t.clockSetupEntry.jets = t.jets := fun _ => rfl
  rw [State.enterSetup_eq, told, fixtures, jets, clock, s.emptiedForSetup_only.field.outside.jets]
  rfl

theorem State.enterSetup_headers (s : State) : s.enterSetup.headers = s.headers := by
  have told : ∀ t : State, (t.tellMode 0).headers = t.headers := fun _ => rfl
  have fixtures : ∀ t : State, t.mixerSetupEntry.headers = t.headers := fun _ => rfl
  have jets : ∀ t : State, t.shaperSetupEntry.headers = t.headers := fun _ => rfl
  have clock : ∀ t : State, t.clockSetupEntry.headers = t.headers := fun _ => rfl
  rw [State.enterSetup_eq, told, fixtures, jets, clock, s.emptiedForSetup_only.field.outside.headers]
  rfl

/-- Outputs at rest stand on entry to SETUP (09 R162). -/
theorem State.enterSetup_outputsSound {s : State} (h : s.OutputsSound) (rest : s.shaper.outputsAtRest = true) :
    s.enterSetup.OutputsSound := by
  obtain ⟨told, disabled, -⟩ := h
  obtain ⟨valves, enabled⟩ := told rest
  refine .of_rest (fun j => (s.enterSetup_valve j).trans (valves j)) fun i => ?_
  rw [s.enterSetup_headers]
  cases on : (s.config.headers.get i).enabled with
  | true => exact enabled i on
  | false => exact disabled i on

theorem State.showReset_outside (s : State) : s.showReset.shaper = s.shaper ∧ s.showReset.jets = s.jets
    ∧ s.showReset.headers = s.headers ∧ s.showReset.config = s.config := by
  have cleared : s.clearedShow.shaper = s.shaper ∧ s.clearedShow.jets = s.jets ∧ s.clearedShow.headers = s.headers
    ∧ s.clearedShow.config = s.config := ⟨rfl, rfl, rfl, rfl⟩
  have dark : ∀ (t : State) d, (t.goDark d).shaper = t.shaper ∧ (t.goDark d).jets = t.jets ∧ (t.goDark d).headers = t.headers
    ∧ (t.goDark d).config = t.config := fun _ _ => ⟨rfl, rfl, rfl, rfl⟩
  rw [State.showReset_eq]
  split
  · obtain ⟨shaper, jets, headers, config⟩ := dark s.clearedShow 4
    rw [shaper, jets, headers, config]
    exact cleared
  · exact cleared

/-- A frame event settles the indication by the outputs it computes, and outside NORMAL and outside LIVE it moves none from 0. -/
theorem State.frame_outputsSound {s : State} (safed : s.SafedSound) (h : s.OutputsSound) : s.frame.OutputsSound := by
  obtain ⟨-, disabled, still⟩ := h
  obtain ⟨unit, config, jets, headers, -⟩ := s.frameBegun_outside
  obtain ⟨frame_jets, frame_headers, frame_shaper, frame_config⟩ := s.frame_records
  have shape_config : s.frameBegun.shape.config = s.config := (State.shape_only _).fixed.config.trans config
  have rest : s.frame.shaper.outputsAtRest = true ↔ s.frame.ValvesClosed
      ∧ ∀ i : Fin 16, (s.frame.config.headers.get i).enabled = true → (s.frame.headers.get i).commanded = 0 := by
    rw [frame_shaper, State.shape_outputsAtRest, State.outputsRest_iff]
    unfold State.ValvesClosed
    rw [frame_jets, frame_headers, frame_config, shape_config]
  have off : ∀ i : Fin 16, (s.frame.config.headers.get i).enabled = false → (s.frame.headers.get i).commanded = 0 := fun i hi => by
    rw [frame_config, ← config] at hi
    rw [s.frame_header, State.shape_commanded_disabled hi, headers]
    exact disabled i (config ▸ hi)
  have stays : s.unit.mode = .setup ∨ s.safety.state = .stopped → s.frame.ValvesClosed ∧ s.frame.PumpsStopped := fun calm => by
    obtain ⟨valves, pumps⟩ := still calm
    refine ⟨fun j => ?_, fun i => ?_⟩
    · rw [s.frame_jet]
      refine State.shape_valve_zero ?_ (by rw [jets]; exact valves j)
      rw [unit, s.frameBegun_entry]
      rcases calm with setup | stopped
      · exact .inl (by rw [setup]; exact Mode.noConfusion)
      · exact .inr ((safed _).mpr ⟨Nat.lt_of_lt_of_le j.isLt (by omega), by rw [stopped]; exact SafetyState.noConfusion⟩)
    · rw [s.frame_header]
      refine State.shape_commanded_zero ?_ (by rw [headers]; exact pumps i)
      rw [unit, s.frameBegun_state]
      rcases calm with setup | stopped
      · exact .inr (by rw [setup]; exact Mode.noConfusion)
      · exact .inl (by rw [stopped]; exact SafetyState.noConfusion)
  refine ⟨rest.mp, off, fun calm => ?_⟩
  rcases calm with setup | stopped
  · exact stays (.inl (s.frame_mode ▸ setup))
  · rw [s.frame_safety_parts, s.mixBegun_safety] at stopped
    split at stopped
    · next reached =>
      have indicated : s.frame.shaper.outputsAtRest = true := by
        rw [frame_shaper]
        exact (Bool.and_eq_true_iff.mp reached.2).1
      obtain ⟨valves, pumps⟩ := rest.mp indicated
      refine ⟨valves, fun i => ?_⟩
      cases on : (s.frame.config.headers.get i).enabled with
      | true => exact pumps i on
      | false => exact off i on
    · exact stays (.inr (s.frameBegun_state ▸ stopped))

theorem State.startedUp_rest (s : State) (held : PerPort Bool) :
    (s.startedUp held).ValvesClosed ∧ (s.startedUp held).PumpsStopped := by
  refine ⟨fun j => ?_, fun i => ?_⟩
  · have record : (s.startedUp held).jets.get j = JetRecord.reset := Table.get_fill _ j
    rw [record]; rfl
  · have record : (s.startedUp held).headers.get i = HeaderRecord.reset := Table.get_fill _ i
    rw [record]; rfl

theorem Effect.outputsSound {m : Manner} {s t : State} (e : Effect m s t) (safed : s.SafedSound) (h : s.OutputsSound) :
    t.OutputsSound := by
  by_cases plain : m ≠ .own
  · have stopped := e.state_stopped plain
    rcases e.outside plain with kept | changed
    · exact kept.outputsSound h stopped
    · cases changed with
      | write _ setup index entry kept =>
        obtain ⟨valves, pumps⟩ := h.2.2 (.inl setup)
        refine .of_rest ?_ ?_
        · unfold State.ValvesClosed; rw [kept.jets]; exact valves
        · unfold State.PumpsStopped; rw [kept.headers]; exact pumps
      | saving _ x kept =>
        have saved : (s.setUnit { s.unit with saving := x }).OutputsSound := h
        exact kept.outputsSound saved stopped
      | leaveSetup => exact h.remode { s.unit with mode := .dark } Mode.noConfusion 1
      | enterSetup _ rest => exact State.enterSetup_outputsSound h rest
      | goLive => exact h.remode { s.unit with mode := .live } Mode.noConfusion 2
      | goDark detail => exact h.remode { s.unit with mode := .dark, idleDeadline := none } Mode.noConfusion detail
      | showReset =>
        obtain ⟨shaper, jets, headers, config⟩ := s.showReset_outside
        refine h.kept shaper jets headers config (Or.imp (fun mode => ?_) stopped)
        rw [State.showReset_unit] at mode
        split at mode
        · cases mode
        · exact mode
  · obtain rfl := not_not.mp plain
    cases e with
    | expireIdle => exact h.remode { s.unit with mode := .dark, idleDeadline := none } Mode.noConfusion 3
    | frame => exact State.frame_outputsSound safed h
    | powerOn estop held =>
      obtain ⟨valves, pumps⟩ := s.startedUp_rest held
      rw [State.powerOn_eq]
      split
      · have kept := (State.assertEstop_only (s.startedUp held)).field.outside
        refine .of_rest ?_ ?_
        · unfold State.ValvesClosed; rw [kept.jets]; exact valves
        · unfold State.PumpsStopped; rw [kept.headers]; exact pumps
      · exact .of_rest valves pumps

/-- Settles O37: with the SAFED channels sound beside them, each effect keeps the outputs sound. -/
theorem stepKeepsOutputsSound : Obligations.StepKeepsOutputsSound := by
  intro s t safed sound next
  exact (step_keeps_of_effects (P := fun u => u.SafedSound ∧ u.OutputsSound)
    (fun _ _ _ ⟨safed, sound⟩ => ⟨safed.elsewhere rfl rfl, sound⟩) (fun _ _ ⟨safed, sound⟩ => ⟨safed.elsewhere rfl rfl, sound⟩)
    (fun e ⟨safed, sound⟩ => ⟨e.safed safed, e.outputsSound safed sound⟩) next ⟨safed, sound⟩).2

end Sys2Proof.Machine

/-!
# The show clock stays sound, and runs forward
-/

namespace Sys2Proof.Machine

/-! ## The block queue brought to a position -/

/-- A queue of sound blocks in order, each ending after a position. -/
def QueueAfter (position : Nat) (queue : List Block) : Prop :=
  queue.length ≤ 48 ∧ queue.Pairwise (fun x y => x.stop ≤ y.start) ∧ ∀ b ∈ queue, b.Sound ∧ position < b.stop

theorem QueueAfter.nil (position : Nat) : QueueAfter position [] := ⟨by simp, .nil, fun _ h => nomatch h⟩

/-- The blocks that a move of the play position leaves whole. -/
theorem QueueAfter.past {position p : Nat} {queue : List Block} (h : QueueAfter position queue) :
    QueueAfter p (queuePast queue p) := by
  obtain ⟨room, order, sound⟩ := h
  refine ⟨(List.length_filter_le _ _).trans room, order.filter _, fun b hb => ?_⟩
  obtain ⟨member, after⟩ := List.mem_filter.mp hb
  exact ⟨(sound b member).1, of_decide_eq_true after⟩

/-- A block trimmed to a position within it ends where it did. -/
theorem Block.trim_stop {b : Block} {p : Nat} (h : b.start < p) (k : p < b.stop) : (b.trim p).stop = b.stop := by
  unfold Block.stop Block.trim at *
  rw [List.length_drop]
  show p + (b.frames.length - (p - b.start)) = b.start + b.frames.length
  omega

theorem Block.trim_sound {b : Block} {p : Nat} (hb : b.Sound) (h : b.start < p) (k : p < b.stop) : (b.trim p).Sound := by
  have stop := Block.trim_stop h k
  obtain ⟨-, last, marker⟩ := hb
  refine ⟨fun empty => ?_, stop ▸ last, fun m hm => ?_⟩
  · have : (b.trim p).stop = p := by unfold Block.stop; rw [empty]; rfl
    omega
  · obtain ⟨there, kept⟩ := Option.filter_eq_some_iff.mp (Option.mem_toList.mp hm)
    rw [stop]
    exact ⟨of_decide_eq_true kept, (marker m (Option.mem_toList.mpr there)).2⟩

/-- The queue brought to a position holds sound blocks in order, each ending after it. -/
theorem QueueAfter.brought {position p : Nat} {queue : List Block} (h : QueueAfter position queue) :
    QueueAfter p (bringTo p queue) := by
  have cut : ∀ b : Block, p < b.stop → (if b.start < p then b.trim p else b).stop = b.stop ∧
      b.start ≤ (if b.start < p then b.trim p else b).start := fun b after => by
    split
    · next across => exact ⟨Block.trim_stop across after, across.le⟩
    · exact ⟨rfl, le_refl _⟩
  obtain ⟨room, order, sound⟩ := h
  have after : ∀ b ∈ queue.filter fun b => decide (p < b.stop), b.Sound ∧ p < b.stop := fun b hb => by
    obtain ⟨member, after⟩ := List.mem_filter.mp hb
    exact ⟨(sound b member).1, of_decide_eq_true after⟩
  refine ⟨?_, ?_, fun b hb => ?_⟩
  · unfold bringTo
    rw [List.length_map]
    exact (List.length_filter_le _ _).trans room
  · refine List.pairwise_map.mpr ((order.filter _).imp_of_mem fun {x y} hx hy le => ?_)
    rw [(cut x (after x hx).2).1]
    exact le.trans (cut y (after y hy).2).2
  · obtain ⟨a, ha, rfl⟩ := List.mem_map.mp hb
    obtain ⟨soundA, afterA⟩ := after a ha
    refine ⟨?_, (cut a afterA).1.symm ▸ afterA⟩
    split
    · next across => exact Block.trim_sound soundA across afterA
    · exact soundA

/-! ## A clock in its place -/

/-- A clock but for the last position, which a running one may just have reached. -/
structure ClockUnit.Placed (c : ClockUnit) : Prop where
  queue : QueueAfter c.position c.queue
  last : c.position ≤ Config.lastPosition
  value : c.source = .audio → c.value = c.position / 48

/-- The clock's own invariant. -/
def ClockUnit.Sound (c : ClockUnit) : Prop := c.QueueSound ∧ c.AudioSound

theorem ClockUnit.sound_iff {c : ClockUnit} :
    c.Sound ↔ c.Placed ∧ (c.source = .audio → c.run = .running → c.position < Config.lastPosition) := by
  constructor
  · rintro ⟨queue, last, audio⟩
    exact ⟨⟨queue, last, fun h => (audio h).1⟩, fun h => (audio h).2⟩
  · rintro ⟨⟨queue, last, value⟩, running⟩
    exact ⟨queue, last, fun h => ⟨value h, running h⟩⟩

/-- The place of a clock lies in its queue, its position, its source and its value. -/
theorem ClockUnit.Placed.of_same {c d : ClockUnit} (h : c.Placed) (queue : d.queue = c.queue) (position : d.position = c.position)
    (source : d.source = c.source) (value : d.value = c.value) : d.Placed := by
  obtain ⟨hq, hp, hv⟩ := h
  exact ⟨by rw [queue, position]; exact hq, by rw [position]; exact hp, by rw [source, value, position]; exact hv⟩

theorem ClockUnit.Shows.placed {c d : ClockUnit} (h : c.Shows d) (hc : c.Placed) : d.Placed :=
  hc.of_same h.queue h.position h.source h.value

theorem ClockUnit.Placed.of_run {c : ClockUnit} (h : c.Placed) (run : c.run ≠ .running) : c.Sound :=
  ClockUnit.sound_iff.mpr ⟨h, fun _ running => absurd running run⟩

theorem ClockUnit.Placed.before_last {c : ClockUnit} (h : c.Placed) (last : c.position < Config.lastPosition) : c.Sound :=
  ClockUnit.sound_iff.mpr ⟨h, fun _ _ => last⟩

/-- A clock placed at a position of the audio stream. -/
theorem ClockUnit.Placed.of_position {c : ClockUnit} {p : Nat} {queue : List Block} (h : QueueAfter p queue)
    (last : p ≤ Config.lastPosition) : (c.atPosition p queue).Placed := ⟨h, last, fun _ => rfl⟩

theorem ClockUnit.underrunBy_placed {c : ClockUnit} (h : c.Placed) (policy : Policy) : (c.underrunBy policy).Placed := by
  cases policy
  · exact h.of_same rfl rfl rfl rfl
  · exact h.of_same rfl rfl rfl rfl

theorem ClockUnit.underrunBy_sound {c : ClockUnit} (h : c.Placed) (last : c.position < Config.lastPosition) (policy : Policy) :
    (c.underrunBy policy).Sound := by
  refine (ClockUnit.underrunBy_placed h policy).before_last ?_
  cases policy <;> exact last

theorem ClockUnit.heldUp_sound {c : ClockUnit} (h : c.Placed) : c.heldUp.Sound :=
  ClockUnit.Placed.of_run (h.of_same rfl rfl rfl rfl) RunState.noConfusion

/-- What a clock meets at its start leaves it sound. -/
theorem ClockUnit.met_sound {c : ClockUnit} (h : c.Placed) (policy : Policy) : (c.met policy).Sound := by
  unfold ClockUnit.met
  split
  · split
    · exact ClockUnit.heldUp_sound h
    · next before =>
      have last : c.position < Config.lastPosition := lt_of_le_of_ne h.last before
      split
      · exact ClockUnit.underrunBy_sound h last policy
      · exact h.before_last last
  · next still => exact ClockUnit.sound_iff.mpr ⟨h, fun source run => absurd ⟨run, source⟩ still⟩

/-- The clock moved on from before the last position is sound. -/
theorem ClockUnit.movedOn_sound {c : ClockUnit} (h : c.Placed) (last : c.position < Config.lastPosition) (policy : Policy) :
    (c.movedOn policy).Sound := by
  have moved : (c.atPosition (c.position + 1) (queuePast c.queue (c.position + 1))).Placed :=
    .of_position h.queue.past last
  unfold ClockUnit.movedOn
  dsimp only
  split
  · exact ClockUnit.heldUp_sound moved
  · next before =>
    have last : c.position + 1 < Config.lastPosition := lt_of_le_of_ne last before
    split
    · exact ClockUnit.underrunBy_sound moved last policy
    · exact moved.before_last last

/-- A block admitted lies after the play position. -/
theorem ClockUnit.Admits.queueAfter {c : ClockUnit} {b : Block} (h : c.Admits b) (hc : c.Placed) :
    QueueAfter c.position (c.queue ++ [b]) := by
  obtain ⟨room, bound, sound⟩ := h
  obtain ⟨⟨-, order, blocks⟩, -, -⟩ := hc
  have some_frames : b.start < b.stop := by
    unfold Block.stop
    have := List.length_pos_iff.mpr sound.1
    omega
  have before : ∀ a ∈ c.queue, a.stop ≤ b.start := by
    rcases List.eq_nil_or_concat c.queue with empty | ⟨front, last, split⟩
    · rw [empty]; exact fun _ h => nomatch h
    · rw [List.concat_eq_append] at split
      have late : c.lateBound = last.stop := by
        unfold ClockUnit.lateBound queueEnd
        rw [split, List.getLast?_concat]
        rfl
      rw [late] at bound
      intro a ha
      rw [split] at ha order blocks
      rcases List.mem_append.mp ha with ha | ha
      · have step := (List.pairwise_append.mp order).2.2 a ha last (List.mem_singleton.mpr rfl)
        have length := List.length_pos_iff.mpr (blocks last (by simp)).1.1
        unfold Block.stop at bound
        omega
      · rw [List.mem_singleton.mp ha]; exact bound
  refine ⟨by simp; omega, List.pairwise_append.mpr ⟨order, List.pairwise_singleton _ _, fun a ha x hx => ?_⟩, fun a ha => ?_⟩
  · rw [List.mem_singleton.mp hx]; exact before a ha
  · rcases List.mem_append.mp ha with ha | ha
    · exact blocks a ha
    · rw [List.mem_singleton.mp ha]
      refine ⟨sound, lt_of_le_of_lt ?_ some_frames⟩
      cases queue : c.queue with
      | nil =>
        have late : c.lateBound = c.position := by unfold ClockUnit.lateBound; rw [queue]; rfl
        rw [← late]; exact bound
      | cons x rest =>
        have member : x ∈ c.queue := by rw [queue]; exact List.mem_cons_self
        exact (blocks x member).2.le.trans (before x member)

theorem ClockUnit.arrived_same (c : ClockUnit) : c.arrived.queue = c.queue ∧ c.arrived.position = c.position
    ∧ c.arrived.source = c.source ∧ c.arrived.value = c.value := by
  unfold ClockUnit.arrived
  split
  · exact ⟨rfl, rfl, rfl, rfl⟩
  · split <;> exact ⟨rfl, rfl, rfl, rfl⟩

/-- A clock that has taken a block has not reached the last position. -/
theorem ClockUnit.Admits.arrived_sound {c : ClockUnit} {b : Block} (h : c.Admits b) (hc : c.Placed) :
    ({ c with queue := c.queue ++ [b] } : ClockUnit).arrived.Sound := by
  have after := h.queueAfter hc
  have joined : ({ c with queue := c.queue ++ [b] } : ClockUnit).Placed := ⟨after, hc.last, hc.value⟩
  obtain ⟨queue, position, source, value⟩ := ClockUnit.arrived_same { c with queue := c.queue ++ [b] }
  refine (joined.of_same queue position source value).before_last ?_
  rw [position]
  obtain ⟨sound, before⟩ := after.2.2 b (by simp)
  exact lt_of_lt_of_le before sound.2.1

/-- The clock started is placed, whatever it then meets (04 R69). -/
theorem ClockUnit.start_placed {c : ClockUnit} (h : c.Placed) (source : Source) (point : U32) :
    (c.start source point.val).Placed := by
  cases source with
  | internal => exact ⟨h.queue, h.last, fun audio => nomatch audio⟩
  | audio =>
    have last : point.val ≤ 4294967295 := Nat.le_of_lt_succ point.isLt
    exact ⟨h.queue.brought, last, fun _ => rfl⟩

theorem ClockUnit.freezeIn_run (c : ClockUnit) : c.freezeIn.run ≠ .running := by
  unfold ClockUnit.freezeIn
  dsimp only
  split
  · exact RunState.noConfusion
  · assumption

theorem ClockUnit.thawed_sound {c : ClockUnit} (h : c.Sound) (policy : Policy) : (c.thawed policy).Sound := by
  obtain ⟨placed, running⟩ := ClockUnit.sound_iff.mp h
  unfold ClockUnit.thawed
  dsimp only
  split
  · refine ClockUnit.met_sound ?_ policy
    exact placed.of_same rfl rfl rfl rfl
  · next not_stalled =>
    refine ClockUnit.sound_iff.mpr ⟨placed.of_same rfl rfl rfl rfl, fun source run => running source ?_⟩
    cases before : c.run with
    | running => rfl
    | stalled => exact absurd before not_stalled
    | stopped => rw [if_pos before] at run; cases run

theorem ClockUnit.Framed.sound {c d : ClockUnit} {policy : Policy} (h : c.Framed policy d) (hc : c.Sound) : d.Sound := by
  obtain ⟨placed, running⟩ := ClockUnit.sound_iff.mp hc
  have resumed : ({ c with coasting := false } : ClockUnit).Placed := placed.of_same rfl rfl rfl rfl
  cases h with
  | silent _ h =>
    refine ClockUnit.sound_iff.mpr ⟨h.placed placed, fun source run => ?_⟩
    rw [h.position]
    exact running (h.source ▸ source) (h.run ▸ run)
  | empty d _ _ h => exact ClockUnit.met_sound (h.placed resumed) policy
  | moved d run source h =>
    refine ClockUnit.movedOn_sound (h.placed resumed) ?_ policy
    rw [h.position]
    exact running source run

/-- Every change of the clock leaves it sound. -/
theorem ClockChange.sound {m : Manner} {s : State} {c : ClockUnit} (h : ClockChange m s c) (hs : s.clock.Sound) : c.Sound := by
  obtain ⟨placed, -⟩ := ClockUnit.sound_iff.mp hs
  cases h with
  | kept => exact hs
  | stopped =>
    have stopped : s.clock.stop.Placed := placed.of_same rfl rfl rfl rfl
    exact stopped.of_run RunState.noConfusion
  | started _ source point => exact ClockUnit.met_sound (ClockUnit.start_placed placed source point) _
  | block b admits => exact admits.arrived_sound placed
  | tick _ source =>
    exact ClockUnit.sound_iff.mpr
      ⟨⟨placed.queue, placed.last, fun audio => nomatch source.symm.trans audio⟩, fun audio => nomatch source.symm.trans audio⟩
  | framed _ h => exact h.sound hs
  | coasted _ _ _ p place h =>
    have moved : (s.clock.atPosition p (bringTo p s.clock.queue)).Placed :=
      .of_position placed.queue.brought (place ▸ Nat.min_le_right _ _)
    split at h
    · rw [h]; exact ClockUnit.heldUp_sound moved
    · next before =>
      have last : p < Config.lastPosition := lt_of_le_of_ne moved.last before
      rcases h with same | same
      · exact (same.placed moved).before_last (same.position ▸ last)
      · have resumed := moved.of_same (d := { s.clock.atPosition p (bringTo p s.clock.queue) with coasting := false })
          rfl rfl rfl rfl
        exact (same.placed resumed).before_last (same.position ▸ last)
  | emptied =>
    obtain ⟨-, audio⟩ := hs
    exact ⟨QueueAfter.nil _, audio⟩
  | frozen =>
    have frozen : s.clock.freezeIn.Placed := placed.of_same rfl rfl rfl rfl
    exact frozen.of_run s.clock.freezeIn_run
  | thawed => exact ClockUnit.thawed_sound hs _
  | cleared => exact (ClockUnit.Placed.of_run ⟨.nil _, Nat.zero_le _, fun _ => rfl⟩ RunState.noConfusion)

/-! ## The clock runs forward (04 R72) -/

theorem ClockUnit.underrunBy_value (c : ClockUnit) (policy : Policy) : (c.underrunBy policy).value = c.value := by
  cases policy <;> rfl

theorem ClockUnit.met_value (c : ClockUnit) (policy : Policy) : (c.met policy).value = c.value := by
  unfold ClockUnit.met
  split
  · split
    · rfl
    · split
      · exact c.underrunBy_value policy
      · rfl
  · rfl

theorem ClockUnit.movedOn_value (c : ClockUnit) (policy : Policy) : (c.movedOn policy).value = (c.position + 1) / 48 := by
  unfold ClockUnit.movedOn
  dsimp only
  split
  · rfl
  · split
    · rw [ClockUnit.underrunBy_value]; rfl
    · rfl

theorem ClockUnit.thawed_value (c : ClockUnit) (policy : Policy) : (c.thawed policy).value = c.value := by
  unfold ClockUnit.thawed
  dsimp only
  split
  · rw [ClockUnit.met_value]
  · rfl

theorem ClockUnit.Framed.value_le {c d : ClockUnit} {policy : Policy} (h : c.Framed policy d) (hc : c.Placed) :
    c.value ≤ d.value := by
  cases h with
  | silent _ h => exact h.value.ge
  | empty d _ _ h => rw [ClockUnit.met_value, h.value]
  | moved d _ source h =>
    rw [ClockUnit.movedOn_value, h.position, hc.value source]
    exact Nat.div_le_div_right (Nat.le_succ _)

/-- Only a restart lowers the value of the show clock, or a clear. -/
theorem ClockChange.value_le {m : Manner} {s : State} {c : ClockUnit} (h : ClockChange m s c) (plain : m = .plain)
    (hs : s.clock.Sound) : s.clock.value ≤ c.value := by
  obtain ⟨placed, -⟩ := ClockUnit.sound_iff.mp hs
  cases h with
  | started restart => rw [plain] at restart; cases restart
  | cleared other => exact absurd plain other
  | block b => rw [(ClockUnit.arrived_same _).2.2.2]
  | tick => exact Nat.le_succ _
  | framed _ h => exact h.value_le placed
  | coasted _ source _ p place h =>
    have forward : s.clock.value ≤ p / 48 := by
      rw [placed.value source]
      refine Nat.div_le_div_right ?_
      rw [place]
      exact le_min (Nat.le_add_right _ _) placed.last
    split at h
    · rw [h]; exact forward
    · rcases h with same | same
      · rw [same.value]; exact forward
      · rw [same.value]; exact forward
  | thawed => rw [ClockUnit.thawed_value]
  | kept | stopped | emptied | frozen => exact le_refl _

theorem State.frame_value (s : State) : s.frame.clock.value = s.clock.value := by
  have reloaded : s.reloadFrame.clock = s.clock := rfl
  rw [s.frame_clock, State.changeFreeze_clock]
  split
  · rw [reloaded]
  · rw [reloaded]; rfl
  · rw [reloaded]
  · rw [ClockUnit.thawed_value, reloaded]

/-- No stage but a restart lowers the value of the show clock. -/
theorem Stage.value_le {s t : State} (e : Stage s t) (hs : s.clock.Sound) : s.clock.value ≤ t.clock.value := by
  cases e with
  | quiet e _ => exact e.clock.value_le rfl hs
  | settle e =>
    rw [settleIdle_only]
    exact (e.keeps (P := fun u => u.clock.Sound ∧ s.clock.value ≤ u.clock.value)
      (fun e ⟨sound, le⟩ => ⟨e.clock.sound sound, le.trans (e.clock.value_le rfl sound)⟩) ⟨hs, le_refl _⟩).2
  | idleExpiry => exact le_refl _
  | frame => exact s.frame_value.ge

theorem Stage.clockSound {s t : State} (e : Stage s t) (hs : s.clock.Sound) : t.clock.Sound :=
  e.keeps_of_effects (P := fun u => u.clock.Sound) (fun e h => e.clock.sound h) (fun _ _ h => h) hs

theorem Course.value_le {s t : State} (h : Course s t) (hs : s.clock.Sound) : s.clock.value ≤ t.clock.value :=
  (h.keeps (P := fun u => u.clock.Sound ∧ s.clock.value ≤ u.clock.value)
    (fun e ⟨sound, le⟩ => ⟨e.clockSound sound, le.trans (e.value_le sound)⟩) ⟨hs, le_refl _⟩).2

theorem State.anyTrackMoves_of_tracks {s t : State} (h : t.tracks = s.tracks) : t.anyTrackMoves = s.anyTrackMoves := by
  unfold State.anyTrackMoves; rw [h]

theorem State.anyTrackMoves_eq_false {s : State} : s.anyTrackMoves = false ↔ ∀ k, trackMoves (s.track k) = false := by
  have rows := Table.all_rows s.tracks (fun x => !trackMoves x)
  simp only [Bool.not_eq_true'] at rows
  rw [State.anyTrackMoves, List.any_eq_not_all_not, Bool.not_eq_false', rows]
  rfl

theorem State.anyTrackMoves_of_idle {s : State} (h : ∀ k, s.track k = none) : s.anyTrackMoves = false :=
  State.anyTrackMoves_eq_false.mpr fun k => by rw [h k]; rfl

theorem State.postAud_tracks (s : State) (k : NoticeKind) (detail : Nat) : (s.postAud k detail).tracks = s.tracks := by
  have only := s.postAud_only k detail
  unfold OnlyPorts at only
  rw [only]

theorem State.rangeEnd_tracks (s : State) : s.rangeEnd.tracks = s.tracks := s.postAud_tracks _ _

theorem State.meetUnderrun_tracks (s : State) : s.meetUnderrun.tracks = s.tracks := by
  unfold State.meetUnderrun
  dsimp only
  split <;> exact s.postAud_tracks _ _

theorem State.meetStart_tracks (s : State) : s.meetStart.tracks = s.tracks := by
  unfold State.meetStart
  split
  · split
    · exact s.rangeEnd_tracks
    · split
      · exact s.meetUnderrun_tracks
      · rfl
  · rfl

/-- No track moves after a restart. -/
theorem Restart.still {s t : State} (e : Restart s t) : t.anyTrackMoves = false := by
  cases e with
  | settled e =>
    rw [settleIdle_only]
    cases e with
    | startClock source point live still =>
      exact (State.anyTrackMoves_of_tracks (State.meetStart_tracks _)).trans still
    | showReset => exact State.anyTrackMoves_of_idle s.showReset_track
  | powerOn estop held => exact State.anyTrackMoves_of_idle (s.powerOn_track estop held)

/-- Settles O32: every change of the clock leaves it sound, and what lowers its value leaves no track to follow it. -/
theorem stepKeepsClockSoundAndMonotone : Obligations.StepKeepsClockSoundAndMonotone := by
  intro s t sound next
  refine ⟨step_keeps_of_effects (P := State.ClockSound) (fun _ _ _ h => h) (fun _ _ h => h)
    (fun e h => e.clock.sound h) next sound, fun moves => ?_⟩
  rcases step_cases next with ⟨rest, run⟩ | ⟨now, pending, rfl⟩
  · cases run with
    | steady course => exact course.value_le sound
    | restarted before e after tracks =>
      rw [State.anyTrackMoves_of_tracks tracks, e.still] at moves
      cases moves
  · exact le_refl _

end Sys2Proof.Machine

/-!
# What an action makes of each of the four tracks
-/

namespace Sys2Proof.Machine

theorem State.track_setTrack (s : State) (t k : Fin 4) (x : Track) :
    (s.setTrack t x).track k = if k = t then x else s.track k := by
  split
  · next e => subst e; exact s.track_setTrack_self k x
  · next ne => exact s.track_setTrack_ne x (Ne.symm ne)

/-- An action on the four tracks in turn, which makes of each what it finds there, leaves each track what it makes of it. -/
theorem State.eachTrack_track {f : State → Fin 4 → State} {g : State → Track → Track}
    (own : ∀ s t k, (f s t).track k = if k = t then g s (s.track t) else s.track k) (same : ∀ s t x, g (f s t) x = g s x)
    (s : State) (k : Fin 4) : (s.eachTrack f).track k = g s (s.track k) := by
  simp only [State.eachTrack_eq, own, same]
  match k with
  | 0 => rfl
  | 1 => rfl
  | 2 => rfl
  | 3 => rfl

theorem OnlyTracks.cues_eq {s t : State} (h : OnlyTracks s t) : t.cues = s.cues := by
  unfold OnlyTracks at h; rw [h]

theorem State.runningAt_of_clock {s t : State} (h : t.clock = s.clock) (next : Nat) : t.runningAt next = s.runningAt next := by
  unfold State.runningAt State.dueThreshold; rw [h]

theorem State.cueDelta_of_cues {s t : State} (h : t.cues = s.cues) (b : TrackBody) : t.cueDelta b = s.cueDelta b := by
  unfold State.cueDelta; rw [h]

/-! ## A freeze comes into effect (03 R63) -/

/-- The body of a track that a freeze finds. -/
def State.frozenBody (s : State) (b : TrackBody) : TrackBody :=
  match b.phase with
  | .running due _ => { b with reasons := { b.reasons with freeze := true }, phase := .paused (due - s.clock.value) }
  | .waiting _ => { b with reasons := { b.reasons with freeze := true } }
  | .paused _ => { b with reasons := { b.reasons with freeze := true } }
  | .armed => b
  | .faulted _ => b

theorem State.freezeTrack_track (s : State) (t k : Fin 4) :
    (s.freezeTrack t).track k = if k = t then (s.track t).map s.frozenBody else s.track k := by
  have stands : s.track k = if k = t then s.track t else s.track k := by split <;> simp_all
  have told : ∀ (u : State) b r n, (u.setPaused t b r n).track k = if k = t then some { b with reasons := r, phase := .paused n }
      else u.track k := fun u _ _ _ => u.track_setTrack t k _
  unfold State.freezeTrack
  cases h : s.track t with
  | none => rw [h] at stands; exact stands
  | some b =>
    rw [h] at stands
    simp only [Option.map_some, State.frozenBody]
    cases phase : b.phase with
    | running due _ => exact told s _ _ _
    | waiting _ => exact s.track_setTrack t k _
    | paused _ => exact s.track_setTrack t k _
    | armed => exact stands
    | faulted _ => exact stands

theorem State.frozen_tracks (s : State) (k : Fin 4) :
    (s.eachTrack State.freezeTrack).track k = (s.track k).map s.frozenBody :=
  State.eachTrack_track (g := fun u x => x.map u.frozenBody) State.freezeTrack_track (fun u t x => by
    have clock : (u.freezeTrack t).clock = u.clock := (State.freezeTrack_only u t).clock_eq
    have body : (u.freezeTrack t).frozenBody = u.frozenBody := funext fun b => by unfold State.frozenBody; rw [clock]
    rw [body]) s k

/-! ## A freeze is lifted (03 R63) -/

/-- The body of a track that a thaw finds. -/
def State.thawedBody (s : State) (b : TrackBody) : TrackBody :=
  match b.phase with
  | .paused n =>
    if ({ b.reasons with freeze := false } : PauseReasons).isEmpty then
      { b with reasons := noReasons, phase := s.runningAt (s.clock.value + n) }
    else { b with reasons := { b.reasons with freeze := false } }
  | _ => { b with reasons := { b.reasons with freeze := false } }

theorem State.thawTrack_track (s : State) (t k : Fin 4) :
    (s.thawTrack t).track k = if k = t then (s.track t).map s.thawedBody else s.track k := by
  have stands : s.track k = if k = t then s.track t else s.track k := by split <;> simp_all
  have told : ∀ (u : State) b n, (u.setRunning t b n).track k = if k = t then some { b with
      reasons := noReasons, phase := u.runningAt n } else u.track k := fun u _ _ => u.track_setTrack t k _
  unfold State.thawTrack
  cases h : s.track t with
  | none => rw [h] at stands; exact stands
  | some b =>
    simp only [Option.map_some, State.thawedBody]
    cases phase : b.phase with
    | paused n =>
      dsimp only
      split
      · exact told s _ _
      · exact s.track_setTrack t k _
    | _ => exact s.track_setTrack t k _

theorem State.thawed_tracks (s : State) (k : Fin 4) :
    (s.eachTrack State.thawTrack).track k = (s.track k).map s.thawedBody :=
  State.eachTrack_track (g := fun u x => x.map u.thawedBody) State.thawTrack_track (fun u t x => by
    have clock : (u.thawTrack t).clock = u.clock := (State.thawTrack_only u t).clock_eq
    have body : (u.thawTrack t).thawedBody = u.thawedBody := funext fun b => by
      unfold State.thawedBody; simp only [clock, State.runningAt_of_clock clock]
    rw [body]) s k

/-! ## Safety entry (03 R64) -/

/-- The body of a track that safety entry finds. -/
def State.safedBody (s : State) (b : TrackBody) : TrackBody :=
  match b.phase with
  | .running due _ => { b with reasons := { b.reasons with safety := true }, phase := .paused (due - s.clock.value) }
  | .waiting _ => { b with reasons := { b.reasons with safety := true }, phase := .paused (s.cueDelta b) }
  | .paused _ => { b with reasons := { b.reasons with safety := true } }
  | .armed => b
  | .faulted _ => b

theorem State.safeTrack_track (s : State) (t k : Fin 4) :
    (s.safeTrack t).track k = if k = t then (s.track t).map s.safedBody else s.track k := by
  have stands : s.track k = if k = t then s.track t else s.track k := by split <;> simp_all
  have told : ∀ (u : State) b r n, (u.setPaused t b r n).track k = if k = t then some { b with reasons := r, phase := .paused n }
      else u.track k := fun u _ _ _ => u.track_setTrack t k _
  unfold State.safeTrack
  cases h : s.track t with
  | none => rw [h] at stands; exact stands
  | some b =>
    rw [h] at stands
    simp only [Option.map_some, State.safedBody]
    cases phase : b.phase with
    | running due _ => exact told s _ _ _
    | waiting _ => exact told s _ _ _
    | paused _ => exact s.track_setTrack t k _
    | armed => exact stands
    | faulted _ => exact stands

theorem State.safedBody_of {s t : State} (clock : t.clock = s.clock) (cues : t.cues = s.cues) : t.safedBody = s.safedBody :=
  funext fun b => by unfold State.safedBody; simp only [clock, State.cueDelta_of_cues cues]

theorem State.safed_tracks (s : State) (k : Fin 4) :
    (s.eachTrack State.safeTrack).track k = (s.track k).map s.safedBody :=
  State.eachTrack_track (g := fun u x => x.map u.safedBody) State.safeTrack_track (fun u t x => by
    rw [State.safedBody_of (State.safeTrack_only u t).clock_eq (State.safeTrack_only u t).cues_eq]) s k

/-! ## A marker passes (03 R59) -/

/-- The body of a track that a marker's passage finds. -/
def State.passedBody (s : State) (m k : Nat) (b : TrackBody) : TrackBody :=
  match b.phase with
  | .waiting marker =>
    if marker = m then
      if b.reasons.isEmpty then
        { b with stack := b.stack.map (markSeen m), phase := s.runningAt (k + s.cueDelta b) }
      else { b with stack := b.stack.map (markSeen m), phase := .paused (s.cueDelta b) }
    else { b with stack := b.stack.map (markSeen m) }
  | .running _ _ => { b with stack := b.stack.map (markSeen m) }
  | .paused _ => { b with stack := b.stack.map (markSeen m) }
  | .armed => b
  | .faulted _ => b

theorem State.passTrack_track (m n : Nat) (s : State) (t k : Fin 4) :
    (State.passTrack m n s t).track k = if k = t then (s.track t).map (s.passedBody m n) else s.track k := by
  have stands : s.track k = if k = t then s.track t else s.track k := by split <;> simp_all
  have told : ∀ (u : State) x p l, ((u.setTrack t x).deliver p l).track k = if k = t then x else u.track k :=
    fun u _ _ _ => u.track_setTrack t k _
  have delta : ∀ b : TrackBody, s.cueDelta { b with stack := b.stack.map (markSeen m) } = s.cueDelta b := fun _ => rfl
  unfold State.passTrack
  cases h : s.track t with
  | none => rw [h] at stands; exact stands
  | some b =>
    rw [h] at stands
    simp only [Option.map_some, State.passedBody, delta]
    cases phase : b.phase with
    | waiting marker =>
      dsimp only
      split
      · split
        · exact told s _ _ _
        · exact told s _ _ _
      · exact s.track_setTrack t k _
    | running _ _ => exact s.track_setTrack t k _
    | paused _ => exact s.track_setTrack t k _
    | armed => exact stands
    | faulted _ => exact stands

theorem State.markerPassage_track (m n : Nat) (s : State) (k : Fin 4) :
    (s.markerPassage m n).track k = (s.track k).map (s.passedBody m n) :=
  State.eachTrack_track (g := fun u x => x.map (u.passedBody m n)) (State.passTrack_track m n) (fun u t x => by
    have clock : (State.passTrack m n u t).clock = u.clock := (State.passTrack_only m n u t).clock_eq
    have cues : (State.passTrack m n u t).cues = u.cues := (State.passTrack_only m n u t).cues_eq
    have body : (State.passTrack m n u t).passedBody m n = u.passedBody m n := funext fun b => by
      unfold State.passedBody; simp only [State.cueDelta_of_cues cues, State.runningAt_of_clock clock]
    rw [body]) s k

end Sys2Proof.Machine

/-!
# Stalls and due events (03 R57, 04 R67, R72)
-/

namespace Sys2Proof.Machine

/-! ## The stall reasons -/

/-- A started clock is STALLED exactly while it has a stall reason. -/
def ClockUnit.StallsSound (c : ClockUnit) : Prop :=
  c.run ≠ .stopped → (c.run = .stalled ↔ c.underrun = true ∨ c.freeze = true)

theorem ClockUnit.StallsSound.of_same {c d : ClockUnit} (h : c.StallsSound) (run : d.run = c.run) (underrun : d.underrun = c.underrun)
    (freeze : d.freeze = c.freeze) : d.StallsSound := by
  unfold ClockUnit.StallsSound at *
  rw [run, underrun, freeze]
  exact h

theorem ClockUnit.Shows.stallsSound {c d : ClockUnit} (h : c.Shows d) (hc : c.StallsSound) : d.StallsSound :=
  hc.of_same h.run h.underrun h.freeze

theorem ClockUnit.StallsSound.heldUp (c : ClockUnit) : c.heldUp.StallsSound := fun _ => ⟨fun _ => .inl rfl, fun _ => rfl⟩

theorem ClockUnit.StallsSound.started {c : ClockUnit} (run : c.run = startedRun c.underrun c.freeze) : c.StallsSound := fun _ => by
  rw [run]
  unfold startedRun
  cases c.underrun <;> cases c.freeze <;> simp

theorem ClockUnit.StallsSound.underrunBy {c : ClockUnit} (h : c.StallsSound) (policy : Policy) :
    (c.underrunBy policy).StallsSound := by
  cases policy
  · exact h.of_same rfl rfl rfl
  · exact fun _ => ⟨fun _ => .inl rfl, fun _ => rfl⟩

theorem ClockUnit.StallsSound.met {c : ClockUnit} (h : c.StallsSound) (policy : Policy) : (c.met policy).StallsSound := by
  unfold ClockUnit.met
  split
  · split
    · exact .heldUp c
    · split
      · exact h.underrunBy policy
      · exact h
  · exact h

theorem ClockUnit.StallsSound.movedOn {c : ClockUnit} (h : c.StallsSound) (policy : Policy) : (c.movedOn policy).StallsSound := by
  have moved : ∀ p queue, (c.atPosition p queue).StallsSound := fun _ _ => h.of_same rfl rfl rfl
  unfold ClockUnit.movedOn
  dsimp only
  split
  · exact .heldUp _
  · split
    · exact (moved _ _).underrunBy policy
    · exact moved _ _

theorem ClockUnit.StallsSound.arrived {c : ClockUnit} (h : c.StallsSound) : c.arrived.StallsSound := by
  unfold ClockUnit.arrived
  split
  · intro started
    dsimp only at started ⊢
    split at started
    · exact absurd rfl started
    · next running => rw [if_neg running]; exact ClockUnit.StallsSound.started (c := { c with
        underrun := false, run := startedRun false c.freeze }) rfl started
  · split
    · exact h.of_same rfl rfl rfl
    · exact h

/-- Every change of the clock leaves the stall reasons true to the run state. -/
theorem ClockChange.stallsSound {m : Manner} {s : State} {c : ClockUnit} (h : ClockChange m s c) (hs : s.clock.StallsSound) :
    c.StallsSound := by
  cases h with
  | kept => exact hs
  | stopped => exact fun started => absurd rfl started
  | started _ source point =>
    refine ClockUnit.StallsSound.met ?_ _
    cases source <;> exact .started rfl
  | block b => exact ClockUnit.StallsSound.arrived (hs.of_same rfl rfl rfl)
  | tick => exact hs.of_same rfl rfl rfl
  | framed _ h =>
    have resumed : ({ s.clock with coasting := false } : ClockUnit).StallsSound := hs.of_same rfl rfl rfl
    cases h with
    | silent _ h => exact h.stallsSound hs
    | empty d _ _ h => exact (h.stallsSound resumed).met _
    | moved d _ _ h => exact (h.stallsSound resumed).movedOn _
  | coasted _ _ _ p _ h =>
    have moved : (s.clock.atPosition p (bringTo p s.clock.queue)).StallsSound := hs.of_same rfl rfl rfl
    split at h
    · rw [h]; exact .heldUp _
    · rcases h with same | same
      · exact same.stallsSound moved
      · exact same.stallsSound (moved.of_same rfl rfl rfl)
  | emptied => exact hs.of_same rfl rfl rfl
  | frozen =>
    intro started
    refine ⟨fun _ => .inr rfl, fun _ => ?_⟩
    have still := s.clock.freezeIn_run
    cases run : s.clock.freezeIn.run with
    | running => exact absurd run still
    | stalled => rfl
    | stopped => exact absurd run started
  | thawed =>
    have lifted : ({ s.clock with
        freeze := false
        run := if s.clock.run = .stopped then .stopped else startedRun s.clock.underrun false } : ClockUnit).StallsSound :=
      fun started => by
        dsimp only at started ⊢
        split at started
        · exact absurd rfl started
        · next running => rw [if_neg running]; exact ClockUnit.StallsSound.started (c := { s.clock with
            freeze := false, run := startedRun s.clock.underrun false }) rfl started
    unfold ClockUnit.thawed
    dsimp only
    split
    · exact lifted.met _
    · exact lifted
  | cleared => exact fun started => absurd rfl started

/-! ## The freeze, and FREEZE among the stall reasons -/

theorem frozen_field (b : Bool) : KeptByField fun s => s.frozen = b where
  deliver _ _ _ h := h
  supervise _ _ _ _ _ freeze _ h := (congrArg Freeze.isInEffect freeze).trans h
  cause s c _ h := by
    unfold State.addCause
    split
    · unfold State.frozen; rw [s.enterStopping_safety]; exact h
    · exact h
    · exact h
  sweep s t e h := by unfold State.frozen; rw [e.safety_eq]; exact h

theorem OnlyShow.frozen_eq {s t : State} (h : OnlyShow s t) : t.frozen = s.frozen := congrArg (fun r => r.freeze.isInEffect) h.safety_eq

/-- No plain effect brings a freeze into effect or lifts one. -/
theorem Effect.frozen_eq {s t : State} (e : Effect .plain s t) : t.frozen = s.frozen := by
  cases e with
  | claim p ch q wait => exact (s.claimChannel_only p ch q wait).tracks.show.frozen_eq
  | release p ch => exact (s.releaseChannel_only p ch).tracks.show.frozen_eq
  | stage p ch v => exact (s.stage_only p ch v).tracks.show.frozen_eq
  | expireRecall ch => exact (s.expireRecall_only ch).tracks.show.frozen_eq
  | rangeStep r => exact (s.rangeStep_only r).frozen_eq
  | due t => exact (s.takeDue_only t).show.frozen_eq
  | block => exact (audioBlockAction_only ..).frozen_eq
  | clockTick => exact s.clockTick_only.frozen_eq
  | audioFrame => exact s.audioFrame_only.frozen_eq
  | coastTick => exact s.coastTick_only.frozen_eq
  | supervise r _ _ _ freeze => exact congrArg Freeze.isInEffect freeze
  | cause c absent => exact (frozen_field s.frozen).cause s c absent rfl
  | freezeRecord f h => exact h
  | acknowledge p =>
    unfold safetyAckAction State.frozen
    split
    · rfl
    · split
      · rfl
      · dsimp only
        split
        · rw [State.returnToNormal_safety]; rfl
        · rfl
  | reply e => exact (frozen_field s.frozen).endTransmission e s rfl
  | write table bytes index e => exact (frozen_field s.frozen).writeEntry s index e rfl
  | enterSetup => unfold State.frozen; rw [s.enterSetup_safety]
  | _ => rfl

theorem ClockUnit.underrunBy_freeze (c : ClockUnit) (policy : Policy) : (c.underrunBy policy).freeze = c.freeze := by
  cases policy <;> rfl

theorem ClockUnit.met_freeze (c : ClockUnit) (policy : Policy) : (c.met policy).freeze = c.freeze := by
  unfold ClockUnit.met
  split
  · split
    · rfl
    · split
      · exact c.underrunBy_freeze policy
      · rfl
  · rfl

theorem ClockUnit.arrived_freeze (c : ClockUnit) : c.arrived.freeze = c.freeze := by
  unfold ClockUnit.arrived
  split
  · rfl
  · split <;> rfl

theorem ClockUnit.movedOn_freeze (c : ClockUnit) (policy : Policy) : (c.movedOn policy).freeze = c.freeze := by
  unfold ClockUnit.movedOn
  dsimp only
  split
  · rfl
  · split
    · rw [ClockUnit.underrunBy_freeze]; rfl
    · rfl

/-- No plain change of the clock takes FREEZE in or out of the stall reasons. -/
theorem ClockChange.freeze_eq {s : State} {c : ClockUnit} (h : ClockChange .plain s c) : c.freeze = s.clock.freeze := by
  cases h with
  | started restart => cases restart
  | frozen own => cases own
  | thawed own => cases own
  | cleared other => exact absurd rfl other
  | kept | stopped | tick | emptied => rfl
  | block b => rw [ClockUnit.arrived_freeze]
  | framed _ h =>
    cases h with
    | silent _ h => exact h.freeze
    | empty d _ _ h => rw [ClockUnit.met_freeze, h.freeze]
    | moved d _ _ h => rw [ClockUnit.movedOn_freeze, h.freeze]
  | coasted _ _ _ p _ h =>
    split at h
    · rw [h]; rfl
    · rcases h with same | same <;> exact same.freeze

/-- FREEZE is a stall reason exactly while a freeze is in effect. -/
def State.FreezeSound (s : State) : Prop := s.frozen = s.clock.freeze

theorem State.FreezeSound.of_reset {s : State} (frozen : s.frozen = false) (clock : s.clock = ClockUnit.reset) : s.FreezeSound := by
  unfold State.FreezeSound; rw [frozen, clock]; rfl

theorem ClockUnit.thawed_freeze (c : ClockUnit) (policy : Policy) : (c.thawed policy).freeze = false := by
  unfold ClockUnit.thawed
  dsimp only
  split
  · rw [ClockUnit.met_freeze]
  · rfl

theorem ClockUnit.start_freeze (c : ClockUnit) (source : Source) (point : Nat) : (c.start source point).freeze = c.freeze := by
  cases source <;> rfl

theorem State.frame_freezeSound {s : State} (h : s.FreezeSound) : s.frame.FreezeSound := by
  have frozen : s.frame.frozen = s.reloadFrame.changeFreeze.safety.freeze.isInEffect := by
    unfold State.frozen
    rw [s.frame_safety, State.reachStopped_safety, State.evalIdle_safety, (State.shape_only _).safety_eq]
    split <;> rfl
  have safety : s.reloadFrame.safety = s.safety := rfl
  have clock : s.reloadFrame.clock = s.clock := rfl
  unfold State.FreezeSound State.frozen at h
  unfold State.FreezeSound
  rw [frozen, s.frame_clock, State.changeFreeze_clock, State.changeFreeze_safety, safety, clock]
  cases freeze : s.safety.freeze with
  | none => exact h
  | requested p => rfl
  | inEffect p => exact h
  | thawRequested p => dsimp only; rw [ClockUnit.thawed_freeze]; rfl

theorem Effect.freezeSound {m : Manner} {s t : State} (e : Effect m s t) (h : s.FreezeSound) : t.FreezeSound := by
  cases m with
  | plain => exact e.frozen_eq.trans (h.trans e.clock.freeze_eq.symm)
  | restart =>
    cases e with
    | startClock source point live still =>
      refine ((State.meetStart_only _).frozen_eq).trans (h.trans ?_)
      rw [State.meetStart_clock, ClockUnit.met_freeze, State.setClock_clock, ClockUnit.start_freeze]
    | showReset => exact .of_reset (by unfold State.frozen; rw [s.showReset_safety]; rfl) s.showReset_clock
  | own =>
    cases e with
    | expireIdle => exact h
    | frame => exact State.frame_freezeSound h
    | powerOn estop held => exact .of_reset ((frozen_field false).powerOn s estop held rfl) (s.powerOn_clock estop held)

theorem State.stallsSound_iff {s : State} : s.StallsSound ↔ s.clock.StallsSound ∧ s.FreezeSound := by
  exact and_congr_right' Bool.eq_iff_iff.symm

theorem Effect.stallsSound {m : Manner} {s t : State} (e : Effect m s t) (h : s.StallsSound) : t.StallsSound := by
  rw [State.stallsSound_iff] at h ⊢
  exact ⟨e.clock.stallsSound h.1, e.freezeSound h.2⟩

/-! ## When a RUNNING track is due -/

/-- A phase that is not due before its next_due, nor owed an event while the clock stands. -/
def Phase.Timely (c : ClockUnit) : Phase → Prop
  | .running due at_ => due ≤ at_ ∧ (c.run ≠ .running → c.value < at_)
  | _ => True

theorem State.dueSound_iff {s : State} : s.DueSound ↔ ∀ k b, s.track k = some b → b.phase.Timely s.clock := by
  constructor
  · intro h k b hb
    cases phase : b.phase with
    | running due at_ => exact h k b due at_ hb phase
    | _ => trivial
  · intro h k b due at_ hb phase
    have := h k b hb
    rw [phase] at this
    exact this

theorem State.runningAt_timely (s : State) (next : Nat) : (s.runningAt next).Timely s.clock := by
  unfold State.runningAt State.dueThreshold
  split
  · next run => exact ⟨le_refl _, fun halted => absurd run halted⟩
  · exact ⟨le_max_left _ _, fun _ => lt_of_lt_of_le (Nat.lt_succ_self _) (le_max_right _ _)⟩

/-- A clock that goes on, or stands no later, leaves a phase timely. -/
theorem Phase.Timely.eased {c d : ClockUnit} {p : Phase} (h : p.Timely c)
    (e : d.run = .running ∨ c.run ≠ .running ∧ d.value ≤ c.value) : p.Timely d := by
  cases p with
  | running due at_ =>
    obtain ⟨le, stands⟩ := h
    refine ⟨le, fun halted => ?_⟩
    rcases e with run | ⟨before, value⟩
    · exact absurd run halted
    · exact lt_of_le_of_lt value (stands before)
  | _ => trivial

theorem State.DueSound.eased {s t : State} (h : s.DueSound) (tracks : t.tracks = s.tracks)
    (e : t.clock.run = .running ∨ s.clock.run ≠ .running ∧ t.clock.value ≤ s.clock.value) : t.DueSound := by
  rw [State.dueSound_iff] at h ⊢
  intro k b hb
  unfold State.track at h hb
  rw [tracks] at hb
  exact (h k b hb).eased e

theorem State.DueSound.of_same {s t : State} (h : s.DueSound) (tracks : t.tracks = s.tracks) (run : t.clock.run = s.clock.run)
    (value : t.clock.value = s.clock.value) : t.DueSound := by
  by_cases running : s.clock.run = .running
  · exact h.eased tracks (.inl (run.trans running))
  · exact h.eased tracks (.inr ⟨running, value.le⟩)

theorem State.DueSound.setTrack {s : State} (h : s.DueSound) (t : Fin 4) (x : Track)
    (own : ∀ b, x = some b → b.phase.Timely s.clock) : (s.setTrack t x).DueSound := by
  rw [State.dueSound_iff] at h ⊢
  intro k b hb
  rw [State.track_setTrack] at hb
  split at hb
  · exact own b hb
  · exact h k b hb

/-- No RUNNING track: nothing is due. -/
theorem State.DueSound.of_halted {s : State} (h : ∀ k, trackName (s.track k) ≠ .running) : s.DueSound := by
  intro k b due at_ hb phase
  refine absurd ?_ (h k)
  rw [hb, trackName, phase]

theorem State.DueSound.of_still {s : State} (h : s.anyTrackMoves = false) : s.DueSound :=
  .of_halted fun k running => by
    have := State.anyTrackMoves_eq_false.mp h k
    unfold trackMoves at this
    rw [running] at this
    cases this

theorem State.DueSound.of_idle {s : State} (h : ∀ k, s.track k = none) : s.DueSound :=
  .of_halted fun k => by rw [h k]; exact fun e => nomatch e

/-- The clock stops after the due events of its value have been taken. -/
theorem State.DueSound.halted {s t : State} (h : s.DueSound) (tracks : t.tracks = s.tracks) (value : t.clock.value = s.clock.value)
    (run : s.clock.run = .running) (taken : ∀ k, s.dueNow k = none) : t.DueSound := by
  intro k b due at_ hb phase
  have hb : s.track k = some b := by unfold State.track at hb ⊢; rwa [tracks] at hb
  refine ⟨(h k b due at_ hb phase).1, fun _ => ?_⟩
  by_contra reached
  have owed : s.dueNow k = some due := State.dueNow_eq_some.mpr ⟨run, b, at_, hb, phase, by rw [value] at reached; omega⟩
  rw [taken k] at owed
  cases owed

/-! ### Due events and marker passages -/

theorem State.takeDue_dueSound {s : State} (h : s.DueSound) (t : Fin 4) : (s.takeDue t).DueSound := by
  have clock := s.takeDue_clock t
  rcases s.takeDue_cases t with same | ⟨b, due, _, hb, -, -, -, acts, after⟩
  · rw [same]; exact h
  · rw [State.dueSound_iff] at h ⊢
    intro k c hc
    rw [clock]
    by_cases hk : k = t
    · subst hk
      rw [hc] at after
      cases after with
      | goesOn _ next _ _ phase => rw [phase]; exact s.runningAt_timely next
      | stopped _ _ phase => rcases phase with ⟨_, e⟩ | ⟨_, e⟩ <;> rw [e] <;> trivial
    · rw [acts.others k hk] at hc
      exact h k c hc

theorem State.takeOwed_dueSound {s : State} (h : s.DueSound) : s.takeOwed.DueSound :=
  State.eachTrack_keeps (P := State.DueSound) (fun _ t hu => State.takeDue_dueSound hu t) h

theorem State.markerPassage_dueSound {s : State} (h : s.DueSound) (m n : Nat) : (s.markerPassage m n).DueSound := by
  have clock : (s.markerPassage m n).clock = s.clock := (s.eachTrack_only (State.passTrack_only m n)).clock_eq
  rw [State.dueSound_iff] at h ⊢
  intro k c hc
  rw [State.markerPassage_track] at hc
  obtain ⟨b, hb, rfl⟩ := Option.map_eq_some_iff.mp hc
  have before := h k b hb
  rw [clock]
  unfold State.passedBody
  cases phase : b.phase with
  | waiting marker =>
    dsimp only
    split
    · split
      · exact s.runningAt_timely _
      · trivial
    · trivial
  | running due at_ => rw [phase] at before; exact before
  | paused _ => trivial
  | armed => dsimp only; rw [phase]; trivial
  | faulted _ => dsimp only; rw [phase]; trivial

theorem State.passage_dueSound {s : State} (h : s.DueSound) (m n : Nat) : (s.passage m n).DueSound := by
  refine State.eachTrack_keeps (P := State.DueSound) (fun u t hu => ?_) (State.markerPassage_dueSound h m n)
  unfold State.dueAtOnce
  split
  · exact State.takeDue_dueSound hu t
  · exact hu

/-! ### Play -/

/-- The clock runs, and no track is due before its next_due. -/
def State.Playing (s : State) : Prop := s.clock.run = .running ∧ s.DueSound

theorem State.Playing.setClock {s : State} (h : s.Playing) (c : ClockUnit) (run : c.run = .running) : (s.setClock c).Playing :=
  ⟨run, h.2.eased rfl (.inl run)⟩

theorem State.Playing.takeOwed {s : State} (h : s.Playing) : s.takeOwed.Playing :=
  ⟨by rw [s.takeOwed_clock]; exact h.1, State.takeOwed_dueSound h.2⟩

theorem State.Playing.endCoasting {s : State} (h : s.Playing) : s.endCoasting.Playing := by
  have run : s.endCoasting.clock.run = .running := by rw [s.endCoasting_clock]; exact h.1
  exact ⟨run, h.2.eased (State.postAud_tracks _ _ _) (.inl run)⟩

theorem State.Playing.commitGain {s : State} (h : s.Playing) : s.commitGain.Playing := by
  unfold State.commitGain
  split
  · split
    · exact h.setClock { s.clock with gain := _ } h.1
    · exact h
  all_goals exact h

theorem State.Playing.passMarker {s : State} (h : s.Playing) (m : Marker) : (s.passMarker m).Playing := by
  have logged := h.setClock { s.clock with log := appendLog s.clock.log ⟨m.id, m.position / Config.framesPerMs⟩ } h.1
  refine ⟨?_, State.passage_dueSound logged.2 _ _⟩
  unfold State.passMarker
  dsimp only
  rw [(State.passage_only _ _ _).clock_eq]
  exact h.1

theorem State.Playing.playFrame {s : State} (h : s.Playing) (b : Block) : (s.playFrame b).Playing := by
  have committed : (if b.start = s.clock.position then s.commitGain else s).Playing := by
    split
    · exact h.commitGain
    · exact h
  have putOut : ∀ {u : State} o, u.Playing → (u.setClock { u.clock with output := o }).Playing := fun _ hu =>
    hu.setClock _ hu.1
  unfold State.playFrame
  split
  · exact putOut _ h
  · dsimp only
    split
    · split
      · exact (putOut _ committed).passMarker _
      · exact putOut _ committed
    · exact putOut _ committed

theorem State.Playing.advancePlay {s : State} (h : s.Playing) (p : Nat) (queue : List Block) : (s.advancePlay p queue).Playing :=
  h.takeOwed.setClock { s.takeOwed.clock with position := p, value := p / 48, queue := queue } h.takeOwed.1

/-- The clock that stalls once the due events of its value have been taken leaves none owed. -/
theorem State.Playing.rangeEnd {s : State} (h : s.Playing) : s.takeOwed.rangeEnd.DueSound :=
  h.takeOwed.2.halted (State.rangeEnd_tracks _) (by rw [State.rangeEnd_clock]; rfl) h.takeOwed.1 s.takeOwed_dueNow

theorem State.Playing.meetUnderrun {s : State} (h : s.Playing) : s.takeOwed.meetUnderrun.DueSound :=
  h.takeOwed.2.halted (State.meetUnderrun_tracks _) (by rw [State.meetUnderrun_clock, ClockUnit.underrunBy_value]) h.takeOwed.1
    s.takeOwed_dueNow

theorem State.Playing.meetStart {s : State} (h : s.Playing) : s.takeOwed.meetStart.DueSound :=
  h.takeOwed.2.halted (State.meetStart_tracks _) (by rw [State.meetStart_clock, ClockUnit.met_value]) h.takeOwed.1
    s.takeOwed_dueNow

theorem State.Playing.movePlay {s : State} (h : s.Playing) : s.movePlay.DueSound := by
  have moved := h.advancePlay (s.clock.position + 1)
    (s.clock.queue.filter fun b => decide (s.clock.position + 1 < b.stop))
  unfold State.movePlay
  dsimp only
  split
  · exact moved.rangeEnd
  · split
    · exact moved.meetUnderrun
    · exact moved.2

theorem State.DueSound.quiet {s : State} (h : s.DueSound) : (s.setClock s.clock.quiet).DueSound := h.of_same rfl rfl rfl

theorem State.DueSound.audioFrame {s : State} (h : s.DueSound) : s.audioFrame.DueSound := by
  unfold State.audioFrame
  split
  · next playing =>
    have playing : s.Playing := ⟨playing.1, h⟩
    split
    · exact h.quiet
    · have resumed : (if s.clock.coasting = true then s.endCoasting else s).Playing := by
        split
        · exact playing.endCoasting
        · exact playing
      dsimp only
      split
      · exact (resumed.setClock (ClockUnit.quiet _) resumed.1).meetStart
      · exact (resumed.playFrame _).movePlay
  · exact h.quiet

theorem State.DueSound.coastTick {s : State} (h : s.DueSound) : s.coastTick.DueSound := by
  unfold State.coastTick
  split
  · next playing =>
    have playing : s.Playing := ⟨playing.1, h⟩
    dsimp only
    split
    · exact (playing.advancePlay _ _).rangeEnd
    · split
      · exact (playing.advancePlay _ _).endCoasting.2
      · exact (playing.advancePlay _ _).2
  · exact h

theorem State.DueSound.clockTick {s : State} (h : s.DueSound) : s.clockTick.DueSound := by
  unfold State.clockTick
  split
  · next playing =>
    have playing : s.Playing := ⟨playing.1, h⟩
    exact (playing.takeOwed.setClock { s.takeOwed.clock with value := s.takeOwed.clock.value + 1 } playing.takeOwed.1).2
  · exact h

/-! ### AUDIO_BLOCK -/

theorem State.blockArrived_tracks (s : State) : s.blockArrived.tracks = s.tracks := by
  unfold State.blockArrived
  split
  · exact State.postAud_tracks _ _ _
  · split
    · exact State.postAud_tracks _ _ _
    · rfl

theorem audioBlockAction_tracks (p : Port) (start : U32) (count marker offset : U8) (reserved : List Byte)
    (frames : List (Sample × Sample)) (s : State) :
    (audioBlockAction p start count marker offset reserved frames s).1.tracks = s.tracks := by
  unfold audioBlockAction
  split
  · split
    · rfl
    · split
      · rfl
      · split
        · rfl
        · split
          · rfl
          · lift_lets
            extract_lets
            split
            · rfl
            · exact State.blockArrived_tracks _
  · rfl

/-- A running clock has no stall reason. -/
theorem ClockUnit.StallsSound.running {c : ClockUnit} (h : c.StallsSound) (run : c.run = .running) :
    c.underrun = false ∧ c.freeze = false := by
  have calm := (h (by rw [run]; exact RunState.noConfusion)).not.mp (by rw [run]; exact RunState.noConfusion)
  simpa using calm

theorem ClockUnit.StallsSound.arrived_run {c : ClockUnit} (h : c.StallsSound) (run : c.run = .running) :
    c.arrived.run = .running := by
  unfold ClockUnit.arrived
  rw [if_neg (by rw [(h.running run).1]; exact Bool.false_ne_true)]
  split <;> exact run

theorem State.DueSound.block {s t : State} (h : s.DueSound) (stalls : s.clock.StallsSound) (tracks : t.tracks = s.tracks)
    {queue : List Block} (clock : t.clock = ({ s.clock with queue := queue } : ClockUnit).arrived) : t.DueSound := by
  refine h.eased tracks ?_
  by_cases run : s.clock.run = .running
  · have joined : ({ s.clock with queue := queue } : ClockUnit).StallsSound := stalls.of_same rfl rfl rfl
    exact .inl (by rw [clock]; exact joined.arrived_run run)
  · exact .inr ⟨run, by rw [clock, (ClockUnit.arrived_same _).2.2.2]⟩

/-! ### Safety entry and the freeze -/

theorem State.enterStopping_tracks (s : State) (c : Cause) (k : Fin 4) :
    (s.enterStopping c).track k = (s.track k).map s.safedBody := by
  have told : ∀ (t : State) d, (t.tellSafety d).track k = t.track k := fun _ _ => rfl
  have clock : ∀ t : State, t.clockSafetyEntry.track k = t.track k := fun _ => rfl
  have safed := (State.directorySafetyEntry_only (s.setSafety (s.safety.stoppingFor c))).ranges.trans
    (State.rangeSafetyEntry_ranges _)
  rw [State.enterStopping_eq, told, clock, State.takenForStop, State.safed_tracks]
  have cues : (s.setSafety (s.safety.stoppingFor c)).directorySafetyEntry.rangeSafetyEntry.cues = s.cues := by
    unfold OnlyRanges at safed; rw [safed]; rfl
  have tracks : (s.setSafety (s.safety.stoppingFor c)).directorySafetyEntry.rangeSafetyEntry.tracks = s.tracks := by
    unfold OnlyRanges at safed; rw [safed]; rfl
  rw [State.safedBody_of (safed.clock_eq.trans rfl) cues, State.track, tracks]
  rfl

theorem State.safedBody_not_running (s : State) (b : TrackBody) : trackName (some (s.safedBody b)) ≠ .running := by
  unfold State.safedBody trackName
  cases phase : b.phase <;> simp [phase]

theorem State.frozenBody_not_running (s : State) (b : TrackBody) : trackName (some (s.frozenBody b)) ≠ .running := by
  unfold State.frozenBody trackName
  cases phase : b.phase <;> simp [phase]

theorem State.addCause_dueSound {s : State} (h : s.DueSound) (c : Cause) : (s.addCause c).DueSound := by
  unfold State.addCause
  split
  · refine .of_halted fun k => ?_
    rw [s.enterStopping_tracks]
    cases s.track k with
    | none => exact fun e => nomatch e
    | some b => exact s.safedBody_not_running b
  · exact h.of_same rfl rfl rfl
  · exact h.of_same rfl rfl rfl

theorem dueSound_field : KeptByField State.DueSound where
  deliver _ _ _ h := h
  supervise _ _ _ _ _ _ _ h := h
  cause _ c _ h := State.addCause_dueSound h c
  sweep _ _ e h := by unfold OnlySweep at e; rw [e]; exact h

theorem State.thawedBody_timely {s : State} {b : TrackBody} (h : b.phase.Timely s.clock) :
    (s.thawedBody b).phase.Timely s.clock := by
  unfold State.thawedBody
  split
  · next phase =>
    split
    · exact s.runningAt_timely _
    · exact h
  · exact h

theorem State.clockThaw_tracks (s : State) : s.clockThaw.tracks = s.tracks := by
  unfold State.clockThaw
  dsimp only
  split
  · exact State.meetStart_tracks _
  · rfl

/-- A thaw of a clock with its stall reasons true lets no due event fall behind. -/
theorem State.clockThaw_dueSound {s : State} (h : s.DueSound) (stalls : s.clock.StallsSound) : s.clockThaw.DueSound := by
  refine h.eased s.clockThaw_tracks ?_
  rw [s.clockThaw_clock]
  by_cases run : s.clock.run = .running
  · refine .inl ?_
    unfold ClockUnit.thawed
    dsimp only
    rw [if_neg (by rw [run]; exact RunState.noConfusion), if_neg (by rw [run]; exact RunState.noConfusion),
      (stalls.running run).1]
    rfl
  · exact .inr ⟨run, (s.clock.thawed_value _).le⟩

theorem State.changeFreeze_dueSound {s : State} (h : s.DueSound) (stalls : s.clock.StallsSound) : s.changeFreeze.DueSound := by
  unfold State.changeFreeze
  split
  · exact h
  · next p _ =>
    refine .of_halted fun k => ?_
    have clock : ∀ (u : State) c, (u.setClock c).track k = u.track k := fun _ _ => rfl
    have begun : (((s.setFreeze (.inEffect p)).post p .frozen noSubject 0).eachTrack State.freezeTrack).track k
        = (s.track k).map s.frozenBody := State.frozen_tracks _ k
    rw [clock, begun]
    cases s.track k with
    | none => exact fun e => nomatch e
    | some b => exact s.frozenBody_not_running b
  · exact h
  · next p _ =>
    have begun : ((s.setFreeze .none).post p .thawed noSubject 0).clock = s.clock := rfl
    have clock : (((s.setFreeze .none).post p .thawed noSubject 0).eachTrack State.thawTrack).clock = s.clock :=
      (State.eachTrack_only _ State.thawTrack_only).clock_eq
    have tracks : ∀ k, (((s.setFreeze .none).post p .thawed noSubject 0).eachTrack State.thawTrack).track k
        = (s.track k).map s.thawedBody := State.thawed_tracks _
    refine State.clockThaw_dueSound ?_ (by rw [clock]; exact stalls)
    rw [State.dueSound_iff] at h ⊢
    intro k c hc
    rw [tracks] at hc
    obtain ⟨b, hb, rfl⟩ := Option.map_eq_some_iff.mp hc
    rw [clock]
    exact State.thawedBody_timely (h k b hb)

/-- A frame event changes the tracks by the freeze record alone. -/
theorem State.frame_tracks (s : State) : s.frame.tracks = s.reloadFrame.changeFreeze.tracks := by
  have swept : ∀ u : State, u.giveSweep.tracks = u.tracks := fun u => by
    have only := u.giveSweep_only
    unfold OnlySweep at only
    rw [only]
  have mixed : ∀ u : State, u.mix.tracks = u.tracks := fun _ => rfl
  have settled : ∀ u : State, u.reachStopped.tracks = u.tracks := fun u => by unfold State.reachStopped; split <;> rfl
  have evaluated : ∀ u : State, u.evalIdle.tracks = u.tracks := fun u => by rw [State.evalIdle_only]
  have shaped : ∀ u : State, u.shape.tracks = u.tracks := fun u => by
    have only := u.shape_only
    unfold OnlyShaper at only
    rw [only]
  rw [State.frame_eq, swept, mixed, settled, evaluated, shaped]

theorem State.frame_dueSound {s : State} (h : s.DueSound) (stalls : s.clock.StallsSound) : s.frame.DueSound := by
  have reloaded : s.reloadFrame.DueSound := h.of_same rfl rfl rfl
  refine (State.changeFreeze_dueSound reloaded stalls).of_same s.frame_tracks ?_ ?_
  · rw [s.frame_clock]
  · rw [s.frame_clock]

/-! ## Every effect -/

theorem OnlyRanges.dueSound {s t : State} (h : OnlyRanges s t) (hs : s.DueSound) : t.DueSound := by
  unfold OnlyRanges at h; rw [h]; exact hs

theorem Effect.dueSound {m : Manner} {s t : State} (e : Effect m s t) (stalls : s.clock.StallsSound) (h : s.DueSound) : t.DueSound := by
  cases e with
  | claim p ch q wait => exact (s.claimChannel_only p ch q wait).ranges.dueSound h
  | release p ch => exact (s.releaseChannel_only p ch).ranges.dueSound h
  | stage p ch v => exact (s.stage_only p ch v).ranges.dueSound h
  | expireRecall ch => exact (s.expireRecall_only ch).ranges.dueSound h
  | rangeStep r => exact (s.rangeStep_ranges r).dueSound h
  | arm t p cue => exact h.setTrack t _ fun b hb => by cases hb; trivial
  | retime t b r phase track from_ =>
    refine h.setTrack t _ fun c hc => ?_
    cases hc
    rcases from_ with same | ⟨n, paused⟩ | ⟨n, running⟩
    · exact same ▸ State.dueSound_iff.mp h t b track
    · rw [paused]; trivial
    · rw [running]; exact s.runningAt_timely n
  | idle t => exact h.setTrack t none fun b hb => nomatch hb
  | due t => exact State.takeDue_dueSound h t
  | startClock source point live still =>
    exact .of_still ((State.anyTrackMoves_of_tracks (State.meetStart_tracks _)).trans still)
  | stopClock still => exact .of_still still
  | block p start count marker offset reserved frames =>
    have tracks := audioBlockAction_tracks p start count marker offset reserved frames s
    rcases audioBlockAction_clock p start count marker offset reserved frames s with same | ⟨b, -, -, joined⟩
    · exact h.of_same tracks (by rw [same]) (by rw [same])
    · exact h.block stalls tracks joined
  | clockTick => exact h.clockTick
  | audioFrame => exact h.audioFrame
  | coastTick => exact h.coastTick
  | cause c => exact State.addCause_dueSound h c
  | acknowledge p =>
    obtain ⟨-, -, tracks, run, -⟩ := safetyAckAction_idleUnmoved p s
    exact h.of_same tracks run (by rw [safetyAckAction_clock])
  | reply e => exact dueSound_field.endTransmission e s h
  | write table bytes index e => exact dueSound_field.writeEntry s index e (by exact h)
  | enterSetup => exact .of_idle s.enterSetup_track
  | showReset => exact .of_idle s.showReset_track
  | frame => exact State.frame_dueSound h stalls
  | powerOn estop held => exact .of_idle (s.powerOn_track estop held)
  | _ => exact h.of_same rfl rfl rfl

/-- Settles O26: the stall reasons by each change of the clock and of the freeze, the due events by what each effect makes of a
track and of the value it follows. -/
theorem stepKeepsDueEventsSound : Obligations.StepKeepsDueEventsSound := by
  intro s t stalls next
  refine ⟨step_keeps_of_effects (P := State.StallsSound) (fun _ _ _ h => h) (fun _ _ h => h) (fun e h => e.stallsSound h) next stalls,
    fun due => ?_⟩
  exact (step_keeps_of_effects (P := fun u => u.StallsSound ∧ u.DueSound) (fun _ _ _ h => h) (fun _ _ h => h)
    (fun e ⟨stalls, due⟩ => ⟨e.stallsSound stalls, e.dueSound (State.stallsSound_iff.mp stalls).1 due⟩) next ⟨stalls, due⟩).2

end Sys2Proof.Machine

/-!
# CLAIM, RELEASE, SET and the wait queue (01)
-/

namespace Sys2Proof.Machine

/-! ## One request at a port that takes it -/

/-- A request runs its action at the one state in which the request is in progress. -/
theorem State.request_congr {s : State} {p : Port} {kind : Nat} {tag : U8} {act act' : State → State × Answer}
    (h : act (s.beginRequest p kind tag.val) = act' (s.beginRequest p kind tag.val)) :
    s.request p kind tag act = s.request p kind tag act' := by
  unfold State.request
  rw [h]

theorem Answer.responseBody_status (st : Status) : ({ status := st } : Answer).responseBody = .empty := by
  cases st <;> rfl

/-- A block that takes a request, and whose effect does not meet the request in progress, leaves its effect and the answer. -/
theorem State.request_taken {s t : State} {p : Port} (h : s.portReady p) {kind : Nat} (hkind : kind ≠ errorDetailKind) (tag : U8)
    {act : State → State × Answer} {st : Status} (hst : st.isRefusal = false)
    (hact : act (s.beginRequest p kind tag.val) = (t.beginRequest p kind tag.val, { status := st })) :
    s.request p kind tag act = t.answered p kind tag st .empty := by
  rw [State.request_of_portReady h, hact, State.respond_beginRequest]
  simp only [State.respond, State.answered, nextErrorDetail, hst, hkind, if_false, Bool.false_eq_true,
    Answer.responseBody_status]

/-! ## What does not meet a request in progress -/

theorem State.setHold_beginRequest (s : State) (p : Port) (kind tag : Nat) (ch : Fin 177) (h : Hold) :
    (s.beginRequest p kind tag).setHold ch h = (s.setHold ch h).beginRequest p kind tag := rfl

theorem State.setSlot_beginRequest (s : State) (p : Port) (kind tag : Nat) (ch : Fin 177) (v : Option Setpoint) :
    (s.beginRequest p kind tag).setSlot ch v = (s.setSlot ch v).beginRequest p kind tag := rfl

theorem State.setWaiters_beginRequest (s : State) (p : Port) (kind tag : Nat) (l : List WaitEntry) :
    (s.beginRequest p kind tag).setWaiters l = (s.setWaiters l).beginRequest p kind tag := rfl

theorem State.dropWaiter_beginRequest (s : State) (p q : Port) (kind tag : Nat) (ch : Fin 177) :
    (s.beginRequest p kind tag).dropWaiter q ch = (s.dropWaiter q ch).beginRequest p kind tag := rfl

theorem State.reprioritise_beginRequest (s : State) (p q : Port) (kind tag : Nat) (ch : Fin 177) (pr : Nat) :
    (s.beginRequest p kind tag).reprioritise q ch pr = (s.reprioritise q ch pr).beginRequest p kind tag := rfl

theorem State.addWaiter_beginRequest (s : State) (p q : Port) (kind tag : Nat) (ch : Fin 177) (pr : Nat) :
    (s.beginRequest p kind tag).addWaiter q ch pr = (s.addWaiter q ch pr).beginRequest p kind tag := by
  have directory : (s.beginRequest p kind tag).directory = s.directory := rfl
  unfold State.addWaiter
  rw [directory]
  dsimp only
  split <;> rfl

theorem State.postTo_beginRequest (s : State) (p : Port) (kind tag : Nat) (ports : PortSet) (k : NoticeKind) (subject detail : Nat) :
    (s.beginRequest p kind tag).postTo ports k subject detail = (s.postTo ports k subject detail).beginRequest p kind tag := by
  unfold State.postTo
  induction allPorts generalizing s with
  | nil => rfl
  | cons q rest ih =>
    rw [List.foldl_cons, List.foldl_cons]
    split
    · rw [State.post_beginRequest, ih]
    · exact ih s

theorem State.tellWatchers_beginRequest (s : State) (p : Port) (kind tag : Nat) (ch : Fin 177) (detail : Nat) :
    (s.beginRequest p kind tag).tellWatchers ch detail = (s.tellWatchers ch detail).beginRequest p kind tag :=
  s.postTo_beginRequest p kind tag _ _ _ _

theorem State.grant_beginRequest (s : State) (p q : Port) (kind tag : Nat) (ch : Fin 177) (pr : Nat) :
    (s.beginRequest p kind tag).grant ch q pr = (s.grant ch q pr).beginRequest p kind tag :=
  (s.setHold ch (.held q pr)).tellWatchers_beginRequest p kind tag ch _

theorem State.startRecall_beginRequest (s : State) (p q : Port) (kind tag : Nat) (ch : Fin 177) (pr : Nat) :
    (s.beginRequest p kind tag).startRecall ch q pr = (s.startRecall ch q pr).beginRequest p kind tag :=
  State.post_beginRequest (s.setHold ch (.recalling q pr (s.now + s.config.global.recallTimeout))) p q kind tag _ _ _

theorem State.endRecall_beginRequest (s : State) (p q : Port) (kind tag : Nat) (ch : Fin 177) (pr : Nat) :
    (s.beginRequest p kind tag).endRecall ch q pr = (s.endRecall ch q pr).beginRequest p kind tag :=
  State.post_beginRequest (s.setHold ch (.held q pr)) p q kind tag _ _ _

theorem State.transfer_beginRequest (s : State) (p : Port) (kind tag : Nat) (ch : Fin 177) :
    (s.beginRequest p kind tag).transfer ch = (s.transfer ch).beginRequest p kind tag := by
  have waiters : (s.beginRequest p kind tag).waitersOf ch = s.waitersOf ch := rfl
  cases winner : winnerOf (s.waitersOf ch) with
  | none =>
    rw [State.transfer_of_none winner, State.transfer_of_none (waiters ▸ winner), State.setSlot_beginRequest,
      State.setHold_beginRequest, State.tellWatchers_beginRequest]
  | some w =>
    rw [State.transfer_of_some winner, State.transfer_of_some (waiters ▸ winner), State.setSlot_beginRequest,
      State.dropWaiter_beginRequest, State.setHold_beginRequest, State.post_beginRequest, State.tellWatchers_beginRequest]

/-! ## The waiters of a channel as the statements name them -/

theorem State.waitsFor_iff (s : State) (p : Port) (ch : Fin 177) : s.waitsFor p ch ↔ s.waits p ch = true := by
  simp [State.waitsFor, State.waits]

theorem State.outranked_iff (s : State) (ch : Fin 177) (q : Nat) : s.outranked ch q ↔ s.waiterAbove ch q = true := by
  simp [State.outranked, State.waiterAbove, State.waitersOf]

/-- The winner as the statements name it is the one the model finds (01 R6). -/
theorem winnerOf_of_wins {s : State} {w : WaitEntry} (h : s.wins w) {ch : Fin 177} (hch : w.channel = ch) :
    winnerOf (s.waitersOf ch) = some w := by
  subst hch
  obtain ⟨queued, best⟩ := h
  have member : w ∈ s.waitersOf w.channel := List.mem_filter.mpr ⟨queued, decide_eq_true rfl⟩
  cases found : winnerOf (s.waitersOf w.channel) with
  | none => rw [winnerOf_eq_none.mp found] at member; cases member
  | some x =>
    obtain ⟨hx, beats⟩ := winnerOf_eq_some found
    obtain ⟨queuedX, channelX⟩ := List.mem_filter.mp hx
    rcases best x queuedX (of_decide_eq_true channelX) with same | below
    · rw [same]
    · have over_ := beats w member
      unfold WaitEntry.beats at over_
      omega

/-! ## CLAIM -/

/-! ## What a claim makes of a channel -/

theorem State.enqueueClaim_beginRequest (s : State) (p q : Port) (kind tag : Nat) (ch : Fin 177) (pr : Nat) :
    (s.beginRequest p kind tag).enqueueClaim q ch pr = (s.enqueueClaim q ch pr).map (·.beginRequest p kind tag) := by
  have waits : (s.beginRequest p kind tag).waits q ch = s.waits q ch := rfl
  have room : (s.beginRequest p kind tag).waitRoom = s.waitRoom := rfl
  unfold State.enqueueClaim
  rw [waits, room, State.addWaiter_beginRequest, State.reprioritise_beginRequest]
  split
  · rfl
  · split <;> rfl

theorem State.reclaim_beginRequest (s : State) (p q : Port) (kind tag : Nat) (ch : Fin 177) (pr : Nat) :
    (s.beginRequest p kind tag).reclaim ch q pr = (s.reclaim ch q pr).beginRequest p kind tag := by
  have entry : (s.beginRequest p kind tag).entry ch = s.entry ch := rfl
  have above : (s.beginRequest p kind tag).waiterAbove ch pr = s.waiterAbove ch pr := rfl
  unfold State.reclaim
  rw [entry, above, State.startRecall_beginRequest, State.endRecall_beginRequest]
  cases (s.entry ch).hold with
  | free => rfl
  | safed => rfl
  | held x q => dsimp only; split <;> rfl
  | recalling x q d => dsimp only; split <;> rfl

theorem State.claimHeld_beginRequest (s : State) (p q x : Port) (kind tag : Nat) (ch : Fin 177) (r pr : Nat) (wait : Bool) :
    (s.beginRequest p kind tag).claimHeld ch q x r pr wait =
      ((s.claimHeld ch q x r pr wait).1.beginRequest p kind tag, (s.claimHeld ch q x r pr wait).2) := by
  unfold State.claimHeld
  rw [State.enqueueClaim_beginRequest]
  cases s.enqueueClaim q ch pr with
  | none => split_ifs <;> rfl
  | some t =>
    split_ifs
    · simp only [Option.map_some, State.startRecall_beginRequest]
    · rfl
    · rfl

theorem State.claimRecalling_beginRequest (s : State) (p q x : Port) (kind tag : Nat) (ch : Fin 177) (r pr : Nat) (wait : Bool) :
    (s.beginRequest p kind tag).claimRecalling ch q x r pr wait =
      ((s.claimRecalling ch q x r pr wait).1.beginRequest p kind tag, (s.claimRecalling ch q x r pr wait).2) := by
  have above : ∀ t : State, (t.beginRequest p kind tag).waiterAbove ch r = t.waiterAbove ch r := fun _ => rfl
  unfold State.claimRecalling
  rw [State.enqueueClaim_beginRequest]
  cases s.enqueueClaim q ch pr with
  | none => split_ifs <;> rfl
  | some t =>
    split_ifs
    · simp only [Option.map_some, above, State.endRecall_beginRequest]
      split <;> rfl
    · rfl

/-- A claim does not meet the request in progress. -/
theorem State.claimChannel_beginRequest (s : State) (p q : Port) (kind tag : Nat) (ch : Fin 177) (pr : Nat) (wait : Bool) :
    (s.beginRequest p kind tag).claimChannel q ch pr wait =
      ((s.claimChannel q ch pr wait).1.beginRequest p kind tag, (s.claimChannel q ch pr wait).2) := by
  have entry : (s.beginRequest p kind tag).entry ch = s.entry ch := rfl
  unfold State.claimChannel
  rw [entry, State.grant_beginRequest, State.reclaim_beginRequest]
  cases (s.entry ch).hold with
  | free => rfl
  | safed => rfl
  | held x r => dsimp only; rw [State.claimHeld_beginRequest]; split <;> rfl
  | recalling x r d => dsimp only; rw [State.claimRecalling_beginRequest]; split <;> rfl

theorem State.claimChannel_free {s : State} {ch : Fin 177} (h : (s.entry ch).hold = .free) (p : Port) (pr : Nat) (wait : Bool) :
    s.claimChannel p ch pr wait = (s.grant ch p pr, .ok) := by
  simp only [State.claimChannel, h]

theorem State.claimChannel_own {s : State} {ch : Fin 177} {p : Port} (h : (s.entry ch).hold.holder = some p) (pr : Nat)
    (wait : Bool) : s.claimChannel p ch pr wait = (s.reclaim ch p pr, .ok) := by
  unfold State.claimChannel
  cases hold : (s.entry ch).hold with
  | held x q => rw [hold] at h; exact if_pos (Option.some.inj h)
  | recalling x q d => rw [hold] at h; exact if_pos (Option.some.inj h)
  | free => rw [hold] at h; cases h
  | safed => rw [hold] at h; cases h

theorem State.claimChannel_safed {s : State} {ch : Fin 177} (h : (s.entry ch).hold = .safed) (p : Port) (pr : Nat) (wait : Bool) :
    s.claimChannel p ch pr wait = (s, .refuse .safed) := by
  simp only [State.claimChannel, h]

theorem State.claimChannel_held {s : State} {ch : Fin 177} {p x : Port} {q : Nat} (h : (s.entry ch).hold = .held x q)
    (other : x ≠ p) (pr : Nat) (wait : Bool) : s.claimChannel p ch pr wait = s.claimHeld ch p x q pr wait := by
  simp only [State.claimChannel, h, other, if_false]

theorem State.claimChannel_recalling {s : State} {ch : Fin 177} {p x : Port} {q d : Nat}
    (h : (s.entry ch).hold = .recalling x q d) (other : x ≠ p) (pr : Nat) (wait : Bool) :
    s.claimChannel p ch pr wait = s.claimRecalling ch p x q pr wait := by
  simp only [State.claimChannel, h, other, if_false]

section Claim

variable {s : State} {p : Port} (ready : s.portReady p) (tag : U8) (ch : Fin 177) {pr w : U8} (mode : s.unit.mode ≠ .setup)
  (top : pr.val ≤ 3) (ceiling : pr.val ≤ (s.rights p).ceiling) (flag : w.val ≤ 1)
include mode top ceiling flag

/-- A CLAIM that passes the checks is the claim itself. -/
theorem claimAction_passed : claimAction p (channelByte ch) pr w (s.beginRequest p 0x01 tag.val) =
    (s.beginRequest p 0x01 tag.val).claimChannel p ch pr.val (w.val == 1) := by
  rw [claimAction_channelByte, if_neg (Nat.not_lt.mpr top), if_neg (Nat.not_lt.mpr flag), State.beginRequest_unit, if_neg mode,
    State.rights_beginRequest, if_neg (Nat.not_lt.mpr ceiling)]

include ready

theorem exec_claim_taken {t : State} {st : Status} (taken : st.isRefusal = false)
    (h : s.claimChannel p ch pr.val (w.val == 1) = (t, { status := st })) :
    exec (.claim p tag (channelByte ch) pr w) s = .next (t.answered p 0x01 tag st .empty) :=
  congrArg _ (State.request_taken ready (by decide) tag taken
    (by rw [claimAction_passed tag ch mode top ceiling flag, State.claimChannel_beginRequest, h]))

theorem exec_claim_refused {st : Status} (refusal : st.isRefusal = true)
    (h : s.claimChannel p ch pr.val (w.val == 1) = (s, .refuse st)) :
    exec (.claim p tag (channelByte ch) pr w) s = .next (s.refused p 0x01 tag st) :=
  congrArg _ (State.request_refuse ready _ tag refusal
    (by rw [claimAction_passed tag ch mode top ceiling flag, State.claimChannel_beginRequest, h]))

end Claim

/-- Settles O7: the grant of a FREE channel, and the four rows of the holder's own claim. -/
theorem claimOfFreeOrOwnChannel : Obligations.ClaimOfFreeOrOwnChannel := by
  intro s p tag pr w ch q d ready mode top ceiling flag
  have taken : ∀ {t : State}, s.claimChannel p ch pr.val (w.val == 1) = (t, .ok) →
      exec (.claim p tag (channelByte ch) pr w) s = .next (t.ok p 0x01 tag) :=
    exec_claim_taken ready tag ch mode top ceiling flag rfl
  refine ⟨fun free => taken ?_, fun held => ?_, fun recalling => ?_⟩
  · rw [State.claimChannel_free free, State.grant, State.tellWatchers, State.setHold, State.entry_setEntry_self]
  · have own := State.claimChannel_own (p := p) (by rw [held]; rfl) pr.val (w.val == 1)
    refine ⟨fun calm => taken ?_, fun high => taken ?_⟩
    · rw [State.outranked_iff] at calm
      simp only [own, State.reclaim, held, calm, if_false, Bool.false_eq_true]
    · rw [State.outranked_iff] at high
      simp only [own, State.reclaim, held, high, if_true, State.startRecall]
  · have own := State.claimChannel_own (p := p) (by rw [recalling]; rfl) pr.val (w.val == 1)
    refine ⟨fun calm => taken ?_, fun high => taken ?_⟩
    · rw [State.outranked_iff] at calm
      simp only [own, State.reclaim, recalling, calm, if_false, Bool.false_eq_true, State.endRecall]
    · rw [State.outranked_iff] at high
      simp only [own, State.reclaim, recalling, high, if_true]

/-! ## CLAIM of a channel that another port holds -/

theorem State.enqueueClaim_waiting {s : State} {p : Port} {ch : Fin 177} (h : s.waitsFor p ch) (pr : Nat) :
    s.enqueueClaim p ch pr = some (s.reprioritise p ch pr) := if_pos ((s.waitsFor_iff p ch).mp h)

theorem State.enqueueClaim_room {s : State} {p : Port} {ch : Fin 177} (h : ¬ s.waitsFor p ch)
    (room : s.directory.waiters.length < 16) (pr : Nat) : s.enqueueClaim p ch pr = some (s.addWaiter p ch pr) := by
  unfold State.enqueueClaim
  have room : s.waitRoom = true := decide_eq_true room
  rw [if_neg (mt (s.waitsFor_iff p ch).mpr h), if_pos room]

theorem State.enqueueClaim_full {s : State} {p : Port} {ch : Fin 177} (h : ¬ s.waitsFor p ch)
    (full : 16 ≤ s.directory.waiters.length) (pr : Nat) : s.enqueueClaim p ch pr = none := by
  unfold State.enqueueClaim
  have no_room : ¬ s.waitRoom = true := fun room => absurd (of_decide_eq_true room) (Nat.not_lt.mpr full)
  rw [if_neg (mt (s.waitsFor_iff p ch).mpr h), if_neg no_room]

/-- A port queued above a priority stands above it. -/
theorem State.waiterAbove_enqueued {s t : State} {p : Port} {ch : Fin 177} {pr q : Nat} (h : s.enqueueClaim p ch pr = some t)
    (above : q < pr) : t.waiterAbove ch q = true := by
  obtain ⟨-, -, queued⟩ := State.enqueueClaim_queued h
  rw [State.waiterAbove_eq]
  exact List.any_eq_true.mpr ⟨(p, pr), queued.mem, decide_eq_true above⟩

theorem State.claimHeld_above {s t : State} {p : Port} {ch : Fin 177} {pr : Nat} (h : s.enqueueClaim p ch pr = some t) {q : Nat}
    (above : q < pr) (x : Port) (wait : Bool) :
    s.claimHeld ch p x q pr wait = (t.startRecall ch x q, { status := .queued }) := by
  simp only [State.claimHeld, above, if_true, h]

theorem State.claimHeld_waits {s t : State} {p : Port} {ch : Fin 177} {pr : Nat} (h : s.enqueueClaim p ch pr = some t) {q : Nat}
    (below : pr ≤ q) (x : Port) : s.claimHeld ch p x q pr true = (t, { status := .queued }) := by
  simp only [State.claimHeld, Nat.not_lt.mpr below, if_true, if_false, h]

theorem State.claimHeld_full {s : State} {p : Port} {ch : Fin 177} {pr : Nat} (h : s.enqueueClaim p ch pr = none) {q : Nat}
    {wait : Bool} (asks : q < pr ∨ wait = true) (x : Port) : s.claimHeld ch p x q pr wait = (s, .refuse .waitFull) := by
  unfold State.claimHeld
  rw [h]
  split
  · rfl
  · next below => rw [if_pos (asks.resolve_left below)]

theorem State.claimHeld_refused {s : State} {pr q : Nat} (below : pr ≤ q) (p x : Port) (ch : Fin 177) :
    s.claimHeld ch p x q pr false = (s, .refuse .heldHigher) := by
  simp only [State.claimHeld, Nat.not_lt.mpr below, if_false, Bool.false_eq_true]

theorem State.claimRecalling_queued {s t : State} {p : Port} {ch : Fin 177} {pr : Nat} (h : s.enqueueClaim p ch pr = some t)
    {q : Nat} {wait : Bool} (asks : q < pr ∨ wait = true) (x : Port) : s.claimRecalling ch p x q pr wait =
      (if t.waiterAbove ch q then t else t.endRecall ch x q, { status := .queued }) := by
  unfold State.claimRecalling
  rw [h, if_pos (by simpa using asks)]

theorem State.claimRecalling_full {s : State} {p : Port} {ch : Fin 177} {pr : Nat} (h : s.enqueueClaim p ch pr = none) {q : Nat}
    {wait : Bool} (asks : q < pr ∨ wait = true) (x : Port) : s.claimRecalling ch p x q pr wait = (s, .refuse .waitFull) := by
  unfold State.claimRecalling
  rw [h, if_pos (by simpa using asks)]

theorem State.claimRecalling_refused {s : State} {pr q : Nat} (below : pr ≤ q) (p x : Port) (ch : Fin 177) :
    s.claimRecalling ch p x q pr false = (s, .refuse .heldHigher) := by
  simp [State.claimRecalling, below]

theorem State.startRecall_addWaiter (s : State) (p x : Port) (ch : Fin 177) (pr q : Nat) :
    (s.addWaiter p ch pr).startRecall ch x q =
      ((s.addWaiter p ch pr).setHold ch (.recalling x q (s.now + s.config.global.recallTimeout))).post x .recall ch.val 1 := by
  have now : (s.addWaiter p ch pr).now = s.now := by unfold State.addWaiter; dsimp only; split <;> rfl
  have config : (s.addWaiter p ch pr).config = s.config := by unfold State.addWaiter; dsimp only; split <;> rfl
  unfold State.startRecall
  rw [now, config]

/-- A waiter added leaves who stands above a priority. -/
theorem State.outranked_addWaiter {s : State} {ch : Fin 177} {q : Nat} (h : s.outranked ch q) (p : Port) (pr : Nat) :
    (s.addWaiter p ch pr).waiterAbove ch q = true := by
  rw [State.outranked_iff, State.waiterAbove_eq] at h
  rw [State.waiterAbove_eq, State.claims_addWaiter, if_pos rfl, List.any_append, h, Bool.true_or]

section Contested

variable {s : State} {p x : Port} {tag pr w : U8} {ch : Fin 177} {q d : Nat} (ready : s.portReady p) (mode : s.unit.mode ≠ .setup)
  (top : pr.val ≤ 3) (ceiling : pr.val ≤ (s.rights p).ceiling) (flag : w.val ≤ 1) (other : x ≠ p)
include ready mode top ceiling flag other

/-- R11 and R12: the channel HELD. -/
theorem exec_claim_held (hold : (s.entry ch).hold = .held x q) :
    (pr.val ≤ q → w.val = 1 → s.waitsFor p ch → exec (.claim p tag (channelByte ch) pr w) s = .next
        ((s.reprioritise p ch pr).answered p 0x01 tag .queued .empty))
    ∧ (pr.val ≤ q → w.val = 1 → ¬ s.waitsFor p ch → s.directory.waiters.length < 16 →
        exec (.claim p tag (channelByte ch) pr w) s = .next ((s.addWaiter p ch pr).answered p 0x01 tag .queued .empty))
    ∧ (q < pr.val → s.waitsFor p ch → exec (.claim p tag (channelByte ch) pr w) s = .next
        ((((s.reprioritise p ch pr).setHold ch (.recalling x q (s.now + s.config.global.recallTimeout))).post
          x .recall ch 1).answered p 0x01 tag .queued .empty))
    ∧ (q < pr.val → ¬ s.waitsFor p ch → s.directory.waiters.length < 16 →
        exec (.claim p tag (channelByte ch) pr w) s = .next
          ((((s.addWaiter p ch pr).setHold ch (.recalling x q (s.now + s.config.global.recallTimeout))).post
            x .recall ch 1).answered p 0x01 tag .queued .empty)) := by
  have queued : ∀ {t : State}, s.claimHeld ch p x q pr.val (w.val == 1) = (t, { status := .queued }) →
      exec (.claim p tag (channelByte ch) pr w) s = .next (t.answered p 0x01 tag .queued .empty) := fun h =>
    exec_claim_taken ready tag ch mode top ceiling flag rfl ((State.claimChannel_held hold other _ _).trans h)
  refine ⟨fun below wait waiting => queued ?_, fun below wait absent room => queued ?_, fun above waiting => queued ?_,
    fun above absent room => queued ?_⟩
  · rw [wait]; exact State.claimHeld_waits (State.enqueueClaim_waiting waiting _) below x
  · rw [wait]; exact State.claimHeld_waits (State.enqueueClaim_room absent room _) below x
  · exact State.claimHeld_above (State.enqueueClaim_waiting waiting _) above x _
  · rw [State.claimHeld_above (State.enqueueClaim_room absent room _) above, State.startRecall_addWaiter]

/-- R13: the channel RECALLING. -/
theorem exec_claim_recalling (hold : (s.entry ch).hold = .recalling x q d) :
    (q < pr.val → ¬ s.waitsFor p ch → s.directory.waiters.length < 16 →
        exec (.claim p tag (channelByte ch) pr w) s = .next ((s.addWaiter p ch pr).answered p 0x01 tag .queued .empty))
    ∧ (q < pr.val → s.waitsFor p ch →
        exec (.claim p tag (channelByte ch) pr w) s = .next ((s.reprioritise p ch pr).answered p 0x01 tag .queued .empty))
    ∧ (pr.val ≤ q → w.val = 1 → ¬ s.waitsFor p ch → s.directory.waiters.length < 16 → s.outranked ch q →
        exec (.claim p tag (channelByte ch) pr w) s = .next ((s.addWaiter p ch pr).answered p 0x01 tag .queued .empty))
    ∧ (pr.val ≤ q → w.val = 1 → s.waitsFor p ch →
        ((s.reprioritise p ch pr).outranked ch q → exec (.claim p tag (channelByte ch) pr w) s = .next
          ((s.reprioritise p ch pr).answered p 0x01 tag .queued .empty))
        ∧ (¬ (s.reprioritise p ch pr).outranked ch q → exec (.claim p tag (channelByte ch) pr w) s = .next
          ((((s.reprioritise p ch pr).setHold ch (.held x q)).post x .recall ch 0).answered p 0x01 tag .queued .empty))) := by
  have queued : ∀ {t : State}, s.claimRecalling ch p x q pr.val (w.val == 1) = (t, { status := .queued }) →
      exec (.claim p tag (channelByte ch) pr w) s = .next (t.answered p 0x01 tag .queued .empty) := fun h =>
    exec_claim_taken ready tag ch mode top ceiling flag rfl ((State.claimChannel_recalling hold other _ _).trans h)
  refine ⟨fun above absent room => queued ?_, fun above waiting => queued ?_, fun _ wait absent room high => queued ?_,
    fun _ wait waiting => ⟨fun high => queued ?_, fun low => queued ?_⟩⟩
  · have joined := State.enqueueClaim_room absent room pr.val
    rw [State.claimRecalling_queued joined (.inl above), if_pos (State.waiterAbove_enqueued joined above)]
  · have updated := State.enqueueClaim_waiting waiting pr.val
    rw [State.claimRecalling_queued updated (.inl above), if_pos (State.waiterAbove_enqueued updated above)]
  · rw [State.claimRecalling_queued (State.enqueueClaim_room absent room _) (.inr (beq_iff_eq.mpr wait)),
      if_pos (State.outranked_addWaiter high p _)]
  · rw [State.claimRecalling_queued (State.enqueueClaim_waiting waiting _) (.inr (beq_iff_eq.mpr wait)),
      if_pos ((State.outranked_iff _ _ _).mp high)]
  · rw [State.claimRecalling_queued (State.enqueueClaim_waiting waiting _) (.inr (beq_iff_eq.mpr wait)),
      if_neg (mt (State.outranked_iff _ _ _).mpr low)]
    rfl

end Contested

/-- Settles O8: each row of R11 to R13 is a claim queued, updated or refused, and what the recall makes of it. -/
theorem claimOfContestedChannel : Obligations.ClaimOfContestedChannel := by
  intro s p x tag pr w ch q d ready mode top ceiling flag other
  have refused : ∀ {st : Status}, st.isRefusal = true → s.claimChannel p ch pr.val (w.val == 1) = (s, .refuse st) →
      exec (.claim p tag (channelByte ch) pr w) s = .next (s.refused p 0x01 tag st) :=
    exec_claim_refused ready tag ch mode top ceiling flag
  refine ⟨fun hold => ⟨fun below calm => refused rfl ?_, fun asks absent full => refused rfl ?_⟩,
    exec_claim_held ready mode top ceiling flag other, exec_claim_recalling ready mode top ceiling flag other,
    fun hold => refused rfl (State.claimChannel_safed hold p _ _)⟩
  · have calm : (w.val == 1) = false := by rw [calm]; rfl
    rw [calm]
    rcases hold with hold | hold
    · exact (State.claimChannel_held hold other _ _).trans (State.claimHeld_refused below p x ch)
    · exact (State.claimChannel_recalling hold other _ _).trans (State.claimRecalling_refused below p x ch)
  · have none_left := State.enqueueClaim_full absent full pr.val
    have asks : q < pr.val ∨ (w.val == 1) = true := asks.imp_right beq_iff_eq.mpr
    rcases hold with hold | hold
    · exact (State.claimChannel_held hold other _ _).trans (State.claimHeld_full none_left asks x)
    · exact (State.claimChannel_recalling hold other _ _).trans (State.claimRecalling_full none_left asks x)

end Sys2Proof.Machine

/-!
# The wait queue, RELEASE, the recall expiry and SET (01)
-/

namespace Sys2Proof.Machine

/-! ## The wait queue (01 R5) -/

theorem renumber_arrivals (n : Nat) (l : List WaitEntry) : (renumber n l).map WaitEntry.arrival = List.range' n l.length := by
  induction l generalizing n with
  | nil => rfl
  | cons w rest ih => rw [renumber, List.map_cons, ih, List.length_cons, List.range'_succ]

theorem renumber_names (n : Nat) (l : List WaitEntry) : (renumber n l).map (fun w => (w.port, w.channel, w.priority))
    = l.map fun w => (w.port, w.channel, w.priority) := by
  induction l generalizing n with
  | nil => rfl
  | cons w rest ih => rw [renumber, List.map_cons, ih, List.map_cons]

theorem State.addWaiter_below {s : State} (h : s.directory.arrivals ≠ 65535) (p : Port) (ch : Fin 177) (pr : Nat) :
    (s.addWaiter p ch pr).directory =
      ⟨s.directory.entries, s.directory.waiters ++ [⟨p, ch, pr, s.directory.arrivals⟩], s.directory.arrivals + 1⟩ := by
  have h : s.directory.arrivals ≠ Config.lastArrival := h
  unfold State.addWaiter
  dsimp only
  rw [if_neg h]

theorem State.addWaiter_last {s : State} (h : s.directory.arrivals = 65535) (p : Port) (ch : Fin 177) (pr : Nat) :
    (s.addWaiter p ch pr).directory =
      ⟨s.directory.entries, renumber 1 (s.directory.waiters ++ [⟨p, ch, pr, s.directory.arrivals⟩]),
        s.directory.waiters.length + 2⟩ := by
  have h : s.directory.arrivals = Config.lastArrival := h
  unfold State.addWaiter
  dsimp only
  rw [if_pos h, List.length_append]
  rfl

theorem State.reprioritise_of_waitsFor {s : State} {p : Port} {ch : Fin 177} (h : s.waitsFor p ch) (pr : Nat) :
    s.reprioritise p ch pr = { s with directory := ⟨s.directory.entries,
        s.directory.waiters.map (fun w => if w.port = p ∧ w.channel = ch then ⟨p, ch, pr, w.arrival⟩ else w),
        s.directory.arrivals⟩ } := by
  obtain ⟨w, queued, -⟩ := h
  have same : (fun w : WaitEntry => if w.port = p ∧ w.channel = ch then { w with priority := pr } else w)
      = fun w => if w.port = p ∧ w.channel = ch then ⟨p, ch, pr, w.arrival⟩ else w := funext fun x => by
    split
    · next e => rw [e.1, e.2]
    · rfl
  unfold State.reprioritise State.setWaiters
  rw [same, if_neg]
  rw [List.isEmpty_iff, List.map_eq_nil_iff]
  exact List.ne_nil_of_mem queued

theorem WaitEntry.other_iff (w : WaitEntry) (p : Port) (ch : Fin 177) :
    (!(w.port == p && w.channel == ch)) = decide (w.port ≠ p ∨ w.channel ≠ ch) := by
  rw [Bool.eq_iff_iff]
  simp

/-- Settles O9. -/
theorem waitQueueOrder : Obligations.WaitQueueOrder := by
  intro s p ch pr
  have others : (fun w : WaitEntry => !(w.port == p && w.channel == ch)) = fun w => decide (w.port ≠ p ∨ w.channel ≠ ch) :=
    funext fun w => w.other_iff p ch
  refine ⟨fun h => s.addWaiter_below h p ch pr, fun h => ?_, fun h => State.reprioritise_of_waitsFor h pr, rfl, ?_, ?_, rfl⟩
  · rw [State.addWaiter_last h]
    refine ⟨?_, ?_, rfl⟩
    · rw [renumber_arrivals, List.length_append]; rfl
    · rw [renumber_names, List.map_append]; rfl
  · rw [State.dropWaiter, others]; rfl
  · rw [State.dropWaiter, others]
    unfold State.setWaiters
    dsimp only
    refine if_congr ?_ rfl rfl
    rw [List.isEmpty_iff, List.filter_eq_nil_iff]
    simp [not_or]

/-! ## RELEASE and the recall expiry (01 R15 to R19) -/

theorem Table.set_set {α : Type} {n : Nat} (t : Table α n) (i : Fin n) (v w : α) : (t.set i v).set i w = t.set i w :=
  Table.ext_get fun j => by simp only [Table.get_set]; split <;> rfl

theorem State.setEntry_setEntry (s : State) (ch : Fin 177) (e f : ChannelEntry) :
    (s.setEntry ch e).setEntry ch f = s.setEntry ch f := by
  simp only [State.setEntry, Table.set_set]

theorem State.setHold_setSlot (s : State) (ch : Fin 177) (h : Hold) (v : Option Setpoint) :
    (s.setSlot ch v).setHold ch h = s.setEntry ch { s.entry ch with hold := h, slot := v } := by
  simp only [State.setHold, State.setSlot, State.entry_setEntry_self, State.setEntry_setEntry]

theorem State.dropWaiter_setHold (s : State) (p : Port) (ch c : Fin 177) (h : Hold) :
    (s.dropWaiter p ch).setHold c h = (s.setHold c h).dropWaiter p ch := rfl

/-- A transfer with no waiter frees the channel. -/
theorem State.transfer_eq_freed {s : State} {ch : Fin 177} (h : s.waitersOf ch = []) : s.transfer ch = s.freed ch := by
  rw [State.transfer_of_none (winnerOf_eq_none.mpr h), State.setHold_setSlot, State.tellWatchers, State.entry_setEntry_self]
  rfl

/-- A transfer passes the channel to the winner of its waiters. -/
theorem State.transfer_eq_passedTo {s : State} {w : WaitEntry} (h : s.wins w) {ch : Fin 177} (hch : w.channel = ch) :
    s.transfer ch = s.passedTo ch w := by
  have watchers : ∀ (u : State) l k n d, ((u.setWaiters l).post w.port k n d).entry ch = u.entry ch := fun _ _ _ _ _ => rfl
  rw [State.transfer_of_some (winnerOf_of_wins h hch), State.dropWaiter_setHold, State.setHold_setSlot, State.tellWatchers,
    State.dropWaiter, watchers, State.entry_setEntry_self]
  rfl

theorem State.withdraw_beginRequest (s : State) (p q : Port) (kind tag : Nat) (ch : Fin 177) :
    (s.beginRequest p kind tag).withdraw q ch = (s.withdraw q ch).beginRequest p kind tag := by
  have entry : (s.beginRequest p kind tag).entry ch = s.entry ch := rfl
  have above : ∀ (t : State) r, (t.beginRequest p kind tag).waiterAbove ch r = t.waiterAbove ch r := fun _ _ => rfl
  have same : ∀ t : State, (t.beginRequest p kind tag).entry ch = t.entry ch := fun _ => rfl
  unfold State.withdraw
  dsimp only
  rw [State.dropWaiter_beginRequest, same]
  cases ((s.dropWaiter q ch).entry ch).hold with
  | recalling x r d => dsimp only; rw [above, State.endRecall_beginRequest]; split <;> rfl
  | free => rfl
  | held x r => rfl
  | safed => rfl

theorem State.releaseChannel_beginRequest (s : State) (p q : Port) (kind tag : Nat) (ch : Fin 177) :
    (s.beginRequest p kind tag).releaseChannel q ch =
      ((s.releaseChannel q ch).1.beginRequest p kind tag, (s.releaseChannel q ch).2) := by
  have entry : (s.beginRequest p kind tag).entry ch = s.entry ch := rfl
  have waits : (s.beginRequest p kind tag).waits q ch = s.waits q ch := rfl
  unfold State.releaseChannel
  rw [entry, waits, State.transfer_beginRequest, State.withdraw_beginRequest]
  split
  · rfl
  · split <;> rfl

section Release

variable {s : State} {p : Port} (ready : s.portReady p) (tag : U8) (ch : Fin 177) (mode : s.unit.mode ≠ .setup)
include ready mode

theorem exec_release_taken {t : State} (h : s.releaseChannel p ch = (t, .ok)) :
    exec (.release p tag (channelByte ch)) s = .next (t.ok p 0x02 tag) :=
  congrArg _ (State.request_taken ready (by decide) tag (st := .ok) rfl
    (by rw [releaseAction_channelByte, State.beginRequest_unit, if_neg mode, State.releaseChannel_beginRequest, h]; rfl))

theorem exec_release_refused (h : s.releaseChannel p ch = (s, .refuse .notHolder)) :
    exec (.release p tag (channelByte ch)) s = .next (s.refused p 0x02 tag .notHolder) :=
  congrArg _ (State.request_refuse ready _ tag rfl
    (by rw [releaseAction_channelByte, State.beginRequest_unit, if_neg mode, State.releaseChannel_beginRequest, h]))

end Release

theorem State.releaseChannel_holder {s : State} {p : Port} {ch : Fin 177} (h : (s.entry ch).hold.holder = some p) :
    s.releaseChannel p ch = (s.transfer ch, .ok) := if_pos h

theorem State.releaseChannel_waiter {s : State} {p : Port} {ch : Fin 177} (h : (s.entry ch).hold.holder ≠ some p)
    (waits : s.waitsFor p ch) : s.releaseChannel p ch = (s.withdraw p ch, .ok) := by
  unfold State.releaseChannel
  rw [if_neg h, if_pos ((s.waitsFor_iff p ch).mp waits)]

theorem exec_recallExpiry (s : State) (ch : Fin 177) : exec (.recallExpiry ch) s = .next (s.expireRecall ch) := rfl

/-- Settles O10: the transfer of R15 in its three places, and the withdrawal of R17. -/
theorem releaseAndRecallExpiry : Obligations.ReleaseAndRecallExpiry := by
  intro s p x tag ch w q d
  have entry : (s.dropWaiter p ch).entry ch = s.entry ch := rfl
  refine ⟨fun hold reached wins hch => ?_, fun hold ahead => ?_, fun hold => ?_, fun ready mode => ⟨fun holder empty => ?_,
    fun holder wins hch => ?_, fun other waits => ⟨fun hold low => ?_, fun high hold => ?_⟩, fun other absent => ?_⟩⟩
  · have wins : (s.post x .lost ch.val 1).wins w := wins
    rw [exec_recallExpiry, ← State.transfer_eq_passedTo wins hch]
    simp only [State.expireRecall, hold, reached, if_true]
  · rw [exec_recallExpiry]
    simp only [State.expireRecall, hold, Nat.not_le.mpr ahead, if_false]
  · rw [exec_recallExpiry]
    rcases hold with hold | hold | hold <;> simp only [State.expireRecall, hold]
  · exact exec_release_taken ready tag ch mode
      ((State.releaseChannel_holder holder).trans (by rw [State.transfer_eq_freed empty]))
  · exact exec_release_taken ready tag ch mode
      ((State.releaseChannel_holder holder).trans (by rw [State.transfer_eq_passedTo wins hch]))
  · refine exec_release_taken ready tag ch mode ((State.releaseChannel_waiter other waits).trans ?_)
    rw [State.outranked_iff] at low
    simp only [State.withdraw, entry, hold, low, if_false, Bool.false_eq_true]
    rfl
  · refine exec_release_taken ready tag ch mode ((State.releaseChannel_waiter other waits).trans ?_)
    rcases hold with hold | hold
    · have high := (State.outranked_iff _ _ _).mp (high hold)
      simp only [State.withdraw, entry, hold, high, if_true]
    · simp only [State.withdraw, entry, hold]
  · refine exec_release_refused ready tag ch mode ?_
    unfold State.releaseChannel
    rw [if_neg other, if_neg (mt (s.waitsFor_iff p ch).mpr absent)]

/-! ## SET (01 R21, R22) -/

theorem State.stage_beginRequest (s : State) (p q : Port) (kind tag : Nat) (ch : Fin 177) (v : Setpoint) :
    (s.beginRequest p kind tag).stage q ch v = ((s.stage q ch v).1.beginRequest p kind tag, (s.stage q ch v).2) := by
  have entry : (s.beginRequest p kind tag).entry ch = s.entry ch := rfl
  have clamp : (s.beginRequest p kind tag).clamp ch v = s.clamp ch v := rfl
  unfold State.stage
  rw [entry, clamp, State.setSlot_beginRequest]
  cases (s.entry ch).hold with
  | safed => rfl
  | free => dsimp only; split <;> rfl
  | held x q => dsimp only; split <;> rfl
  | recalling x q d => dsimp only; split <;> rfl

theorem State.stage_holder {s : State} {p : Port} {ch : Fin 177} (h : (s.entry ch).hold.holder = some p) (v : Setpoint) :
    s.stage p ch v = (s.setSlot ch (some (s.clamp ch v)), if s.clamp ch v = v then .taken else .clamped) := by
  unfold State.stage
  cases hold : (s.entry ch).hold with
  | safed => rw [hold] at h; cases h
  | free => rw [hold] at h; cases h
  | held x q => rw [hold] at h; exact if_pos h
  | recalling x q d => rw [hold] at h; exact if_pos h

theorem State.stage_safed {s : State} {ch : Fin 177} (h : (s.entry ch).hold = .safed) (p : Port) (v : Setpoint) :
    s.stage p ch v = (s, .safed) := by
  simp only [State.stage, h]

theorem State.stage_other {s : State} {p : Port} {ch : Fin 177} (safed : (s.entry ch).hold ≠ .safed)
    (other : (s.entry ch).hold.holder ≠ some p) (v : Setpoint) : s.stage p ch v = (s, .notHolder) := by
  unfold State.stage
  cases hold : (s.entry ch).hold with
  | safed => exact absurd hold safed
  | free => rfl
  | held x q => rw [hold] at other; exact if_neg other
  | recalling x q d => rw [hold] at other; exact if_neg other

section Set

variable {s : State} {p : Port} (ready : s.portReady p) (tag : U8) (mode : s.unit.mode ≠ .setup) (ch : Fin 177) (v : SetValue)
include ready mode

/-- A SET by the holder stages the setpoint brought within its range, and says whether it changed it. -/
theorem exec_set_holder (h : (s.entry ch).hold.holder = some p) {x y : Setpoint} (hx : SetValue.setpoint v ch = x)
    (hy : s.clamp ch x = y) : exec (.set p tag (channelByte ch) v) s =
      .next ((s.setSlot ch (some y)).answered p 0x03 tag (if y = x then .ok else .clamped) .empty) := by
  subst hx hy
  refine congrArg _ (State.request_taken ready (by decide) tag (by split <;> rfl) ?_)
  rw [setAction_channelByte, State.beginRequest_unit, if_neg mode, State.stage_beginRequest, State.stage_holder h]
  dsimp only
  split <;> rfl

theorem exec_set_refused {st : Status} {r : WriteResult} (hst : st.isRefusal = true) (hr : r.answer = .refuse st)
    (h : s.stage p ch (SetValue.setpoint v ch) = (s, r)) :
    exec (.set p tag (channelByte ch) v) s = .next (s.refused p 0x03 tag st) := by
  refine congrArg _ (State.request_refuse ready _ tag hst ?_)
  rw [setAction_channelByte, State.beginRequest_unit, if_neg mode, State.stage_beginRequest, h, hr]

end Set

theorem State.clamp_height (s : State) (j : Fin 128) (n : Nat) :
    s.clamp (jetChannel j) (.height n) = .height (min n (s.config.jets.get j).hMax) := by
  have jet : jetOf (jetChannel j) = some j := dif_pos j.isLt
  simp only [State.clamp, State.heightLimit, jet]

theorem setpoint_jet (v : SetValue) (j : Fin 128) :
    SetValue.setpoint v (jetChannel j) = .height (v.b0.val * 256 + v.b1.val) := if_pos j.isLt

theorem setpoint_fixture (v : SetValue) (f : Fin 48) : SetValue.setpoint v (fixtureChannel f)
    = .colour ⟨v.b0.val, v.b1.val, v.b2.val, v.b3.val⟩ (v.b4.val * 256 + v.b5.val) := by
  have not_jet : ¬ (fixtureChannel f).val < 128 := Nat.not_lt.mpr (Nat.le_add_right 128 f.val)
  have fixture : (fixtureChannel f).val < 176 := Nat.add_lt_add_left f.isLt 128
  unfold SetValue.setpoint
  rw [if_neg not_jet, if_pos fixture]
  rfl

/-- Settles O11: the setpoint of each class brought within its range, and the two refusals. -/
theorem setStagesTheHoldersSetpoint : Obligations.SetStagesTheHoldersSetpoint := by
  intro s p tag ch j f v ready mode
  refine ⟨fun h => ?_, fun h => ?_, fun h => ?_, fun safed => ?_, fun safed other => ?_⟩
  · rw [exec_set_holder ready tag mode _ v h (setpoint_jet v j) (s.clamp_height j _)]
    simp only [Setpoint.height.injEq, min_eq_left_iff]
  · rw [exec_set_holder ready tag mode _ v h (setpoint_fixture v f) rfl]
    simp only [State.clamp, Setpoint.colour.injEq, true_and, min_eq_left_iff]
  · rw [exec_set_holder ready tag mode _ v h (x := .gain (v.b0.val * 256 + v.b1.val)) rfl rfl]
    simp only [State.clamp, Setpoint.gain.injEq, min_eq_left_iff]
  · exact exec_set_refused ready tag mode ch v rfl rfl (State.stage_safed safed p _)
  · exact exec_set_refused ready tag mode ch v rfl rfl (State.stage_other safed other _)

end Sys2Proof.Machine

/-!
# The Range Engine (02)
-/

namespace Sys2Proof.Machine

/-- A notice to any port leaves the request in progress. -/
theorem State.deliver_beginRequest (s : State) (p q : Port) (kind tag : Nat) (n : Notice) :
    (s.beginRequest p kind tag).deliver q n = (s.deliver q n).beginRequest p kind tag := by
  rcases eq_or_ne p q with rfl | hpq
  · simp only [State.beginRequest, State.deliver, State.port_setPort_self, State.setPort_setPort, LinkPort.receive_with_state]
  · simp only [State.beginRequest, State.deliver, State.port_setPort_ne _ _ hpq, State.port_setPort_ne _ _ hpq.symm,
      State.setPort_comm s _ _ hpq]

/-! ## The requests (02 R31, R38, R42) -/

section OpCode

variable {op : Nat} {pr : Nat} {v : SetValue} {o : RangeOp} (h : rangeOpOf op pr v = some o)
include h

theorem rangeOpOf_priorityBad : o.priorityBad = true ↔ op = 1 ∧ 3 < pr := by
  unfold rangeOpOf at h
  split at h <;> cases h <;> simp [RangeOp.priorityBad]

theorem rangeOpOf_needsMode : o.needsMode = true ↔ op ≤ 3 := by
  unfold rangeOpOf at h
  split at h <;> cases h <;> simp [RangeOp.needsMode]

theorem rangeOpOf_above (ceiling : Nat) : o.above ceiling = true ↔ op = 1 ∧ ceiling < pr := by
  unfold rangeOpOf at h
  split at h <;> cases h <;> simp [RangeOp.above]

end OpCode

theorem rangeOpOf_none {op : Nat} (h : op = 0 ∨ 5 < op) (pr : Nat) (v : SetValue) : rangeOpOf op pr v = none := by
  unfold rangeOpOf
  split <;> first | rfl | omega

/-- A run lies within its class, as the statements write it. -/
theorem run_past_iff (first count : Nat) :
    (count ≠ 0 ∧ first + count - 1 > classEnd first) ↔ 0 < count ∧ (if first < 128 then 128 else 176) < first + count := by
  unfold classEnd
  split <;> omega

theorem resolveRun_eq (first count : Nat) :
    resolveRun first count = if count = 0 then (if first < 128 then 128 else 176) - first else count := by
  unfold resolveRun classEnd
  split
  · split <;> omega
  · rfl

/-- RANGE as the statements write its checks (02 R31). -/
theorem rangeAction_eq {op pr : U8} {v : SetValue} {o : RangeOp} (h : rangeOpOf op.val pr.val v = some o) (p : Port)
    (first count : U8) (s : State) : rangeAction p op first count pr v s =
      if 175 < first.val then (s, .refuse .outOfRange 2)
      else if 0 < count.val ∧ (if first.val < 128 then 128 else 176) < first.val + count.val then (s, .refuse .outOfRange 3)
      else if op.val = 1 ∧ 3 < pr.val then (s, .refuse .outOfRange 4)
      else if op.val ≤ 3 ∧ s.unit.mode = .setup then (s, .refuse .wrongMode)
      else if op.val = 1 ∧ (s.rights p).ceiling < pr.val then (s, .refuse .noRight 4)
      else if s.range.active.isSome then (s, .refuse .busy)
      else ({ s with range := ⟨some ⟨p, o, first.val,
              if count.val = 0 then (if first.val < 128 then 128 else 176) - first.val else count.val, 0, 0, none⟩,
              s.range.last⟩ }, { status := .accepted }) := by
  unfold rangeAction
  simp only [h, run_past_iff, rangeOpOf_priorityBad h, rangeOpOf_needsMode h, rangeOpOf_above h, gt_iff_lt, ← resolveRun_eq]
  rfl

theorem rangeStopAction_beginRequest (s : State) (p : Port) (kind tag : Nat) :
    rangeStopAction p (s.beginRequest p kind tag) =
      ((rangeStopAction p s).1.beginRequest p kind tag, (rangeStopAction p s).2) := by
  have range : (s.beginRequest p kind tag).range = s.range := rfl
  have ended : ∀ r e, (s.beginRequest p kind tag).endRange r e = (s.endRange r e).beginRequest p kind tag := fun r e =>
    State.deliver_beginRequest { s with range := ⟨none, some (r.outcome e)⟩ } p r.issuer kind tag _
  unfold rangeStopAction
  rw [range]
  split
  · rfl
  · rw [ended]
    split <;> rfl

section RangeChecks

variable {s : State} {p : Port} (ready : s.portReady p) {tag op first count pr : U8} {v : SetValue} {o : RangeOp}
  (known : rangeOpOf op.val pr.val v = some o) (low : first.val ≤ 175)
  (within : count.val = 0 ∨ first.val + count.val ≤ if first.val < 128 then 128 else 176)
include ready known low within

/-- The checks of a run that lies within its class, and the record accepted. -/
theorem exec_range_within :
    (op.val = 1 → 3 < pr.val →
        exec (.range p tag op first count pr v) s = .next (s.refusal p 0x10 tag .outOfRange 4 0 0))
    ∧ ((op.val = 1 → pr.val ≤ 3) → op.val ≤ 3 → s.unit.mode = .setup →
        exec (.range p tag op first count pr v) s = .next (s.refused p 0x10 tag .wrongMode))
    ∧ (op.val = 1 → pr.val ≤ 3 → s.unit.mode ≠ .setup → (s.rights p).ceiling < pr.val →
        exec (.range p tag op first count pr v) s = .next (s.refusal p 0x10 tag .noRight 4 0 0))
    ∧ ((op.val = 1 → pr.val ≤ 3 ∧ pr.val ≤ (s.rights p).ceiling) → (op.val ≤ 3 → s.unit.mode ≠ .setup) →
        (s.range.active ≠ none →
          exec (.range p tag op first count pr v) s = .next (s.refused p 0x10 tag .busy))
        ∧ (s.range.active = none → exec (.range p tag op first count pr v) s = .next
          (State.answered { s with range := ⟨some ⟨p, o, first.val,
              if count.val = 0 then (if first.val < 128 then 128 else 176) - first.val else count.val, 0, 0, none⟩,
              s.range.last⟩ }
            p 0x10 tag .accepted .empty))) := by
  have within : ¬ (0 < count.val ∧ (if first.val < 128 then 128 else 176) < first.val + count.val) := by omega
  have refuse : ∀ {st : Status} {field : Nat}, st.isRefusal = true →
      rangeAction p op first count pr v (s.beginRequest p 0x10 tag.val) = (s.beginRequest p 0x10 tag.val, .refuse st field) →
      exec (.range p tag op first count pr v) s = .next (s.refusal p 0x10 tag st field 0 0) := fun hst h =>
    congrArg _ (State.request_refuse ready _ tag hst h)
  have range : (s.beginRequest p 0x10 tag.val).range = s.range := rfl
  refine ⟨fun claim high => refuse rfl ?_, fun low' three setup => refuse rfl ?_, fun claim low' live high => refuse rfl ?_,
    fun top mode => ⟨fun busy => refuse rfl ?_, fun idle => ?_⟩⟩
  · rw [rangeAction_eq known, if_neg (Nat.not_lt.mpr low), if_neg within, if_pos ⟨claim, high⟩]
  · rw [rangeAction_eq known, if_neg (Nat.not_lt.mpr low), if_neg within, if_neg (by omega), State.beginRequest_unit,
      if_pos ⟨three, setup⟩]
  · rw [rangeAction_eq known, if_neg (Nat.not_lt.mpr low), if_neg within, if_neg (by omega), State.beginRequest_unit,
      if_neg (fun h => live h.2), State.rights_beginRequest, if_pos ⟨claim, high⟩]
  · rw [rangeAction_eq known, if_neg (Nat.not_lt.mpr low), if_neg within, if_neg (by omega), State.beginRequest_unit,
      if_neg (fun h => mode h.1 h.2), State.rights_beginRequest, if_neg (by omega), range,
      if_pos (Option.isSome_iff_ne_none.mpr busy)]
  · refine congrArg _ (State.request_accepted ready (by decide) tag ?_)
    rw [rangeAction_eq known, if_neg (Nat.not_lt.mpr low), if_neg within, if_neg (by omega), State.beginRequest_unit,
      if_neg (fun h => mode h.1 h.2), State.rights_beginRequest, if_neg (by omega), range, if_neg (by rw [idle]; decide)]
    rfl

end RangeChecks

/-- Settles O14: the checks of RANGE in order, and what RANGE_STOP makes of the record. -/
theorem rangeRequests : Obligations.RangeRequests := by
  intro s p tag op first count pr v o r ready
  have refuse : ∀ {st : Status} {field : Nat}, st.isRefusal = true →
      rangeAction p op first count pr v (s.beginRequest p 0x10 tag.val) = (s.beginRequest p 0x10 tag.val, .refuse st field) →
      exec (.range p tag op first count pr v) s = .next (s.refusal p 0x10 tag st field 0 0) := fun hst h =>
    congrArg _ (State.request_refuse ready _ tag hst h)
  refine ⟨fun unknown => refuse rfl ?_, rfl, rfl, rfl, rfl, rfl, fun known => ⟨fun high => refuse rfl ?_, fun low some_ past => refuse rfl ?_,
    fun low within => exec_range_within ready known low within⟩, fun idle => ?_, fun active other => ?_, fun active own => ?_, ?_⟩
  · simp only [rangeAction, rangeOpOf_none unknown]
  · rw [rangeAction_eq known, if_pos high]
  · rw [rangeAction_eq known, if_neg (Nat.not_lt.mpr low), if_pos ⟨some_, past⟩]
  · refine congrArg _ (State.request_refuse ready _ tag rfl ?_)
    rw [rangeStopAction_beginRequest]
    simp only [rangeStopAction, idle]
  · refine congrArg _ (State.request_refuse ready _ tag rfl ?_)
    rw [rangeStopAction_beginRequest]
    simp only [rangeStopAction, active, other, if_false]
  · refine congrArg _ (State.request_taken ready (by decide) tag (st := .ok) rfl ?_)
    rw [rangeStopAction_beginRequest]
    simp only [rangeStopAction, active, own, if_true]
    rw [State.endRange, own]
    subst own
    rfl
  · exact congrArg _ (State.request_report ready (by decide) tag rfl)

/-! ## The steps (02 R32 to R37) -/

/-- The record counts a step as the statements write it. -/
theorem State.counted_eq_rangeStepped (t : State) (r : RangeRecord) (acted : Bool) :
    (if (r.tally acted).residual = 0 then
        State.endRange { t with range := { t.range with active := some (r.tally acted) } } (r.tally acted) .complete
      else { t with range := { t.range with active := some (r.tally acted) } }) = t.rangeStepped r acted := by
  have ended : ∀ (u : State) (c : RangeRecord), c.residual = 0 → State.endRange u c .complete = State.post
      { u with range := ⟨none, some ⟨c.issuer, c.op, c.first, c.count, c.done, c.skipped, c.firstSkipped, 0, .complete⟩⟩ }
      c.issuer .rangeDone c.first 0 (.range c.done c.skipped c.firstSkipped 0) := fun u c h => by
    unfold State.endRange RangeRecord.outcome
    rw [h]
    rfl
  cases acted with
  | false =>
    have residual : (r.tally false).residual = r.count - r.done - (r.skipped + 1) := rfl
    simp only [State.rangeStepped, residual, Bool.false_eq_true, if_false]
    split
    · next none_left => exact ended _ _ (residual.trans none_left)
    · rfl
  | true =>
    have residual : (r.tally true).residual = r.count - (r.done + 1) - r.skipped := rfl
    simp only [State.rangeStepped, residual, if_true]
    split
    · next none_left => exact ended _ _ (residual.trans none_left)
    · rfl

/-- A step acts on the next channel and is counted. -/
theorem State.rangeStep_eq (s : State) {r : RangeRecord} {ch : Fin 177} (h : r.first + r.done + r.skipped = ch.val) :
    s.rangeStep r = (s.rangeAct r.issuer r.op ch).1.rangeStepped r (s.rangeAct r.issuer r.op ch).2 := by
  have next : r.next = ch.val := h
  have inside : r.next < 177 := by rw [next]; exact ch.isLt
  have channel : (⟨r.next, inside⟩ : Fin 177) = ch := Fin.ext next
  unfold State.rangeStep
  rw [dif_pos inside, channel]
  exact State.counted_eq_rangeStepped _ r _

section Steps

variable {s : State} {r : RangeRecord} (active : s.range.active = some r)
include active

theorem State.stepIf_other {isOp : RangeOp → Bool} (h : isOp r.op = false) : s.stepIf isOp = s := by
  simp only [State.stepIf, active, h, if_false, Bool.false_eq_true]

theorem State.stepIf_own {isOp : RangeOp → Bool} (h : isOp r.op = true) {ch : Fin 177}
    (next : r.first + r.done + r.skipped = ch.val) {t : State} {acted : Bool}
    (act : s.rangeAct r.issuer r.op ch = (t, acted)) : s.stepIf isOp = t.rangeStepped r acted := by
  simp only [State.stepIf, active, h, if_true]
  rw [s.rangeStep_eq next, act]

end Steps

theorem State.stepIf_idle {s : State} (idle : s.range.active = none) (isOp : RangeOp → Bool) : s.stepIf isOp = s := by
  simp only [State.stepIf, idle]

theorem exec_rclaimStep (s : State) : exec .rclaimStep s = .next (s.stepIf RangeOp.isClaim) := rfl

theorem exec_rreleaseStep (s : State) : exec .rreleaseStep s = .next (s.stepIf fun o => o == .release) := rfl

theorem exec_rsetStep (s : State) : exec .rsetStep s = .next (s.stepIf RangeOp.isSet) := rfl

theorem exec_rwatchStep (s : State) : exec .rwatchStep s = .next (s.stepIf fun o => o == .watch) := rfl

theorem exec_runwatchStep (s : State) : exec .runwatchStep s = .next (s.stepIf fun o => o == .unwatch) := rfl

/-- The table of R33. -/
theorem exec_rclaimStep_cases {s : State} {r : RangeRecord} {p : Nat} {ch : Fin 177} (active : s.range.active = some r)
    (op : r.op = .claim p) (next : r.first + r.done + r.skipped = ch.val) (x : Port) (q d : Nat) :
    ((s.entry ch).hold = .free → exec .rclaimStep s = .next
        (((s.setHold ch (.held r.issuer p)).postTo (s.entry ch).watchers .holderChanged ch
          (holderDetail r.issuer)).rangeStepped r true))
    ∧ ((s.entry ch).hold = .held x q →
        (x = r.issuer → q ≤ p → exec .rclaimStep s = .next ((s.setHold ch (.held x p)).rangeStepped r true))
        ∧ (x ≠ r.issuer ∨ p < q → exec .rclaimStep s = .next (s.rangeStepped r false)))
    ∧ ((s.entry ch).hold = .recalling x q d →
        (x = r.issuer → q ≤ p → ¬ s.outranked ch p →
          exec .rclaimStep s = .next (((s.setHold ch (.held x p)).post x .recall ch 0).rangeStepped r true))
        ∧ (x = r.issuer → q ≤ p → s.outranked ch p →
          exec .rclaimStep s = .next ((s.setHold ch (.recalling x p d)).rangeStepped r true))
        ∧ (x ≠ r.issuer ∨ p < q → exec .rclaimStep s = .next (s.rangeStepped r false)))
    ∧ ((s.entry ch).hold = .safed → exec .rclaimStep s = .next (s.rangeStepped r false)) := by
  have step : ∀ {t : State} {acted : Bool}, s.rangeAct r.issuer (.claim p) ch = (t, acted) →
      exec .rclaimStep s = .next (t.rangeStepped r acted) := fun h => by
    rw [exec_rclaimStep, State.stepIf_own active (by rw [op]; rfl) next (op ▸ h)]
  refine ⟨fun hold => step ?_, fun hold => ⟨fun own le => step ?_, fun other => step ?_⟩, fun hold =>
    ⟨fun own le calm => step ?_, fun own le high => step ?_, fun other => step ?_⟩, fun hold => step ?_⟩
  · simp only [State.rangeAct, hold, State.grant, State.tellWatchers, State.setHold, State.entry_setEntry_self]
  · subst own
    simp only [State.rangeAct, hold, le, and_self, if_true]
  · have not_both : ¬ (x = r.issuer ∧ q ≤ p) := fun ⟨own, le⟩ => other.elim (· own) (Nat.not_lt.mpr le)
    simp only [State.rangeAct, hold, not_both, if_false]
  · subst own
    rw [State.outranked_iff] at calm
    simp only [State.rangeAct, hold, le, and_self, if_true, calm, if_false, Bool.false_eq_true, State.endRecall]
  · subst own
    rw [State.outranked_iff] at high
    simp only [State.rangeAct, hold, le, and_self, if_true, high]
  · have not_both : ¬ (x = r.issuer ∧ q ≤ p) := fun ⟨own, le⟩ => other.elim (· own) (Nat.not_lt.mpr le)
    simp only [State.rangeAct, hold, not_both, if_false]
  · simp only [State.rangeAct, hold]

/-- R35: a step of RSET stages what a SET would. -/
theorem exec_rsetStep_cases {s : State} {r : RangeRecord} {v : SetValue} (active : s.range.active = some r)
    (op : r.op = .set v) (j : Fin 128) (f : Fin 48) (ch : Fin 177) :
    (r.first + r.done + r.skipped = (jetChannel j).val → (s.entry (jetChannel j)).hold.holder = some r.issuer →
          exec .rsetStep s = .next ((s.setSlot (jetChannel j)
            (some (.height (min (v.b0.val * 256 + v.b1.val) (s.config.jets.get j).hMax)))).rangeStepped r true))
    ∧ (r.first + r.done + r.skipped = (fixtureChannel f).val →
          (s.entry (fixtureChannel f)).hold.holder = some r.issuer →
          exec .rsetStep s = .next ((s.setSlot (fixtureChannel f)
            (some (.colour ⟨v.b0, v.b1, v.b2, v.b3⟩ (min (v.b4.val * 256 + v.b5.val) 1000)))).rangeStepped r true))
    ∧ (r.first + r.done + r.skipped = ch.val → (s.entry ch).hold.holder ≠ some r.issuer →
          exec .rsetStep s = .next (s.rangeStepped r false)) := by
  have step : ∀ {c : Fin 177} {t : State} {acted : Bool}, r.first + r.done + r.skipped = c.val →
      s.rangeAct r.issuer (.set v) c = (t, acted) → exec .rsetStep s = .next (t.rangeStepped r acted) := fun next h => by
    rw [exec_rsetStep, State.stepIf_own active (by rw [op]; rfl) next (op ▸ h)]
  have filled : ∀ c : Prop, ∀ [Decidable c], (if c then WriteResult.taken else .clamped).filled = true := fun c _ => by
    split <;> rfl
  refine ⟨fun next holder => step next ?_, fun next holder => step next ?_, fun next other => step next ?_⟩
  · simp only [State.rangeAct, State.stage_holder holder, setpoint_jet, State.clamp_height, filled]
  · simp only [State.rangeAct, State.stage_holder holder, setpoint_fixture, State.clamp]
    exact Prod.ext rfl (filled _)
  · by_cases safed : (s.entry ch).hold = .safed
    · simp only [State.rangeAct, State.stage_safed safed, WriteResult.filled]
    · simp only [State.rangeAct, State.stage_other safed other, WriteResult.filled]

/-- Settles O15: what each op does to its channel, and the count of it. -/
theorem rangeSteps : Obligations.RangeSteps := by
  intro s r ch x p q d j f w v
  have stands : ∀ {t : State}, t = s → Host.Outcome.next t = (.next s : Host.Outcome State Fault Refusal) := fun h => by rw [h]
  refine ⟨fun idle => stands (State.stepIf_idle idle _), fun active other => stands (State.stepIf_other active other),
    fun active op next => exec_rclaimStep_cases active op next x q d, fun idle => ⟨stands (State.stepIf_idle idle _),
      stands (State.stepIf_idle idle _), stands (State.stepIf_idle idle _), stands (State.stepIf_idle idle _)⟩,
    fun active => ⟨fun other => stands (State.stepIf_other active (by simpa using other)),
      fun other => stands (State.stepIf_other active other), fun other => stands (State.stepIf_other active (by simpa using other)),
      fun other => stands (State.stepIf_other active (by simpa using other)),
      fun op => exec_rsetStep_cases active op j f ch, fun next => ⟨fun op => ?_, fun op => ?_, fun op => ?_⟩⟩⟩
  · have step : ∀ {t : State} {acted : Bool}, s.rangeAct r.issuer .release ch = (t, acted) →
        exec .rreleaseStep s = .next (t.rangeStepped r acted) := fun h => by
      rw [exec_rreleaseStep, State.stepIf_own active (by rw [op]; rfl) next (op ▸ h)]
    refine ⟨fun other => step (if_neg other), fun holder empty => step ?_, fun holder wins hch => step ?_⟩
    · rw [← State.transfer_eq_freed empty]; exact if_pos holder
    · rw [← State.transfer_eq_passedTo wins hch]; exact if_pos holder
  · rw [exec_rwatchStep, State.stepIf_own active (by rw [op]; rfl) next (t := s.setWatch r.issuer ch true) (acted := true)
      (by rw [op]; rfl)]
    rfl
  · rw [exec_runwatchStep, State.stepIf_own active (by rw [op]; rfl) next (t := s.setWatch r.issuer ch false) (acted := true)
      (by rw [op]; rfl)]
    rfl

end Sys2Proof.Machine

/-!
# The track requests (03 R53 to R56)
-/

namespace Sys2Proof.Machine

/-! ## A request at its port, and the idle condition after it -/

section InProgress

variable (s : State) (p : Port) (kind tag : Nat)

@[simp] theorem State.track_beginRequest (t : Fin 4) : (s.beginRequest p kind tag).track t = s.track t := rfl

@[simp] theorem State.unit_beginRequest : (s.beginRequest p kind tag).unit = s.unit := rfl

@[simp] theorem State.clock_beginRequest : (s.beginRequest p kind tag).clock = s.clock := rfl

@[simp] theorem State.safety_beginRequest : (s.beginRequest p kind tag).safety = s.safety := rfl

@[simp] theorem State.cues_beginRequest : (s.beginRequest p kind tag).cues = s.cues := rfl

theorem State.setUnit_beginRequest (u : ModeUnit) :
    (s.beginRequest p kind tag).setUnit u = (s.setUnit u).beginRequest p kind tag := rfl

theorem State.setTrack_beginRequest (t : Fin 4) (b : Track) :
    (s.beginRequest p kind tag).setTrack t b = (s.setTrack t b).beginRequest p kind tag := rfl

theorem State.tellTrack_beginRequest (t : Fin 4) (q : Port) (detail : Nat) :
    (s.beginRequest p kind tag).tellTrack t q detail = (s.tellTrack t q detail).beginRequest p kind tag :=
  s.post_beginRequest p q kind tag _ _ _

theorem State.evalIdle_beginRequest : (s.beginRequest p kind tag).evalIdle = s.evalIdle.beginRequest p kind tag := by
  have condition : (s.beginRequest p kind tag).idleCondition = s.idleCondition := rfl
  have global : (s.beginRequest p kind tag).config = s.config := rfl
  unfold State.evalIdle
  rw [condition, global, State.unit_beginRequest]
  split
  · split_ifs <;> rfl
  · split_ifs <;> rfl

theorem settleIdle_beginRequest (t : State) :
    settleIdle (s.beginRequest p kind tag) (t.beginRequest p kind tag) = (settleIdle s t).beginRequest p kind tag := by
  have matters : idleMatters (s.beginRequest p kind tag) (t.beginRequest p kind tag) = idleMatters s t := rfl
  unfold settleIdle
  rw [matters]
  split_ifs
  · exact t.evalIdle_beginRequest p kind tag
  · rfl

end InProgress

theorem idleMatters_self (s : State) : idleMatters s s = false := by
  simp [idleMatters]

theorem settleIdle_self (s : State) : settleIdle s s = s := by
  rw [settleIdle, idleMatters_self]; rfl

section Settled

variable {s : State} {p : Port} (ready : s.portReady p) {kind : Nat} (tag : U8) {act : State → State × Answer}
include ready

/-- A request taken, with the idle condition evaluated after its effect. -/
theorem State.settledRequest_taken {t : State} (hkind : kind ≠ errorDetailKind)
    (hact : act (s.beginRequest p kind tag.val) = (t.beginRequest p kind tag.val, .ok)) :
    s.request p kind tag (settled act) = (settleIdle s t).ok p kind tag :=
  State.request_report ready hkind tag (by rw [settled, hact, settleIdle_beginRequest, Answer.report_empty])

/-- A request refused leaves the idle condition as it was. -/
theorem State.settledRequest_refused {st : Status} {field : Nat} (refusal : st.isRefusal = true)
    (hact : act (s.beginRequest p kind tag.val) = (s.beginRequest p kind tag.val, .refuse st field)) :
    s.request p kind tag (settled act) = s.refusal p kind tag st field 0 0 :=
  State.request_refuse ready kind tag refusal (by rw [settled, hact, settleIdle_self])

end Settled

/-- The due event that follows a request, where the track owed none before it (R57). -/
theorem State.thenDue_of_none {s : State} {t : Fin 4} (h : s.dueNow t = none) (u : State) :
    s.thenDue (trackByte t) u = settleIdle u (u.takeDue t) := by
  refine (dif_pos t.isLt).trans ?_
  have fresh : (s.dueNow t).isNone = true := by rw [h]; rfl
  exact congrArg _ (if_pos fresh)

/-- No due event follows a request that makes none owed. -/
theorem State.thenDue_still {s u : State} {track : U8} (h : ∀ t, s.dueNow t = none → u.dueNow t = none) :
    s.thenDue track u = u := by
  unfold State.thenDue State.dueAtOnce
  split_ifs with inRange fresh
  · rw [State.takeDue_of_none (h _ (Option.isNone_iff_eq_none.mp fresh)), settleIdle_self]
  · exact settleIdle_self u
  · rfl

/-! ## A request refused -/

section Refused

variable {s : State} {p : Port} (ready : s.portReady p) (tag : U8) {track : U8} {st : Status} {field : Nat}
  (refusal : st.isRefusal = true)
include ready refusal

theorem exec_trackArm_refused {cue : U16} (h : trackArmAction p track cue (s.beginRequest p 0x22 tag.val) =
    (s.beginRequest p 0x22 tag.val, .refuse st field)) :
    exec (.trackArm p tag track cue) s = .next (s.refusal p 0x22 tag st field 0 0) :=
  congrArg Host.Outcome.next (State.settledRequest_refused ready tag refusal h)

theorem exec_trackStart_refused (h : trackStartAction p track (s.beginRequest p 0x23 tag.val) =
    (s.beginRequest p 0x23 tag.val, .refuse st field)) :
    exec (.trackStart p tag track) s = .next (s.refusal p 0x23 tag st field 0 0) :=
  congrArg Host.Outcome.next ((congrArg _ (State.settledRequest_refused ready tag refusal h)).trans
    (State.thenDue_still fun _ none => none))

theorem exec_trackPause_refused (h : trackPauseAction p track (s.beginRequest p 0x24 tag.val) =
    (s.beginRequest p 0x24 tag.val, .refuse st field)) :
    exec (.trackPause p tag track) s = .next (s.refusal p 0x24 tag st field 0 0) :=
  congrArg Host.Outcome.next (State.settledRequest_refused ready tag refusal h)

theorem exec_trackResume_refused (h : trackResumeAction p track (s.beginRequest p 0x25 tag.val) =
    (s.beginRequest p 0x25 tag.val, .refuse st field)) :
    exec (.trackResume p tag track) s = .next (s.refusal p 0x25 tag st field 0 0) :=
  congrArg Host.Outcome.next ((congrArg _ (State.settledRequest_refused ready tag refusal h)).trans
    (State.thenDue_still fun _ none => none))

theorem exec_trackStop_refused (h : trackStopAction p track (s.beginRequest p 0x26 tag.val) =
    (s.beginRequest p 0x26 tag.val, .refuse st field)) :
    exec (.trackStop p tag track) s = .next (s.refusal p 0x26 tag st field 0 0) :=
  congrArg Host.Outcome.next (State.settledRequest_refused ready tag refusal h)

end Refused

/-! ## The checks (R53) -/

theorem trackAdmits_iff {p : Port} {track : Track} : trackAdmits p track = true ↔ ∀ c ∈ track.toList, c.owner = p := by
  cases track <;> simp [trackAdmits]

theorem trackAdmits_other {p : Port} {b : TrackBody} (h : b.owner ≠ p) : trackAdmits p (some b) = false := by
  simp [trackAdmits, h]

theorem State.showCanMove_iff (s : State) :
    s.showCanMove = true ↔ s.safety.state = .normal ∧ s.clock.run ≠ .stopped := by
  simp [State.showCanMove]

theorem PortRights.inWindow_iff (r : PortRights) (index : Nat) :
    r.inWindow index = true ↔ r.base ≤ index ∧ index < r.base + r.length := by
  simp [PortRights.inWindow]

section Checks

variable {s : State} {p : Port} {t : Fin 4} {cue : U16}

section Admitted

variable (admitted : trackAdmits p (s.track t) = true)
include admitted

theorem trackArmAction_setup (hcue : cue.val ≤ 2047) (mode : s.unit.mode = .setup) :
    trackArmAction p (trackByte t) cue s = (s, .refuse .wrongMode) := by
  simp [trackArmAction_trackByte, admitted, mode, Nat.not_lt.mpr hcue]

theorem trackArmAction_moving (hcue : cue.val ≤ 2047) (mode : s.unit.mode ≠ .setup)
    (name : trackName (s.track t) ∈ [.running, .waiting, .paused]) :
    trackArmAction p (trackByte t) cue s = (s, .refuse .wrongState 1) := by
  simp only [List.mem_cons, List.not_mem_nil, or_false] at name
  rcases name with name | name | name <;>
    simp [trackArmAction_trackByte, admitted, mode, Nat.not_lt.mpr hcue, name]

theorem trackArmAction_outside (hcue : cue.val ≤ 2047) (mode : s.unit.mode ≠ .setup)
    (name : trackName (s.track t) ∈ [.idle, .armed, .faulted]) (window : (s.rights p).inWindow cue.val = false) :
    trackArmAction p (trackByte t) cue s = (s, .refuse .noRight 2) := by
  simp only [List.mem_cons, List.not_mem_nil, or_false] at name
  rcases name with name | name | name <;>
    simp [trackArmAction_trackByte, admitted, mode, Nat.not_lt.mpr hcue, name, window]

theorem trackStartAction_notLive (mode : s.unit.mode ≠ .live) :
    trackStartAction p (trackByte t) s = (s, .refuse .wrongMode) := by
  simp [trackStartAction_trackByte, admitted, mode]

theorem trackResumeAction_notLive (mode : s.unit.mode ≠ .live) :
    trackResumeAction p (trackByte t) s = (s, .refuse .wrongMode) := by
  simp [trackResumeAction_trackByte, admitted, mode]

theorem trackStartAction_notArmed (mode : s.unit.mode = .live) (name : trackName (s.track t) ≠ .armed) :
    trackStartAction p (trackByte t) s = (s, .refuse .wrongState 1) := by
  rw [trackStartAction_trackByte, if_neg (by simp [admitted]), if_neg (by simp [mode])]
  rcases track : s.track t with _ | b
  · rfl
  · have unarmed : b.phase ≠ .armed := fun armed => name (by simp [track, trackName, armed])
    exact if_neg unarmed

theorem trackPauseAction_still (name : trackName (s.track t) ∈ [.idle, .armed, .faulted]) :
    trackPauseAction p (trackByte t) s = (s, .refuse .wrongState 1) := by
  rw [trackPauseAction_trackByte, if_neg (by simp [admitted])]
  rcases track : s.track t with _ | b
  · rfl
  · rcases phase : b.phase with _ | _ | _ | _ | _ <;> simp [track, trackName, phase] at name ⊢

theorem trackResumeAction_still (mode : s.unit.mode = .live) (name : trackName (s.track t) ∈ [.idle, .armed, .faulted]) :
    trackResumeAction p (trackByte t) s = (s, .refuse .wrongState 1) := by
  rw [trackResumeAction_trackByte, if_neg (by simp [admitted]), if_neg (by simp [mode])]
  rcases track : s.track t with _ | b
  · rfl
  · refine if_neg fun moving => ?_
    rw [track] at name
    simp only [List.mem_cons, List.not_mem_nil, or_false] at name moving
    rcases name with name | name | name <;> simp [name] at moving

theorem trackStartAction_held (mode : s.unit.mode = .live) (held : s.showCanMove = false)
    (name : trackName (s.track t) = .armed) : trackStartAction p (trackByte t) s = (s, .refuse .wrongState) := by
  rw [trackStartAction_trackByte, if_neg (by simp [admitted]), if_neg (by simp [mode])]
  rcases track : s.track t with _ | b
  · simp [track, trackName] at name
  · rcases phase : b.phase with _ | _ | _ | _ | _ <;> simp [track, trackName, phase, held] at name ⊢

theorem trackResumeAction_held (mode : s.unit.mode = .live) (held : s.showCanMove = false)
    (name : trackName (s.track t) ∈ [.running, .waiting, .paused]) :
    trackResumeAction p (trackByte t) s = (s, .refuse .wrongState) := by
  rw [trackResumeAction_trackByte, if_neg (by simp [admitted]), if_neg (by simp [mode])]
  rcases track : s.track t with _ | b
  · simp [track, trackName] at name
  · rw [track] at name
    simp [name, held]

end Admitted

section NotAdmitted

variable (other : trackAdmits p (s.track t) = false)
include other

theorem trackArmAction_other (hcue : cue.val ≤ 2047) :
    trackArmAction p (trackByte t) cue s = (s, .refuse .noRight 1) := by
  simp [trackArmAction_trackByte, other, Nat.not_lt.mpr hcue]

theorem trackStartAction_other : trackStartAction p (trackByte t) s = (s, .refuse .noRight 1) := by
  simp [trackStartAction_trackByte, other]

theorem trackPauseAction_other : trackPauseAction p (trackByte t) s = (s, .refuse .noRight 1) := by
  simp [trackPauseAction_trackByte, other]

theorem trackResumeAction_other : trackResumeAction p (trackByte t) s = (s, .refuse .noRight 1) := by
  simp [trackResumeAction_trackByte, other]

end NotAdmitted

theorem trackStopAction_other {b : TrackBody} (track : s.track t = some b) (owner : b.owner ≠ p)
    (right : (s.rights p).safety = false) : trackStopAction p (trackByte t) s = (s, .refuse .noRight 1) := by
  simp [trackStopAction_trackByte, track, owner, right]

theorem trackStopAction_idle (name : trackName (s.track t) = .idle) :
    trackStopAction p (trackByte t) s = (s, .refuse .wrongState 1) := by
  rw [trackStopAction_trackByte]
  rcases track : s.track t with _ | b
  · rfl
  · rcases phase : b.phase with _ | _ | _ | _ | _ <;> simp [track, trackName, phase] at name

end Checks

/-- Check 1: no track has the number, whatever the request. -/
theorem exec_noTrack {s : State} {p : Port} (ready : s.portReady p) (tag : U8) {track : U8} (h : 4 ≤ track.val) (cue : U16) :
    exec (.trackArm p tag track cue) s = .next (s.refusal p 0x22 tag .outOfRange 1 0 0)
      ∧ exec (.trackStart p tag track) s = .next (s.refusal p 0x23 tag .outOfRange 1 0 0)
      ∧ exec (.trackPause p tag track) s = .next (s.refusal p 0x24 tag .outOfRange 1 0 0)
      ∧ exec (.trackResume p tag track) s = .next (s.refusal p 0x25 tag .outOfRange 1 0 0)
      ∧ exec (.trackStop p tag track) s = .next (s.refusal p 0x26 tag .outOfRange 1 0 0) :=
  have past : ¬ track.val < 4 := Nat.not_lt.mpr h
  ⟨exec_trackArm_refused ready tag rfl (dif_neg past), exec_trackStart_refused ready tag rfl (dif_neg past),
    exec_trackPause_refused ready tag rfl (dif_neg past), exec_trackResume_refused ready tag rfl (dif_neg past),
    exec_trackStop_refused ready tag rfl (dif_neg past)⟩

/-- Settles O18: check 1 for every request at once, then each later check by the lemma of its request. -/
theorem trackChecks : Obligations.TrackChecks := by
  intro s p tag track cue t b ready
  refine ⟨fun past => exec_noTrack ready tag past cue, fun hcue => ?_, fun track owner => ?_, fun owned => ?_⟩
  · exact exec_trackArm_refused ready tag rfl (by rw [trackArmAction_trackByte, if_pos hcue])
  · have other : trackAdmits p (s.track t) = false := by rw [track]; exact trackAdmits_other owner
    exact ⟨fun hcue => exec_trackArm_refused ready tag rfl (trackArmAction_other other hcue),
      exec_trackStart_refused ready tag rfl (trackStartAction_other other),
      exec_trackPause_refused ready tag rfl (trackPauseAction_other other),
      exec_trackResume_refused ready tag rfl (trackResumeAction_other other),
      fun right => exec_trackStop_refused ready tag rfl (trackStopAction_other track owner right)⟩
  · have admitted : trackAdmits p (s.track t) = true := trackAdmits_iff.mpr owned
    refine ⟨fun hcue mode => exec_trackArm_refused ready tag rfl (trackArmAction_setup admitted hcue mode),
      fun mode => ⟨exec_trackStart_refused ready tag rfl (trackStartAction_notLive admitted mode),
        exec_trackResume_refused ready tag rfl (trackResumeAction_notLive admitted mode)⟩,
      fun hcue mode name => exec_trackArm_refused ready tag rfl (trackArmAction_moving admitted hcue mode name),
      fun mode name => exec_trackStart_refused ready tag rfl (trackStartAction_notArmed admitted mode name),
      fun name => ⟨exec_trackPause_refused ready tag rfl (trackPauseAction_still admitted name),
        fun mode => exec_trackResume_refused ready tag rfl (trackResumeAction_still admitted mode name)⟩,
      fun name => exec_trackStop_refused ready tag rfl (trackStopAction_idle name),
      fun hcue mode name window => exec_trackArm_refused ready tag rfl
        (trackArmAction_outside admitted hcue mode name (Bool.eq_false_iff.mpr fun h => window ((PortRights.inWindow_iff ..).mp h))),
      fun mode held => ?_⟩
    have standing : s.showCanMove = false := by
      rcases held with safety | clock
      · exact Bool.eq_false_iff.mpr fun h => safety ((s.showCanMove_iff).mp h).1
      · exact Bool.eq_false_iff.mpr fun h => ((s.showCanMove_iff).mp h).2 clock
    exact ⟨fun name => exec_trackStart_refused ready tag rfl (trackStartAction_held admitted mode standing name),
      fun name => exec_trackResume_refused ready tag rfl (trackResumeAction_held admitted mode standing name)⟩

end Sys2Proof.Machine

/-!
# The track requests once their checks pass (03 R52, R54 to R57)
-/

namespace Sys2Proof.Machine

/-! ## A request taken, and the due event after it -/

section InProgress

variable (s : State) (p : Port) (kind tag : Nat) (t : Fin 4) (b : TrackBody)

theorem State.setRunning_beginRequest (next : Nat) :
    (s.beginRequest p kind tag).setRunning t b next = (s.setRunning t b next).beginRequest p kind tag :=
  State.tellTrack_beginRequest (s.setTrack t (some { b with reasons := noReasons, phase := s.runningAt next })) p kind tag _ _ _

theorem State.setPaused_beginRequest (r : PauseReasons) (remaining : Nat) :
    (s.beginRequest p kind tag).setPaused t b r remaining = (s.setPaused t b r remaining).beginRequest p kind tag :=
  State.tellTrack_beginRequest (s.setTrack t (some { b with reasons := r, phase := .paused remaining })) p kind tag _ _ _

theorem State.resumeTrack_beginRequest :
    (s.beginRequest p kind tag).resumeTrack t b = (s.resumeTrack t b).beginRequest p kind tag := by
  have delta : (s.beginRequest p kind tag).cueDelta b = s.cueDelta b := rfl
  unfold State.resumeTrack
  rw [delta, State.clock_beginRequest]
  dsimp only
  split
  · split_ifs
    · exact State.setRunning_beginRequest ..
    · rfl
  · split_ifs
    · exact State.setRunning_beginRequest ..
    · exact State.setPaused_beginRequest ..
  all_goals rfl

end InProgress

/-- A change that leaves every track in its state, the run state and the mode leaves the idle condition unevaluated. -/
theorem settleIdle_of_names {s t : State} (names : ∀ k, trackName (t.track k) = trackName (s.track k))
    (run : t.clock.run = s.clock.run) (mode : t.unit.mode = s.unit.mode) : settleIdle s t = t := by
  have same : s.tracks.rows.map trackName = t.tracks.rows.map trackName :=
    List.ext_getElem (by simp [s.tracks.size, t.tracks.size]) fun i h _ => by
      rw [List.getElem_map, List.getElem_map]
      exact (names ⟨i, by simpa [s.tracks.size] using h⟩).symm
  have quiet : idleMatters s t = false := by simp [idleMatters, same, run, mode]
  rw [settleIdle, quiet]; rfl

theorem settleIdle_setTrack (s : State) {t : Fin 4} {x : Track} (name : trackName x = trackName (s.track t)) :
    settleIdle s (s.setTrack t x) = s.setTrack t x := by
  refine settleIdle_of_names (fun k => ?_) rfl rfl
  rw [State.track_setTrack]
  split_ifs with same
  · rw [name, same]
  · rfl

theorem State.dueNow_congr {s u : State} {t : Fin 4} (track : u.track t = s.track t) (clock : u.clock = s.clock) :
    u.dueNow t = s.dueNow t := by
  unfold State.dueNow
  rw [track, clock]

theorem settleIdle_track (s u : State) (t : Fin 4) : (settleIdle s u).track t = u.track t := by
  rw [settleIdle_only]; rfl

theorem settleIdle_clock (s u : State) : (settleIdle s u).clock = u.clock := by rw [settleIdle_only]

/-- The answer, and the idle timer, leave what the tracks owe. -/
theorem State.dueNow_answered (s u : State) (p : Port) (kind : Nat) (tag : U8) (t : Fin 4) :
    ((settleIdle s u).ok p kind tag).dueNow t = u.dueNow t :=
  (State.dueNow_congr (s := settleIdle s u) rfl rfl).trans (State.dueNow_congr (settleIdle_track s u t) (settleIdle_clock s u))

/-- A track whose next_due lies above the clock's value, or whose clock stands, owes nothing. -/
theorem State.dueNow_setRunning {s : State} {next : Nat} (h : s.clock.run ≠ .running ∨ s.clock.value < next) (t : Fin 4)
    (b : TrackBody) : (s.setRunning t b next).dueNow t = none := by
  refine Option.eq_none_iff_forall_ne_some.mpr fun due owed => ?_
  obtain ⟨run, c, at_, track, phase, reached⟩ := State.dueNow_eq_some.mp owed
  have clock : (s.setRunning t b next).clock = s.clock := rfl
  rw [clock] at run reached
  have body : (s.setRunning t b next).track t = some { b with reasons := noReasons, phase := s.runningAt next } :=
    (State.track_setTrack ..).trans (if_pos rfl)
  obtain rfl := Option.some.inj (body.symm.trans track)
  have due : at_ = next := by
    have := State.runningAt_of_running run next
    rw [this] at phase
    simp only [Phase.running.injEq] at phase
    omega
  rcases h with h | h
  · exact h run
  · omega

theorem State.dueNow_of_phase {s : State} {t : Fin 4} {b : TrackBody} (track : s.track t = some b)
    (h : ∀ due at_, b.phase ≠ .running due at_) : s.dueNow t = none := by
  refine Option.eq_none_iff_forall_ne_some.mpr fun due owed => ?_
  obtain ⟨-, c, at_, other, phase, -⟩ := State.dueNow_eq_some.mp owed
  obtain rfl := Option.some.inj (track.symm.trans other)
  exact h _ _ phase

theorem exec_dueEvent (t : Fin 4) (s : State) : exec (.dueEvent t) s = .next (settleIdle s (s.takeDue t)) := rfl

theorem exec_dueEvent_of_none {s : State} {t : Fin 4} (h : s.dueNow t = none) : exec (.dueEvent t) s = .next s := by
  rw [exec_dueEvent, State.takeDue_of_none h, settleIdle_self]

section Taken

variable {s v : State} {p : Port} (ready : s.portReady p) (tag : U8) {t : Fin 4}
include ready

theorem exec_trackArm_taken {cue : U16} (h : trackArmAction p (trackByte t) cue (s.beginRequest p 0x22 tag.val) =
    (v.beginRequest p 0x22 tag.val, .ok)) :
    exec (.trackArm p tag (trackByte t) cue) s = .next ((settleIdle s v).ok p 0x22 tag) :=
  congrArg Host.Outcome.next (State.settledRequest_taken ready tag (by decide) h)

theorem exec_trackPause_taken (h : trackPauseAction p (trackByte t) (s.beginRequest p 0x24 tag.val) =
    (v.beginRequest p 0x24 tag.val, .ok)) :
    exec (.trackPause p tag (trackByte t)) s = .next ((settleIdle s v).ok p 0x24 tag) :=
  congrArg Host.Outcome.next (State.settledRequest_taken ready tag (by decide) h)

theorem exec_trackStop_taken (h : trackStopAction p (trackByte t) (s.beginRequest p 0x26 tag.val) =
    (v.beginRequest p 0x26 tag.val, .ok)) :
    exec (.trackStop p tag (trackByte t)) s = .next ((settleIdle s v).ok p 0x26 tag) :=
  congrArg Host.Outcome.next (State.settledRequest_taken ready tag (by decide) h)

variable (none : s.dueNow t = none)
include none

/-- A request that may make a due event owed is followed by it. -/
theorem exec_trackStart_taken (h : trackStartAction p (trackByte t) (s.beginRequest p 0x23 tag.val) =
    (v.beginRequest p 0x23 tag.val, .ok)) :
    exec (.trackStart p tag (trackByte t)) s = exec (.dueEvent t) ((settleIdle s v).ok p 0x23 tag) :=
  congrArg Host.Outcome.next ((congrArg _ (State.settledRequest_taken ready tag (by decide) h)).trans
    (State.thenDue_of_none none _))

theorem exec_trackResume_taken (h : trackResumeAction p (trackByte t) (s.beginRequest p 0x25 tag.val) =
    (v.beginRequest p 0x25 tag.val, .ok)) :
    exec (.trackResume p tag (trackByte t)) s = exec (.dueEvent t) ((settleIdle s v).ok p 0x25 tag) :=
  congrArg Host.Outcome.next ((congrArg _ (State.settledRequest_taken ready tag (by decide) h)).trans
    (State.thenDue_of_none none _))

end Taken

/-! ## TRACK_ARM, TRACK_START, TRACK_PAUSE and TRACK_STOP (R54 to R56) -/

section Requests

variable {s : State} {p : Port} (ready : s.portReady p) (tag : U8) {t : Fin 4}
include ready

/-- TRACK_ARM of a track that is IDLE or FAULTED changes its state. -/
theorem exec_trackArm_told {cue : U16} (admitted : trackAdmits p (s.track t) = true) (mode : s.unit.mode ≠ .setup)
    (hcue : cue.val ≤ 2047) (window : (s.rights p).inWindow cue.val = true)
    (name : trackName (s.track t) = .idle ∨ trackName (s.track t) = .faulted) :
    exec (.trackArm p tag (trackByte t) cue) s = .next
      ((settleIdle s ((s.setTrack t (some ⟨p, cue, [], noReasons, .armed⟩)).tellTrack t p 1)).ok p 0x22 tag) :=
  exec_trackArm_taken ready tag (by
    rw [← State.tellTrack_beginRequest, ← State.setTrack_beginRequest]
    rcases name with name | name <;>
      simp [trackArmAction_trackByte, admitted, mode, Nat.not_lt.mpr hcue, name, window])

/-- TRACK_ARM of a track that is ARMED moves its cue index alone. -/
theorem exec_trackArm_again {cue : U16} (admitted : trackAdmits p (s.track t) = true) (mode : s.unit.mode ≠ .setup)
    (hcue : cue.val ≤ 2047) (window : (s.rights p).inWindow cue.val = true) (name : trackName (s.track t) = .armed) :
    exec (.trackArm p tag (trackByte t) cue) s = .next ((s.setTrack t (some ⟨p, cue, [], noReasons, .armed⟩)).ok p 0x22 tag) := by
  rw [← settleIdle_setTrack s (x := some ⟨p, cue, [], noReasons, .armed⟩) (t := t) (by rw [name]; rfl)]
  refine exec_trackArm_taken ready tag ?_
  rw [← State.setTrack_beginRequest]
  simp [trackArmAction_trackByte, admitted, mode, Nat.not_lt.mpr hcue, name, window]

theorem exec_trackStop_admitted {b : TrackBody} (track : s.track t = some b) (h : b.owner = p ∨ (s.rights p).safety = true) :
    exec (.trackStop p tag (trackByte t)) s = .next ((settleIdle s ((s.setTrack t none).tellTrack t b.owner 0)).ok p 0x26 tag) := by
  refine exec_trackStop_taken ready tag ?_
  rw [← State.tellTrack_beginRequest, ← State.setTrack_beginRequest]
  simp [trackStopAction_trackByte, track, h]

section Owner

variable {b : TrackBody} (track : s.track t = some b) (owner : b.owner = p)
include track owner

theorem exec_trackPause_running {due at_ : Nat} (phase : b.phase = .running due at_) :
    exec (.trackPause p tag (trackByte t)) s = .next ((settleIdle s
      (s.setPaused t b { b.reasons with owner := true } (due - s.clock.value))).ok p 0x24 tag) := by
  refine exec_trackPause_taken ready tag ?_
  rw [← State.setPaused_beginRequest]
  simp [trackPauseAction_trackByte, track, trackAdmits, owner, phase]

theorem exec_trackPause_again {m n : Nat} (phase : b.phase = .waiting m ∨ b.phase = .paused n) :
    exec (.trackPause p tag (trackByte t)) s =
      .next ((s.setTrack t (some { b with reasons := { b.reasons with owner := true } })).ok p 0x24 tag) := by
  rw [← settleIdle_setTrack s (x := some { b with reasons := { b.reasons with owner := true } }) (t := t) (by rw [track]; rfl)]
  refine exec_trackPause_taken ready tag ?_
  rw [← State.setTrack_beginRequest]
  rcases phase with phase | phase <;> simp [trackPauseAction_trackByte, track, trackAdmits, owner, phase]

end Owner

end Requests

section Moving

variable {s : State} {p : Port} (tag : U8) {t : Fin 4} {b : TrackBody} (track : s.track t = some b) (owner : b.owner = p)
  (mode : s.unit.mode = .live) (moves : s.showCanMove = true)
include track owner mode moves

theorem trackStartAction_armed (phase : b.phase = .armed) :
    trackStartAction p (trackByte t) (s.beginRequest p 0x23 tag.val) =
      ((s.setRunning t b (s.clock.value + s.cueDelta b)).beginRequest p 0x23 tag.val, .ok) := by
  have moves' : (s.beginRequest p 0x23 tag.val).showCanMove = true := moves
  have delta : (s.beginRequest p 0x23 tag.val).cueDelta b = s.cueDelta b := rfl
  rw [← State.setRunning_beginRequest]
  simp [trackStartAction_trackByte, track, trackAdmits, owner, mode, phase, moves', delta]

theorem trackResumeAction_admitted (name : trackName (some b) ∈ [.running, .waiting, .paused]) :
    trackResumeAction p (trackByte t) (s.beginRequest p 0x25 tag.val) =
      ((s.resumeTrack t b).beginRequest p 0x25 tag.val, .ok) := by
  have moves' : (s.beginRequest p 0x25 tag.val).showCanMove = true := moves
  rw [← State.resumeTrack_beginRequest, trackResumeAction_trackByte]
  simp only [State.track_beginRequest, State.unit_beginRequest, track, trackAdmits, owner, mode, moves', if_pos name, if_true,
    beq_self_eq_true, Bool.true_eq_false, if_false, ne_eq, not_true]

end Moving

/-! ## TRACK_START and TRACK_RESUME (R54, R55) -/

theorem State.resumeTrack_running {s : State} {t : Fin 4} {b : TrackBody} {due at_ : Nat} (phase : b.phase = .running due at_) :
    s.resumeTrack t b = s := by
  simp only [State.resumeTrack, phase]

theorem PauseReasons.isEmpty_resumed (r : PauseReasons) : r.resumed.isEmpty = !r.freeze := by
  simp [PauseReasons.isEmpty, PauseReasons.resumed]

section Resumed

variable (s : State) (t : Fin 4) {b : TrackBody} {m n : Nat}

theorem State.resumeTrack_paused (phase : b.phase = .paused n) :
    s.resumeTrack t b = if b.reasons.freeze = true then s.setTrack t (some { b with reasons := b.reasons.resumed })
      else s.setRunning t b (s.clock.value + n) := by
  simp only [State.resumeTrack, phase, PauseReasons.isEmpty_resumed]
  cases b.reasons.freeze <;> rfl

theorem State.resumeTrack_waiting (phase : b.phase = .waiting m) :
    s.resumeTrack t b = if b.reasons.freeze = true then s.setPaused t b b.reasons.resumed (s.cueDelta b)
      else s.setRunning t b (s.clock.value + s.cueDelta b) := by
  simp only [State.resumeTrack, phase, PauseReasons.isEmpty_resumed]
  cases b.reasons.freeze <;> rfl

end Resumed

section Moved

variable {s : State} {p : Port} (ready : s.portReady p) (tag : U8) {t : Fin 4} {b : TrackBody} (track : s.track t = some b)
  (owner : b.owner = p) (mode : s.unit.mode = .live) (moves : s.showCanMove = true)
include ready track owner mode moves

theorem exec_trackStart_armed (phase : b.phase = .armed) :
    exec (.trackStart p tag (trackByte t)) s =
      exec (.dueEvent t) ((settleIdle s (s.setRunning t b (s.clock.value + s.cueDelta b))).ok p 0x23 tag) :=
  exec_trackStart_taken ready tag (State.dueNow_of_phase track (by simp [phase]))
    (trackStartAction_armed tag track owner mode moves phase)

/-- TRACK_RESUME of a RUNNING track has no effect. -/
theorem exec_trackResume_running {due at_ : Nat} (phase : b.phase = .running due at_) :
    exec (.trackResume p tag (trackByte t)) s = .next (s.ok p 0x25 tag) := by
  have taken := trackResumeAction_admitted tag track owner mode moves (by simp [trackName, phase])
  rw [State.resumeTrack_running phase] at taken
  have answered := State.settledRequest_taken ready (kind := 0x25) tag (by decide) taken
  rw [settleIdle_self] at answered
  exact congrArg Host.Outcome.next ((congrArg _ answered).trans (State.thenDue_still fun _ none => none))

theorem exec_trackResume_held {m n : Nat} (phase : b.phase = .paused n ∨ b.phase = .waiting m) :
    exec (.trackResume p tag (trackByte t)) s = exec (.dueEvent t) ((settleIdle s (s.resumeTrack t b)).ok p 0x25 tag) :=
  exec_trackResume_taken ready tag (State.dueNow_of_phase track (by rcases phase with h | h <;> simp [h]))
    (trackResumeAction_admitted tag track owner mode moves (by rcases phase with h | h <;> simp [trackName, h]))

end Moved

/-- No due event follows a request at a track whose next_due it leaves above the clock's value, or whose clock stands. -/
theorem exec_dueEvent_setRunning {s : State} {next : Nat} (h : s.clock.run ≠ .running ∨ s.clock.value < next) (p : Port)
    (kind : Nat) (tag : U8) (t : Fin 4) (b : TrackBody) :
    exec (.dueEvent t) ((settleIdle s (s.setRunning t b next)).ok p kind tag) =
      .next ((settleIdle s (s.setRunning t b next)).ok p kind tag) :=
  exec_dueEvent_of_none ((State.dueNow_answered ..).trans (State.dueNow_setRunning h t b))

/-- R55 for a track the freeze holds: TRACK_RESUME takes the other reasons away. -/
theorem exec_trackResume_frozen {s : State} {p : Port} (ready : s.portReady p) (tag : U8) {t : Fin 4} {b : TrackBody}
    (track : s.track t = some b) (owner : b.owner = p) (mode : s.unit.mode = .live) (moves : s.showCanMove = true)
    (freeze : b.reasons.freeze = true) {m n : Nat} :
    (b.phase = .paused n → exec (.trackResume p tag (trackByte t)) s =
      .next ((s.setTrack t (some { b with reasons := ⟨false, true, false⟩ })).ok p 0x25 tag))
    ∧ (b.phase = .waiting m → exec (.trackResume p tag (trackByte t)) s =
      .next ((settleIdle s (s.setPaused t b ⟨false, true, false⟩ (s.cueDelta b))).ok p 0x25 tag)) := by
  have resumed : b.reasons.resumed = ⟨false, true, false⟩ := by rw [PauseReasons.resumed, freeze]
  refine ⟨fun phase => ?_, fun phase => ?_⟩
  · rw [exec_trackResume_held (m := 0) ready tag track owner mode moves (.inl phase), State.resumeTrack_paused s t phase,
      if_pos freeze, resumed, settleIdle_setTrack s (by rw [track]; rfl)]
    refine exec_dueEvent_of_none (State.dueNow_of_phase (b := { b with reasons := ⟨false, true, false⟩ })
      ((State.track_setTrack ..).trans (if_pos rfl)) ?_)
    simp [phase]
  · rw [exec_trackResume_held (n := 0) ready tag track owner mode moves (.inr phase), State.resumeTrack_waiting s t phase,
      if_pos freeze, resumed]
    refine exec_dueEvent_of_none ((State.dueNow_answered ..).trans (State.dueNow_of_phase
      (b := { b with reasons := ⟨false, true, false⟩, phase := .paused (s.cueDelta b) })
      ((State.track_setTrack ..).trans (if_pos rfl)) ?_))
    simp

/-- Settles O19: each request by the state of its track; what follows TRACK_START and TRACK_RESUME is the due event they make
owed, or nothing. -/
theorem trackRequests : Obligations.TrackRequests := by
  intro s p tag cue t b f due at_ m n ready
  refine ⟨fun mode hcue base length => ?_, fun track owner phase mode safety run => ?_, fun track => ⟨fun owner => ?_, ?_⟩⟩
  · have window : (s.rights p).inWindow cue.val = true := (PortRights.inWindow_iff ..).mpr ⟨base, length⟩
    refine ⟨fun idle => ?_, fun track owner => ⟨fun phase => ?_, fun phase => ?_⟩⟩
    · exact exec_trackArm_told ready tag (by rw [idle]; rfl) mode hcue window (.inl (by rw [idle]; rfl))
    · exact exec_trackArm_told ready tag (by simp [track, trackAdmits, owner]) mode hcue window
        (.inr (by simp [track, trackName, phase]))
    · exact exec_trackArm_again ready tag (by simp [track, trackAdmits, owner]) mode hcue window
        (by simp [track, trackName, phase])
  · have moves : s.showCanMove = true := s.showCanMove_iff.mpr ⟨safety, run⟩
    subst owner
    refine ⟨fun _ _ => exec_trackStart_armed ready tag track rfl mode moves phase, fun later => ?_⟩
    refine (exec_trackStart_armed ready tag track rfl mode moves phase).trans (exec_dueEvent_setRunning ?_ ..)
    exact later.imp id fun h => Nat.lt_add_of_pos_right h
  · subst owner
    refine ⟨exec_trackPause_running ready tag track rfl, exec_trackPause_again ready tag track rfl, fun mode safety run => ?_⟩
    have moves : s.showCanMove = true := s.showCanMove_iff.mpr ⟨safety, run⟩
    have held := fun {m n} => exec_trackResume_held (m := m) (n := n) ready tag track rfl mode moves
    refine ⟨exec_trackResume_running ready tag track rfl mode moves, fun phase => ?_, fun phase => ?_⟩
    · have resumed := (held (m := 0) (.inl phase)).trans (by rw [State.resumeTrack_paused s t phase])
      refine ⟨fun thawed _ zero => ?_, fun thawed later => ?_, fun freeze => ?_⟩
      · rw [resumed, if_neg (by simp [thawed]), zero]; rfl
      · rw [resumed, if_neg (by simp [thawed])]
        exact exec_dueEvent_setRunning (later.imp id fun h => Nat.lt_add_of_pos_right h) ..
      · rw [(exec_trackResume_frozen (m := 0) ready tag track rfl mode moves freeze).1 phase, phase]
    · have resumed := (held (n := 0) (.inr phase)).trans (by rw [State.resumeTrack_waiting s t phase])
      refine ⟨fun thawed _ zero => ?_, fun thawed later => ?_, fun freeze => ?_⟩
      · have delta : s.cueDelta b = 0 := zero
        rw [resumed, if_neg (by simp [thawed]), delta]; rfl
      · rw [resumed, if_neg (by simp [thawed])]
        exact exec_dueEvent_setRunning (later.imp id fun h => Nat.lt_add_of_pos_right h) ..
      · exact (exec_trackResume_frozen (n := 0) ready tag track rfl mode moves freeze).2 phase
  · exact exec_trackStop_admitted ready tag track

end Sys2Proof.Machine

/-!
# What a due event makes of each record (03 R57 to R62)
-/

namespace Sys2Proof.Machine

/-! ## One record and the due event it belongs to -/

/-- States whose tracks, run state and mode are alike evaluate the idle condition alike after what follows. -/
theorem settleIdle_congr {s u : State} (names : ∀ k, trackName (u.track k) = trackName (s.track k))
    (run : u.clock.run = s.clock.run) (mode : u.unit.mode = s.unit.mode) (v : State) : settleIdle u v = settleIdle s v := by
  have same : u.tracks.rows.map trackName = s.tracks.rows.map trackName :=
    List.ext_getElem (by simp [s.tracks.size, u.tracks.size]) fun i h _ => by
      rw [List.getElem_map, List.getElem_map]
      exact names ⟨i, by simpa [u.tracks.size] using h⟩
  have matters : idleMatters u v = idleMatters s v := by simp only [idleMatters, same, run, mode]
  rw [settleIdle, settleIdle, matters]

theorem State.setTrack_setTrack (s : State) (t : Fin 4) (x y : Track) : (s.setTrack t x).setTrack t y = s.setTrack t y := by
  simp only [State.setTrack, Table.set_set]

theorem ActsFor.cues {p : Port} {t : Fin 4} {s u : State} (h : ActsFor p t s u) : u.cues = s.cues := by rw [h.frame]

theorem ActsFor.clock {p : Port} {t : Fin 4} {s u : State} (h : ActsFor p t s u) : u.clock = s.clock := by rw [h.frame]

theorem ActsFor.unit {p : Port} {t : Fin 4} {s u : State} (h : ActsFor p t s u) : u.unit = s.unit := by rw [h.frame]

theorem ActsFor.rights {p : Port} {t : Fin 4} {s u : State} (h : ActsFor p t s u) (q : Port) : u.rights q = s.rights q := by
  rw [h.frame]; rfl

theorem State.runningBody_track {s u : State} {t : Fin 4} (h : u.track t = s.track t) : u.runningBody t = s.runningBody t := by
  unfold State.runningBody; rw [h]

theorem State.takeRecords_some {s : State} {t : Fin 4} {b : TrackBody} (h : s.runningBody t = some b) (n due : Nat) :
    State.takeRecords (n + 1) s t due =
      match (s.takeRecord t b).runningBody t with
      | none => s.takeRecord t b
      | some c =>
        if (s.takeRecord t b).cueDelta c = 0 then State.takeRecords n (s.takeRecord t b) t due
        else (s.takeRecord t b).setTrack t
          (some { c with phase := (s.takeRecord t b).runningAt (due + (s.takeRecord t b).cueDelta c) }) := by
  simp only [State.takeRecords, h] <;> rfl

theorem State.takeRecords_none {s : State} {t : Fin 4} (h : s.runningBody t = none) (n due : Nat) :
    State.takeRecords n s t due = s := by
  cases n <;> simp only [State.takeRecords, h]

/-- Records that end a due event within a number end it within any greater one. -/
theorem State.takeRecords_of_eventEnds {n : Nat} {s : State} {t : Fin 4} (h : s.eventEnds n t) (due : Nat) :
    State.takeRecords (n + 1) s t due = State.takeRecords n s t due := by
  induction n generalizing s with
  | zero => exact h.elim
  | succ n ih =>
    rcases running : s.runningBody t with _ | b
    · rw [State.takeRecords_none running, State.takeRecords_none running]
    · rw [State.takeRecords_some running, State.takeRecords_some running]
      rcases next : (s.takeRecord t b).runningBody t with _ | c
      · rfl
      · dsimp only
        split_ifs with delta
        · have cues := (s.takeRecord_taken t b).acts.cues
          refine ih (h b (Option.mem_toList.mpr running) c (Option.mem_toList.mpr next) ?_)
          rwa [State.cueDelta, cues] at delta
        · rfl

section DueEvent

variable {s : State} {t : Fin 4} {b : TrackBody} {due at_ : Nat} (track : s.track t = some b) (phase : b.phase = .running due at_)
  (run : s.clock.run = .running) (reached : at_ ≤ s.clock.value)
include track phase run reached

theorem State.takeDue_of_owed : s.takeDue t = (State.takeRecords 32 s t due).takeDue t := by
  have owed : s.dueNow t = some due := State.dueNow_eq_some.mpr ⟨run, b, at_, track, phase, reached⟩
  rw [State.takeDue_of_some owed, State.dueEvent]
  simp only [owed]
  rfl

/-- A record that leaves its track not RUNNING ends the due event. -/
theorem exec_dueEvent_stops {u : State} (taken : s.takeRecord t b = u) (stopped : u.runningBody t = none) :
    exec (.dueEvent t) s = .next (settleIdle s u) := by
  subst taken
  have running := State.runningBody_eq_some.mpr ⟨track, due, at_, phase⟩
  have none : (s.takeRecord t b).dueNow t = none := Option.eq_none_iff_forall_ne_some.mpr fun next owed => by
    obtain ⟨-, c, at', hc, phase', -⟩ := State.dueNow_eq_some.mp owed
    rw [State.runningBody_eq_some.mpr ⟨hc, next, at', phase'⟩] at stopped
    cases stopped
  rw [exec_dueEvent, State.takeDue_of_owed track phase run reached, State.takeRecords_some running]
  simp only [stopped]
  rw [State.takeDue_of_none none]

theorem exec_dueEvent_faults {v : State} {c : TrackBody} {r : TrackFault}
    (taken : s.takeRecord t b = v.trackFaulted t c r (faultDetail r)) :
    exec (.dueEvent t) s = .next (settleIdle s (v.trackFaulted t c r (faultDetail r))) := by
  refine exec_dueEvent_stops track phase run reached taken ?_
  have body : (v.trackFaulted t c r (faultDetail r)).track t = some ⟨c.owner, c.cue, c.stack, noReasons, .faulted r⟩ :=
    State.track_setTrack_self v t _
  simp only [State.runningBody, body]

/-- A record that leaves its track RUNNING at a record whose delta is not 0 sets next_due from the due time reached. -/
theorem exec_dueEvent_pauses {v : State} {cue : Nat} {stack : List StackFrame} (acts : ActsFor b.owner t s v)
    (taken : s.takeRecord t b = v.takesAlong t b cue stack) (delta : 0 < CueRecord.delta (Memory.record s.cues cue)) :
    exec (.dueEvent t) s = exec (.dueEvent t) (v.trackGoesOn t b due cue stack) := by
  have running := State.runningBody_eq_some.mpr ⟨track, due, at_, phase⟩
  have along : (v.takesAlong t b cue stack).track t = some ⟨b.owner, cue, stack, b.reasons, b.phase⟩ :=
    State.track_setTrack_self v t _
  have next := State.runningBody_eq_some.mpr ⟨along, due, at_, phase⟩
  have cues : v.cues = s.cues := acts.cues
  have goes : State.takeRecords 32 s t due = v.trackGoesOn t b due cue stack := by
    rw [State.takeRecords_some running, taken]
    simp only [next]
    have positive : ¬ (v.takesAlong t b cue stack).cueDelta ⟨b.owner, cue, stack, b.reasons, b.phase⟩ = 0 := by
      have same : (v.takesAlong t b cue stack).cueDelta ⟨b.owner, cue, stack, b.reasons, b.phase⟩ =
        CueRecord.delta (Memory.record v.cues cue) := rfl
      rw [same, cues]; omega
    rw [if_neg positive, State.takesAlong, State.trackGoesOn, State.setTrack_setTrack]
    rfl
  rw [exec_dueEvent, exec_dueEvent, State.takeDue_of_owed track phase run reached, goes]
  refine congrArg _ (settleIdle_congr (fun k => ?_) ?_ ?_ _).symm
  · rw [State.trackGoesOn, State.track_setTrack]
    split_ifs with own
    · rw [own, track]
      simp only [trackName, phase, State.runningAt]
    · rw [acts.others k own]
  · exact congrArg _ acts.clock
  · exact congrArg _ acts.unit

/-- A record of delta 0 is taken in the same due event. -/
theorem exec_dueEvent_along {c : TrackBody} (next : (s.takeRecord t b).runningBody t = some c)
    (delta : CueRecord.delta (Memory.record s.cues c.cue) = 0) (ends : (s.takeRecord t b).eventEnds 31 t) :
    exec (.dueEvent t) s = exec (.dueEvent t) (s.takeRecord t b) := by
  have running := State.runningBody_eq_some.mpr ⟨track, due, at_, phase⟩
  obtain ⟨acts, taken⟩ := s.takeRecord_taken t b
  obtain ⟨track', due', at', phase'⟩ := State.runningBody_eq_some.mp next
  have kept : c.phase = b.phase := by
    rw [track'] at taken
    cases taken with
    | goesOn _ _ _ kept => exact kept
    | stopped _ _ stopped => rcases stopped with ⟨_, e⟩ | ⟨_, e⟩ <;> rw [phase'] at e <;> cases e
  have zero : (s.takeRecord t b).cueDelta c = 0 := by rw [State.cueDelta, acts.cues]; exact delta
  have along : State.takeRecords 32 s t due = State.takeRecords 32 (s.takeRecord t b) t due := by
    rw [State.takeRecords_some running]
    simp only [next]
    rw [if_pos zero, State.takeRecords_of_eventEnds ends]
  have owed := State.takeDue_of_owed track' (kept.trans phase) (by rw [acts.clock]; exact run) (by rw [acts.clock]; exact reached)
  rw [exec_dueEvent, exec_dueEvent, State.takeDue_of_owed track phase run reached, along, ← owed]
  refine congrArg _ (settleIdle_congr (fun k => ?_) ?_ ?_ _).symm
  · by_cases own : k = t
    · rw [own, track', track]
      simp only [trackName, kept]
    · rw [acts.others k own]
  · rw [acts.clock]
  · rw [acts.unit]

/-- A record that moves the cue index on, its setpoints written: by where the next record lies. -/
theorem exec_dueEvent_advances {v : State} {stack : List StackFrame} {index : Nat} (acts : ActsFor b.owner t s v)
    (taken : s.takeRecord t b = v.advance t { b with stack := stack } index) :
    (s.pausesAt b index → exec (.dueEvent t) s = exec (.dueEvent t) (v.trackGoesOn t b due index stack))
    ∧ ((s.rights b.owner).inWindow index = true → s.takeRecord t b = v.takesAlong t b index stack)
    ∧ ((s.rights b.owner).inWindow index = false →
      exec (.dueEvent t) s = .next (settleIdle s (v.trackFaulted t { b with stack := stack } .windowEnd 13))) := by
  have window : ∀ x, (v.rights b.owner).inWindow index = x ↔ (s.rights b.owner).inWindow index = x := fun x => by
    rw [acts.rights]
  have inside : (s.rights b.owner).inWindow index = true → s.takeRecord t b = v.takesAlong t b index stack := fun h =>
    taken.trans (if_pos ((window _).mpr h))
  refine ⟨fun ⟨base, length, delta⟩ => ?_, inside, fun outside => ?_⟩
  · exact exec_dueEvent_pauses track phase run reached acts (inside ((PortRights.inWindow_iff ..).mpr ⟨base, length⟩)) delta
  · refine exec_dueEvent_faults track phase run reached (r := .windowEnd) (taken.trans (if_neg ?_))
    exact Bool.eq_false_iff.mp ((window _).mpr outside)

end DueEvent

/-! ## The records that stage setpoints (R58) -/

theorem channelRun_one (ch : Fin 177) : channelRun ch.val 1 = [ch] := by
  simp [channelRun, List.range_succ]

/-- One staged write of a record: the holder's slot is written, any other port's channel is skipped. -/
theorem State.stage_written {s : State} {p : Port} {ch : Fin 177} (h : (s.entry ch).hold.holder = some p) (v : Setpoint) :
    (s.stage p ch v).1 = s.setSlot ch (some (s.clamp ch v)) ∧ (s.stage p ch v).2.filled = true := by
  rw [State.stage_holder h]
  refine ⟨rfl, ?_⟩
  dsimp only
  split <;> rfl

theorem State.stage_skipped {s : State} {p : Port} {ch : Fin 177} (h : (s.entry ch).hold.holder ≠ some p) (v : Setpoint) :
    (s.stage p ch v).1 = s ∧ (s.stage p ch v).2.filled = false := by
  by_cases safed : (s.entry ch).hold = .safed
  · rw [State.stage_safed safed]; exact ⟨rfl, rfl⟩
  · rw [State.stage_other safed h]; exact ⟨rfl, rfl⟩

section TakeSet

variable {s : State} (t : Fin 4) {b : TrackBody} {ch : Fin 177} (v : Setpoint)

theorem State.takeSet_written (h : (s.entry ch).hold.holder = some b.owner) :
    s.takeSet t b [ch] v = (s.setSlot ch (some (s.clamp ch v))).advance t b (b.cue + 1) := by
  obtain ⟨state, filled⟩ := State.stage_written h v
  simp only [State.takeSet, State.cueWrites, List.foldl_cons, List.foldl_nil, state, filled, if_true]

theorem State.takeSet_skipped (h : (s.entry ch).hold.holder ≠ some b.owner) :
    s.takeSet t b [ch] v = (s.tellSkipped t b 1).advance t b (b.cue + 1) := by
  obtain ⟨state, filled⟩ := State.stage_skipped h v
  simp only [State.takeSet, State.cueWrites, List.foldl_cons, List.foldl_nil, state, filled, Bool.false_eq_true, if_false]
  rfl

end TakeSet

theorem ActsFor.tellSkipped {p : Port} {t : Fin 4} (s : State) (k : Fin 4) (b : TrackBody) (n : Nat) :
    ActsFor p t s (s.tellSkipped k b n) := by
  unfold State.tellSkipped
  split
  · exact .refl p t s
  · exact .post _ _ _ _ _ _

section Staging

variable {s : State} {t : Fin 4} {b : TrackBody} {due at_ : Nat} (track : s.track t = some b) (phase : b.phase = .running due at_)
  (run : s.clock.run = .running) (reached : at_ ≤ s.clock.value) {ch : Fin 177} {v : Setpoint}
  (taken : s.takeRecord t b = s.takeSet t b [ch] v)
include track phase run reached taken

/-- A record that stages one setpoint on a channel its owner holds. -/
theorem exec_dueEvent_written (held : (s.entry ch).hold.holder = some b.owner) :
    (s.pausesAt b (b.cue + 1) → exec (.dueEvent t) s =
      exec (.dueEvent t) ((s.setSlot ch (some (s.clamp ch v))).trackGoesOn t b due (b.cue + 1) b.stack))
    ∧ ((s.rights b.owner).inWindow (b.cue + 1) = true →
      s.takeRecord t b = (s.setSlot ch (some (s.clamp ch v))).takesAlong t b (b.cue + 1) b.stack)
    ∧ ((s.rights b.owner).inWindow (b.cue + 1) = false → exec (.dueEvent t) s =
      .next (settleIdle s ((s.setSlot ch (some (s.clamp ch v))).trackFaulted t b .windowEnd 13))) :=
  exec_dueEvent_advances track phase run reached (.setSlot _ held) (taken.trans (State.takeSet_written t v held))

/-- A record that stages one setpoint on a channel its owner does not hold. -/
theorem exec_dueEvent_skipped (other : (s.entry ch).hold.holder ≠ some b.owner) :
    (s.pausesAt b (b.cue + 1) → exec (.dueEvent t) s =
      exec (.dueEvent t) ((s.tellSkipped t b 1).trackGoesOn t b due (b.cue + 1) b.stack))
    ∧ ((s.rights b.owner).inWindow (b.cue + 1) = true →
      s.takeRecord t b = (s.tellSkipped t b 1).takesAlong t b (b.cue + 1) b.stack)
    ∧ ((s.rights b.owner).inWindow (b.cue + 1) = false → exec (.dueEvent t) s =
      .next (settleIdle s ((s.tellSkipped t b 1).trackFaulted t b .windowEnd 13))) :=
  exec_dueEvent_advances track phase run reached (.tellSkipped s t b 1) (taken.trans (State.takeSet_skipped t v other))

/-- A record that stages one setpoint, its next record in the window. -/
theorem State.takeRecord_staged (window : (s.rights b.owner).inWindow (b.cue + 1) = true) :
    s.takeRecord t b = (if (s.entry ch).hold.holder = some b.owner then s.setSlot ch (some (s.clamp ch v))
      else s.tellSkipped t b 1).takesAlong t b (b.cue + 1) b.stack := by
  split_ifs with held
  · exact (exec_dueEvent_written track phase run reached taken held).2.1 window
  · exact (exec_dueEvent_skipped track phase run reached taken held).2.1 window

end Staging

theorem State.takeRecord_setJet {s : State} {b : TrackBody} {j : Fin 128} {n : Nat}
    (cue : CueRecord.cue (Memory.record s.cues b.cue) = .setJet j n) (t : Fin 4) :
    s.takeRecord t b = s.takeSet t b [jetChannel j] (.height n) := by
  simp only [State.takeRecord, cue]
  rw [← channelRun_one (jetChannel j)]; rfl

theorem State.takeRecord_setFix {s : State} {b : TrackBody} {f : Fin 48} {levels : Rgbw} {n : Nat}
    (cue : CueRecord.cue (Memory.record s.cues b.cue) = .setFix (fixtureChannel f) levels n) (t : Fin 4) :
    s.takeRecord t b = s.takeSet t b [fixtureChannel f] (.colour levels n) := by
  simp only [State.takeRecord, cue]
  rw [← channelRun_one (fixtureChannel f)]

theorem State.takeRecord_setGain {s : State} {b : TrackBody} {n : Nat}
    (cue : CueRecord.cue (Memory.record s.cues b.cue) = .setGain n) (t : Fin 4) :
    s.takeRecord t b = s.takeSet t b [audChannel] (.gain n) := by
  simp only [State.takeRecord, cue]

/-! ## The records that change the stack (R60, R61) -/

section Stack

variable {s : State} {b : TrackBody} (t : Fin 4) {n back : Nat} {until_ : Option Nat} {seen : Bool} {rest : List StackFrame}

theorem State.takeRecord_loop (cue : CueRecord.cue (Memory.record s.cues b.cue) = .loop n until_) (room : b.stack.length < 6) :
    s.takeRecord t b = s.advance t { b with stack := .loop (b.cue + 1) n until_ false :: b.stack } (b.cue + 1) := by
  simp only [State.takeRecord, cue]
  exact if_neg (Nat.not_le.mpr room)

theorem State.takeRecord_loop_full (cue : CueRecord.cue (Memory.record s.cues b.cue) = .loop n until_) (full : 6 ≤ b.stack.length) :
    s.takeRecord t b = s.trackFaulted t b .stackFull 9 := by
  simp only [State.takeRecord, cue]
  exact if_pos full

section LoopEnd

variable (cue : CueRecord.cue (Memory.record s.cues b.cue) = .loopEnd)
include cue

theorem State.takeRecord_loopEnd_left (stack : b.stack = .loop back n until_ seen :: rest)
    (left : n ≤ 1 ∨ (until_.isSome = true ∧ seen = true)) :
    s.takeRecord t b = s.advance t { b with stack := rest } (b.cue + 1) := by
  simp only [State.takeRecord, cue, State.takeLoopEnd, stack]
  exact if_pos (left.imp (fun h => by omega) id)

theorem State.takeRecord_loopEnd_back (stack : b.stack = .loop back n until_ seen :: rest) (more : 1 < n)
    (waits : until_.isNone = true ∨ seen = false) :
    s.takeRecord t b = s.advance t { b with stack := .loop back (n - 1) until_ false :: rest } back := by
  simp only [State.takeRecord, cue, State.takeLoopEnd, stack]
  refine if_neg ?_
  rintro (h | ⟨h, h'⟩)
  · omega
  · rcases waits with none | unseen
    · simp [Option.isNone_iff_eq_none.mp none] at h
    · rw [unseen] at h'; cases h'

theorem State.takeRecord_loopEnd_nesting (stack : b.stack = [] ∨ b.stack = .call back :: rest) :
    s.takeRecord t b = s.trackFaulted t b .nesting 11 := by
  rcases stack with stack | stack <;> simp only [State.takeRecord, cue, State.takeLoopEnd, stack] <;> rfl

end LoopEnd

section Call

variable (cue : CueRecord.cue (Memory.record s.cues b.cue) = .call n)
include cue

theorem State.takeRecord_call (window : (s.rights b.owner).inWindow n = true) (room : b.stack.length < 6) :
    s.takeRecord t b = s.advance t { b with stack := .call (b.cue + 1) :: b.stack } n := by
  simp only [State.takeRecord, cue, State.takeCall, window, Bool.true_eq_false, if_false]
  exact (if_neg (Nat.not_le.mpr room)).trans (if_pos window).symm

theorem State.takeRecord_call_outside (window : (s.rights b.owner).inWindow n = false) :
    s.takeRecord t b = s.trackFaulted t b .callRange 12 := by
  simp only [State.takeRecord, cue]
  exact if_pos window

theorem State.takeRecord_call_full (window : (s.rights b.owner).inWindow n = true) (full : 6 ≤ b.stack.length) :
    s.takeRecord t b = s.trackFaulted t b .stackFull 9 := by
  simp only [State.takeRecord, cue, State.takeCall, window, Bool.true_eq_false, if_false]
  exact if_pos full

end Call

section Return

variable (cue : CueRecord.cue (Memory.record s.cues b.cue) = .return_)
include cue

theorem State.takeRecord_return (stack : b.stack = .call back :: rest) :
    s.takeRecord t b = s.advance t { b with stack := rest } back := by
  simp only [State.takeRecord, cue, State.takeReturn, stack]

theorem State.takeRecord_return_empty (stack : b.stack = []) : s.takeRecord t b = s.trackFaulted t b .stackEmpty 10 := by
  simp only [State.takeRecord, cue, State.takeReturn, stack]; rfl

theorem State.takeRecord_return_nesting (stack : b.stack = .loop back n until_ seen :: rest) :
    s.takeRecord t b = s.trackFaulted t b .nesting 11 := by
  simp only [State.takeRecord, cue, State.takeReturn, stack]; rfl

end Return

end Stack

/-- Settles O20: the record that goes on with the due event, the records that end it, and those that move the cue index on. -/
theorem dueEventTakesTheRecord : Obligations.DueEventTakesTheRecord := by
  intro s t b j until_ seen rest due at_ m n back track phase run reached
  have advances := fun {stack index} => exec_dueEvent_advances (stack := stack) (index := index) track phase run reached
    (ActsFor.refl b.owner t s)
  have stops := fun {u} => exec_dueEvent_stops (u := u) track phase run reached
  have faults := fun {r} => exec_dueEvent_faults (v := s) (c := b) (r := r) track phase run reached
  refine ⟨fun c hc delta ends => exec_dueEvent_along track phase run reached (Option.mem_toList.mp hc) delta ends,
    fun cue => ?_, fun cue => faults (r := .badRecord) (by simp only [State.takeRecord, cue]; rfl), fun cue => ⟨fun window => ?_, fun window => ?_⟩,
    fun cue pauses => ?_, fun cue window => ?_, fun cue => ?_, fun cue => ?_, fun cue => ?_, fun cue => ?_⟩
  · refine stops (by simp only [State.takeRecord, cue]; rfl) ?_
    have ended : ((s.setTrack t none).post b.owner .trackState t 5).track t = none := State.track_setTrack_self s t _
    simp only [State.runningBody, ended]
  · refine stops (by simp only [State.takeRecord, cue, State.takeWait, window, if_true]; rfl) ?_
    have waits : ((s.setTrack t (some ⟨b.owner, b.cue + 1, b.stack, b.reasons, .waiting m⟩)).post b.owner .trackState t 3).track t =
      some ⟨b.owner, b.cue + 1, b.stack, b.reasons, .waiting m⟩ := State.track_setTrack_self s t _
    simp only [State.runningBody, waits]
  · refine faults (r := .windowEnd) ?_
    simp only [State.takeRecord, cue, State.takeWait, window, Bool.false_eq_true, if_false]; rfl
  · have taken := State.takeRecord_setJet cue t
    refine ⟨fun held => ?_, fun other => ?_⟩
    · rw [(exec_dueEvent_written track phase run reached taken held).1 pauses, State.clamp_height]
    · exact (exec_dueEvent_skipped track phase run reached taken other).1 pauses
  · rw [State.takeRecord_staged track phase run reached (State.takeRecord_setJet cue t) window, State.clamp_height]
  · refine ⟨fun room pauses => (advances (State.takeRecord_loop t cue room)).1 pauses,
      fun room => (advances (State.takeRecord_loop t cue room)).2.1,
      fun full => faults (r := .stackFull) (State.takeRecord_loop_full t cue full)⟩
  · refine ⟨fun stack => ⟨fun left => (advances (State.takeRecord_loopEnd_left t cue stack left)).1,
      fun more waits => (advances (State.takeRecord_loopEnd_back t cue stack more waits)).1,
      fun left => (advances (State.takeRecord_loopEnd_left t cue stack left)).2.1,
      fun more waits => (advances (State.takeRecord_loopEnd_back t cue stack more waits)).2.1⟩,
      fun stack => faults (r := .nesting) (State.takeRecord_loopEnd_nesting t cue stack)⟩
  · refine ⟨fun pauses room => ?_, fun window room => (advances (State.takeRecord_call t cue window room)).2.1 window,
      fun outside => faults (r := .callRange) (State.takeRecord_call_outside t cue outside),
      fun window full => faults (r := .stackFull) (State.takeRecord_call_full t cue window full)⟩
    obtain ⟨base, length, delta⟩ := pauses
    have window := (PortRights.inWindow_iff (s.rights b.owner) n).mpr ⟨base, length⟩
    exact (advances (State.takeRecord_call t cue window room)).1 ⟨base, length, delta⟩
  · exact ⟨fun stack => (advances (State.takeRecord_return t cue stack)).1,
      fun stack => (advances (State.takeRecord_return t cue stack)).2.1,
      fun stack => faults (r := .stackEmpty) (State.takeRecord_return_empty t cue stack),
      fun stack => faults (r := .nesting) (State.takeRecord_return_nesting t cue stack)⟩

end Sys2Proof.Machine

/-!
# Runs of jets, the end of the window, and the limit of one due event (03 R57, R58, R62)
-/

namespace Sys2Proof.Machine

/-! ## A run of jets (R58) -/

theorem filter_range_run {first count n : Nat} (h : first + count ≤ n) :
    (List.range n).filter (fun j => decide (first ≤ j ∧ j < first + count)) = List.range' first count := by
  obtain ⟨rest, rfl⟩ := Nat.exists_eq_add_of_le h
  have split : List.range (first + count + rest) =
      List.range' 0 first ++ List.range' first count ++ List.range' (first + count) rest := by
    rw [List.range_eq_range', ← List.range'_append_1, ← List.range'_append_1, Nat.zero_add, Nat.zero_add]
  have below : (List.range' 0 first).filter (fun j => decide (first ≤ j ∧ j < first + count)) = [] := by
    simp only [List.filter_eq_nil_iff, List.mem_range'_1, decide_eq_true_eq]; omega
  have within : (List.range' first count).filter (fun j => decide (first ≤ j ∧ j < first + count)) = List.range' first count := by
    simp only [List.filter_eq_self, List.mem_range'_1, decide_eq_true_eq]; omega
  have above : (List.range' (first + count) rest).filter (fun j => decide (first ≤ j ∧ j < first + count)) = [] := by
    simp only [List.filter_eq_nil_iff, List.mem_range'_1, decide_eq_true_eq]; omega
  rw [split, List.filter_append, List.filter_append, below, within, above, List.nil_append, List.append_nil]

/-- The jets of a run, in ascending order. -/
def jetRun (first count : Nat) : List (Fin 128) :=
  (Table.indices 128).filter fun j => decide (first ≤ j.val ∧ j.val < first + count)

theorem jetRun_val {first count : Nat} (h : first + count ≤ 128) : (jetRun first count).map (·.val) = List.range' first count := by
  have indices : (Table.indices 128).map (·.val) = List.range 128 := by decide
  rw [← filter_range_run h, ← indices, List.filter_map]
  rfl

theorem channelRun_val {first count : Nat} (h : first + count ≤ 177) :
    (channelRun first count).map (·.val) = List.range' first count := by
  have each : ∀ k ∈ List.range count, Option.map (fun ch : Fin 177 => ch.val)
      (if h : first + k < 177 then some ⟨first + k, h⟩ else none) = some (first + k) := fun k hk => by
    rw [dif_pos (by have := List.mem_range.mp hk; omega)]; rfl
  rw [channelRun, List.map_filterMap, List.filterMap_congr each, List.filterMap_eq_map', List.range'_eq_map_range]

/-- The channels of a run of jets are the jets' channels. -/
theorem channelRun_jets {first count : Nat} (h : first + count ≤ 128) :
    channelRun first count = (jetRun first count).map jetChannel := by
  refine List.map_injective_iff.mpr Fin.val_injective ?_
  rw [channelRun_val (by omega), List.map_map]
  exact (jetRun_val h).symm

theorem State.runOf_eq (s : State) (p : Port) (first count : Nat) (held : Bool) :
    s.runOf p first count held =
      (jetRun first count).filter fun j => decide ((s.entry (jetChannel j)).hold.holder = some p ↔ held = true) := by
  rw [State.runOf, jetRun, List.filter_filter]
  refine List.filter_congr fun j _ => ?_
  simp only [← Bool.decide_and, decide_eq_decide]
  tauto

/-- The staged writes of a run go to the jets that the port holds, and count the others. -/
theorem State.writeJets_eq {s : State} (p : Port) (height : Nat) (l : List (Fin 128)) {u : State} (skipped : Nat)
    (hold : ∀ ch, (u.entry ch).hold = (s.entry ch).hold) (config : u.config = s.config) :
    (l.map jetChannel).foldl (fun acc ch => let r := acc.1.stage p ch (.height height)
        (r.1, if r.2.filled then acc.2 else acc.2 + 1)) (u, skipped) =
      ((l.filter fun j => decide ((s.entry (jetChannel j)).hold.holder = some p ↔ true = true)).foldl
          (fun v j => v.setSlot (jetChannel j) (some (.height (min height (s.config.jets.get j).hMax)))) u,
        skipped + (l.filter fun j => decide ((s.entry (jetChannel j)).hold.holder = some p ↔ false = true)).length) := by
  induction l generalizing u skipped with
  | nil => rfl
  | cons j rest ih =>
    rw [List.map_cons, List.foldl_cons]
    by_cases held : (s.entry (jetChannel j)).hold.holder = some p
    · have held' : (u.entry (jetChannel j)).hold.holder = some p := hold _ ▸ held
      obtain ⟨state, filled⟩ := State.stage_written held' (.height height)
      have acts := ActsFor.setSlot (t := 0) (some (u.clamp (jetChannel j) (.height height))) held'
      simp only [state, filled, if_true]
      rw [ih skipped (fun ch => (acts.hold ch).trans (hold ch)) config, State.clamp_height, config]
      simp [held]
    · have other : (u.entry (jetChannel j)).hold.holder ≠ some p := hold _ ▸ held
      obtain ⟨state, filled⟩ := State.stage_skipped other (.height height)
      simp only [state, filled, Bool.false_eq_true, if_false]
      rw [ih (skipped + 1) hold config]
      simp [held]
      omega

theorem State.cueWrites_run {first count : Nat} (h : first + count ≤ 128) (s : State) (p : Port) (height : Nat) :
    s.cueWrites p (channelRun first count) (.height height) =
      (s.stagedRun p first count height, (s.runOf p first count false).length) := by
  rw [State.cueWrites, channelRun_jets h, State.writeJets_eq (s := s) p height _ 0 (fun _ => rfl) rfl, State.stagedRun,
    State.runOf_eq, State.runOf_eq, Nat.zero_add]

theorem State.takeRecord_setJets {s : State} {b : TrackBody} {first count n : Nat}
    (cue : CueRecord.cue (Memory.record s.cues b.cue) = .setJets first count n) (h : first + count ≤ 128) (t : Fin 4) :
    s.takeRecord t b = ((s.stagedRun b.owner first count n).tellSkipped t b (s.runOf b.owner first count false).length).advance
      t b (b.cue + 1) := by
  simp only [State.takeRecord, cue, State.takeSet, State.cueWrites_run h]
  rfl

theorem ActsFor.stagedRun {first count : Nat} (h : first + count ≤ 128) (s : State) (p : Port) (t : Fin 4) (height : Nat) :
    ActsFor p t s (s.stagedRun p first count height) := by
  have acts := ActsFor.cueWrites p t s (channelRun first count) (.height height)
  rwa [State.cueWrites_run h] at acts

/-- Settles O21: the writes of each record that stages setpoints, and where the record after it lies. -/
theorem dueEventStagesAndMeetsTheWindow : Obligations.DueEventStagesAndMeetsTheWindow := by
  intro s t b f j levels until_ seen rest due at_ first count n back track phase run reached
  have advances := fun {stack index} => exec_dueEvent_advances (stack := stack) (index := index) track phase run reached
    (ActsFor.refl b.owner t s)
  refine ⟨fun cue h => ?_, fun cue => ?_, fun cue => ?_, fun cue outside => ?_, fun cue room => ?_, fun cue stack => ?_,
    fun cue stack => ?_⟩
  · exact exec_dueEvent_advances track phase run reached ((ActsFor.stagedRun h s b.owner t n).trans (.tellSkipped _ t b _))
      (State.takeRecord_setJets cue h t)
  · have taken := State.takeRecord_setFix cue t
    have written := exec_dueEvent_written track phase run reached taken
    have skipped := exec_dueEvent_skipped track phase run reached taken
    exact ⟨fun pauses => ⟨fun held => (written held).1 pauses, fun other => (skipped other).1 pauses⟩,
      State.takeRecord_staged track phase run reached taken,
      fun outside => ⟨fun held => (written held).2.2 outside, fun other => (skipped other).2.2 outside⟩⟩
  · have taken := State.takeRecord_setGain cue t
    have written := exec_dueEvent_written track phase run reached taken
    have skipped := exec_dueEvent_skipped track phase run reached taken
    exact ⟨fun pauses => ⟨fun held => (written held).1 pauses, fun other => (skipped other).1 pauses⟩,
      State.takeRecord_staged track phase run reached taken,
      fun outside => ⟨fun held => (written held).2.2 outside, fun other => (skipped other).2.2 outside⟩⟩
  · have taken := State.takeRecord_setJet cue t
    refine ⟨fun held => ?_, fun other => (exec_dueEvent_skipped track phase run reached taken other).2.2 outside⟩
    rw [(exec_dueEvent_written track phase run reached taken held).2.2 outside, State.clamp_height]
  · exact (advances (State.takeRecord_loop t cue room)).2.2
  · exact ⟨fun left => (advances (State.takeRecord_loopEnd_left t cue stack left)).2.2,
      fun more waits => (advances (State.takeRecord_loopEnd_back t cue stack more waits)).2.2⟩
  · exact (advances (State.takeRecord_return t cue stack)).2.2

/-! ## The limit of one due event (R57) -/

/-- A gain record whose next record lies in the window: AUD's slot takes the gain where the owner holds AUD. -/
theorem State.takeRecord_gain {s : State} {t : Fin 4} {b : TrackBody} {n : Nat}
    (cue : CueRecord.cue (Memory.record s.cues b.cue) = .setGain n) (window : (s.rights b.owner).inWindow (b.cue + 1) = true) :
    (s.takeRecord t b).track t = some { b with cue := b.cue + 1 } ∧ ((s.takeRecord t b).entry audChannel).slot =
      if (s.entry audChannel).hold.holder = some b.owner then some (.gain (min n 256)) else (s.entry audChannel).slot := by
  rw [State.takeRecord_setGain cue]
  split_ifs with held
  · have inside : ((s.setSlot audChannel (some (s.clamp audChannel (.gain n)))).rights b.owner).inWindow (b.cue + 1) = true := window
    rw [State.takeSet_written t _ held, State.advance, if_pos inside]
    exact ⟨State.track_setTrack_self _ t _, congrArg ChannelEntry.slot (State.entry_setEntry_self s audChannel _)⟩
  · have inside : ((s.tellSkipped t b 1).rights b.owner).inWindow (b.cue + 1) = true := window
    rw [State.takeSet_skipped t _ held, State.advance, if_pos inside]
    exact ⟨State.track_setTrack_self _ t _, rfl⟩

/-- A chain of gain records of delta 0 that reaches the limit faults at the record after it. -/
theorem State.takeRecords_gains (n : Nat) {s : State} {t : Fin 4} {b : TrackBody} {g : Nat → Nat} (due : Nat)
    (running : s.runningBody t = some b)
    (gains : ∀ i, i ≤ n → (s.rights b.owner).inWindow (b.cue + i) = true
      ∧ CueRecord.cue (Memory.record s.cues (b.cue + i)) = .setGain (g i)
      ∧ (0 < i → CueRecord.delta (Memory.record s.cues (b.cue + i)) = 0)) :
    (State.takeRecords n s t due).track t = some ⟨b.owner, b.cue + n, b.stack, noReasons, .faulted .runaway⟩
      ∧ ((State.takeRecords n s t due).entry audChannel).slot =
        if 0 < n ∧ (s.entry audChannel).hold.holder = some b.owner then some (.gain (min (g (n - 1)) 256))
        else (s.entry audChannel).slot := by
  induction n generalizing s b g with
  | zero =>
    simp only [State.takeRecords, running]
    exact ⟨State.track_setTrack_self s t _, rfl⟩
  | succ n ih =>
    obtain ⟨-, cue, -⟩ := gains 0 (Nat.zero_le _)
    obtain ⟨window, -, delta⟩ := gains 1 (by omega)
    obtain ⟨moved, slot⟩ := State.takeRecord_gain (t := t) cue window
    have acts := (s.takeRecord_taken t b).acts
    obtain ⟨-, due', at_, phase⟩ := State.runningBody_eq_some.mp running
    have next : (s.takeRecord t b).runningBody t = some { b with cue := b.cue + 1 } :=
      State.runningBody_eq_some.mpr ⟨moved, due', at_, phase⟩
    have zero : (s.takeRecord t b).cueDelta { b with cue := b.cue + 1 } = 0 := by
      rw [State.cueDelta, acts.cues]; exact delta Nat.one_pos
    obtain ⟨track, last⟩ := ih (g := fun i => g (i + 1)) next fun i hi => by
      obtain ⟨window, cue, delta⟩ := gains (i + 1) (by omega)
      rw [acts.rights, acts.cues, Nat.add_assoc, Nat.add_comm 1 i]
      exact ⟨window, cue, fun _ => delta (Nat.succ_pos i)⟩
    rw [State.takeRecords_some running]
    simp only [next, zero, if_true]
    refine ⟨?_, ?_⟩
    · rw [track, Nat.add_assoc, Nat.add_comm 1 n]
    · rw [last, slot, acts.hold]
      by_cases held : (s.entry audChannel).hold.holder = some b.owner
      · rcases Nat.eq_zero_or_pos n with rfl | pos
        · simp [held]
        · have same : n - 1 + 1 = n := by omega
          simp [held, pos, same]
      · simp [held]

/-- Settles O23: the 33rd record of the chain is the one past the limit. -/
theorem dueEventStopsAt32Records : Obligations.DueEventStopsAt32Records := by
  intro s t b g due at_ track phase run reached gains
  have running := State.runningBody_eq_some.mpr ⟨track, due, at_, phase⟩
  obtain ⟨faulted, slot⟩ := State.takeRecords_gains 32 due running gains
  refine ⟨_, rfl, ?_⟩
  have none := State.dueNow_of_phase faulted (fun _ _ e => nomatch e)
  rw [State.takeDue_of_owed track phase run reached, State.takeDue_of_none none, settleIdle_only]
  exact ⟨faulted, slot.trans (by simp)⟩

end Sys2Proof.Machine

/-!
# The passing of time (log 2)
-/

namespace Sys2Proof.Machine

/-! ## The deadlines reached -/

theorem State.dueNow_isSome_iff (s : State) (t : Fin 4) : (s.dueNow t).isSome = true ↔ s.clock.run = .running
    ∧ ∃ b ∈ (s.track t).toList, ∃ at_ ∈ b.phase.dueAt.toList, at_ ≤ s.clock.value := by
  rw [Option.isSome_iff_exists]
  constructor
  · rintro ⟨due, owed⟩
    obtain ⟨run, b, at_, track, phase, reached⟩ := State.dueNow_eq_some.mp owed
    exact ⟨run, b, Option.mem_toList.mpr track, at_, by rw [phase]; exact List.mem_singleton_self _, reached⟩
  · rintro ⟨run, b, track, at_, running, reached⟩
    rcases phase : b.phase with _ | ⟨due, at'⟩ | _ | _ | _ <;> rw [phase] at running <;>
      simp only [Phase.dueAt, Option.toList_none, List.not_mem_nil] at running
    obtain rfl := List.mem_singleton.mp running
    exact ⟨due, State.dueNow_eq_some.mpr ⟨run, b, at_, Option.mem_toList.mp track, phase, reached⟩⟩

theorem State.recallOwed_iff (s : State) (ch : Fin 177) :
    s.recallOwed ch = true ↔ ∃ d ∈ (s.entry ch).hold.deadline.toList, d ≤ s.now := by
  unfold State.recallOwed
  cases (s.entry ch).hold <;> simp [Hold.deadline]

theorem State.reached_iff (s : State) (deadline : Option Nat) : s.reached deadline = true ↔ ∃ d ∈ deadline.toList, d ≤ s.now := by
  cases deadline <;> simp [State.reached]

theorem State.owed_eq_none_iff (s : State) : s.owed = none ↔ (∀ t, (s.dueNow t).isSome = false) ∧ (∀ ch, s.recallOwed ch = false)
    ∧ s.reached s.safety.holdDeadline = false ∧ s.reached s.unit.idleDeadline = false ∧ s.now < s.shaper.frameDue := by
  have tracks : (Table.indices 4).find? (fun t => (s.dueNow t).isSome) = none ↔ ∀ t, (s.dueNow t).isSome = false := by
    simp only [List.find?_eq_none, Table.mem_indices, true_implies, Bool.not_eq_true]
  have channels : (Table.indices 177).find? s.recallOwed = none ↔ ∀ ch, s.recallOwed ch = false := by
    simp only [List.find?_eq_none, Table.mem_indices, true_implies, Bool.not_eq_true]
  rw [← tracks, ← channels, State.owed]
  rcases (Table.indices 4).find? (fun t => (s.dueNow t).isSome) with _ | t
  · rcases (Table.indices 177).find? s.recallOwed with _ | ch
    · cases s.reached s.safety.holdDeadline <;> cases s.reached s.unit.idleDeadline <;> simp
    · simp
  · simp

/-- The event owed is that of a deadline reached. -/
theorem State.owed_cases {s : State} {c : Instr} (h : s.owed = some c) :
    (∃ t, c = .dueEvent t ∧ (s.dueNow t).isSome = true) ∨ (∃ ch, c = .recallExpiry ch ∧ s.recallOwed ch = true)
      ∨ (c = .holdTimerExpiry ∧ s.reached s.safety.holdDeadline = true)
      ∨ (c = .idleTimerExpiry ∧ s.reached s.unit.idleDeadline = true) ∨ (c = .frameEvent ∧ s.shaper.frameDue ≤ s.now) := by
  unfold State.owed at h
  split at h
  · next t found => exact .inl ⟨t, (Option.some.inj h).symm, List.find?_some (p := fun t => (s.dueNow t).isSome) found⟩
  · split at h
    · next ch found => exact .inr (.inl ⟨ch, (Option.some.inj h).symm, List.find?_some found⟩)
    · split_ifs at h with hold idle frame
      · exact .inr (.inr (.inl ⟨(Option.some.inj h).symm, hold⟩))
      · exact .inr (.inr (.inr (.inl ⟨(Option.some.inj h).symm, idle⟩)))
      · exact .inr (.inr (.inr (.inr ⟨(Option.some.inj h).symm, frame⟩)))

/-! ## What a millisecond queues -/

theorem ClockUnit.tick_eq (c : ClockUnit) :
    c.tick = (if c.run = .running ∧ c.source = .internal then [Instr.clockTick] else [])
      ++ (if c.run = .running ∧ c.source = .audio ∧ c.coasting = true then [Instr.coastTick] else []) := by
  unfold ClockUnit.tick
  cases c.run <;> cases c.source <;> simp

theorem stepOf_eq (o : RangeOp) : stepOf o = if o.isClaim then Instr.rclaimStep
    else if o = .release then Instr.rreleaseStep else if o.isSet then Instr.rsetStep
    else if o = .watch then Instr.rwatchStep else Instr.runwatchStep := by
  cases o <;> rfl

theorem State.ticks_eq (s : State) : s.ticks =
    s.clock.tick ++ s.range.active.toList.map fun r => stepOf r.op := by
  unfold State.ticks
  cases s.range.active <;> rfl

theorem step_of_empty {s : State} (empty : s.pending = []) : step s = .next s.passTime := by
  unfold step; rw [empty]

/-- Settles O3: time passes where no deadline is reached; else the event owed is queued. -/
theorem timeWaitsForDeadlines : Obligations.TimeWaitsForDeadlines := by
  intro s empty
  refine ⟨fun none => ?_, ?_, fun c hc => ?_⟩
  · rw [step_of_empty empty, State.passTime]
    simp only [none, State.ticks_eq, ClockUnit.tick_eq, stepOf_eq]
  · have still : ∀ {x : Bool} {p : Prop}, (x = true ↔ p) → (x = false ↔ ¬ p) := fun h => by rw [← h, Bool.not_eq_true]
    rw [State.owed_eq_none_iff, still (s.reached_iff _), still (s.reached_iff _)]
    simp only [still (s.dueNow_isSome_iff _), still (s.recallOwed_iff _), not_and, not_exists, Nat.not_le]
    constructor
    · rintro ⟨tracks, channels, hold, idle, frame⟩
      exact ⟨frame, hold, idle, channels, fun run t => tracks t run⟩
    · rintro ⟨frame, hold, idle, channels, tracks⟩
      exact ⟨fun t run => tracks run t, channels, hold, idle, frame⟩
  · have owed := Option.mem_toList.mp hc
    refine ⟨?_, ?_⟩
    · rw [step_of_empty empty, State.passTime]
      simp only [owed]
    · rcases State.owed_cases owed with ⟨t, rfl, h⟩ | ⟨ch, rfl, h⟩ | ⟨rfl, h⟩ | ⟨rfl, h⟩ | ⟨rfl, h⟩
      · exact .inl ⟨t, rfl, (s.dueNow_isSome_iff t).mp h⟩
      · exact .inr (.inl ⟨ch, rfl, (s.recallOwed_iff ch).mp h⟩)
      · exact .inr (.inr (.inl ⟨rfl, (s.reached_iff _).mp h⟩))
      · exact .inr (.inr (.inr (.inl ⟨rfl, (s.reached_iff _).mp h⟩)))
      · exact .inr (.inr (.inr (.inr ⟨rfl, h⟩)))

end Sys2Proof.Machine

/-!
# The cue store: the validation of a record, CUE_LOAD and CUE_READ (03 R43 to R50)
-/

namespace Sys2Proof.Machine

/-! ## The validation of a record (R46) -/

theorem ite_some_or {α : Type} (c : Prop) [Decidable c] (a : α) (x y : Option α) :
    (if c then some a else x).or y = if c then some a else x.or y := by
  split <;> rfl

section Fault

variable (r : CueRecord)

theorem CueRecord.flagsFault_eq : CueRecord.flagsFault r =
    if 1 < CueRecord.byte r 1 ∨ (CueRecord.byte r 1 = 1 ∧ CueRecord.byte r 0 ≠ 0x11) then some 1 else none := by
  unfold CueRecord.flagsFault
  split_ifs <;> first | rfl | omega

theorem CueRecord.operandFault_eq : CueRecord.operandFault r =
    if (CueRecord.byte r 0 = 0x01 ∨ CueRecord.byte r 0 = 0x02) ∧ 127 < CueRecord.byte r 4 then some 4
    else if CueRecord.byte r 0 = 0x02 ∧ (CueRecord.byte r 5 = 0 ∨ 16 < CueRecord.byte r 5
      ∨ 128 < CueRecord.byte r 4 + CueRecord.byte r 5) then some 5
    else if CueRecord.byte r 0 = 0x03 ∧ (CueRecord.byte r 4 < 128 ∨ 175 < CueRecord.byte r 4) then some 4
    else if CueRecord.byte r 0 = 0x10 ∧ CueRecord.byte r 4 = 0 then some 4
    else if CueRecord.byte r 0 = 0x13 ∧ 2047 < CueRecord.byte r 6 * 256 + CueRecord.byte r 7 then some 6
    else none := by
  unfold CueRecord.operandFault CueRecord.word
  generalize CueRecord.byte r 0 = kind, CueRecord.byte r 4 = b4, CueRecord.byte r 5 = b5
  split <;> grind

/-- Check 4 where check 2 has passed: byte 1 is 0 or 1. -/
theorem CueRecord.untilFault_eq (flags : CueRecord.byte r 1 ≤ 1) : CueRecord.untilFault r =
    if CueRecord.byte r 0 = 0x11 ∧ (CueRecord.byte r 1 = 1 ∧ CueRecord.byte r 5 = 0
      ∨ CueRecord.byte r 1 = 0 ∧ CueRecord.byte r 5 ≠ 0) then some 5 else none := by
  unfold CueRecord.untilFault
  refine if_congr (and_congr_right fun _ => ?_) rfl rfl
  omega

/-- The operand bytes given as 0 are the same ones, kind by kind. -/
theorem zeroOffsets_eq : ∀ kind ∈ cueKinds, zeroOffsets kind = (Table.indices 16).filter fun k => unusedByte kind k.val := by
  decide

theorem CueRecord.firstNonZero_eq (h : CueRecord.byte r 0 ∈ cueKinds) :
    CueRecord.firstNonZero r (zeroOffsets (CueRecord.byte r 0)) =
      ((Table.indices 16).find? fun (k : Fin 16) => unusedByte (CueRecord.byte r 0) k.val && CueRecord.byte r k != 0).map
        (·.val) := by
  rw [CueRecord.firstNonZero, zeroOffsets_eq _ h, List.find?_filter]
  congr 2
  funext k
  simp only [ne_eq, decide_not, bne, beq_eq_decide, Bool.decide_and, Bool.decide_eq_true]

end Fault

/-- Settles O17: the checks one after another. -/
theorem cueRecordFault : Obligations.CueRecordFault := by
  intro r
  rw [CueRecord.fault]
  refine ite_congr rfl (fun _ => rfl) fun known => ?_
  rw [CueRecord.flagsFault_eq, ite_some_or, Option.none_or]
  refine ite_congr rfl (fun _ => rfl) fun flags => ?_
  have kind : CueRecord.byte r 0 ∈ cueKinds := not_not.mp known
  have bit : CueRecord.byte r 1 ≤ 1 := by omega
  rw [CueRecord.operandFault_eq, CueRecord.untilFault_eq r bit, CueRecord.firstNonZero_eq r kind]
  simp only [ite_some_or, Option.none_or]
  have zero : CueRecord.emptyFault r =
      if CueRecord.byte r 0 = 0 ∧ (CueRecord.byte r 2 ≠ 0 ∨ CueRecord.byte r 3 ≠ 0) then some 2 else none := by
    unfold CueRecord.emptyFault CueRecord.delta CueRecord.word
    refine if_congr (and_congr_right fun _ => ?_) rfl rfl
    omega
  rw [zero]
  cases (Table.indices 16).find? fun (k : Fin 16) => unusedByte (CueRecord.byte r 0) k.val && CueRecord.byte r k != 0 <;> rfl

/-! ## CUE_READ (R50) -/

/-- A block that refuses with a full error detail, its effect not meeting the request in progress. -/
theorem State.request_refused {s t : State} {p : Port} (h : s.portReady p) (kind : Nat) (tag : U8) {act : State → State × Answer}
    {st : Status} {field index residual : Nat} (hst : st.isRefusal = true)
    (hact : act (s.beginRequest p kind tag.val) =
      (t.beginRequest p kind tag.val, { status := st, field := field, index := index, residual := residual })) :
    s.request p kind tag act = t.refusal p kind tag st field index residual := by
  rw [State.request_of_portReady h, hact, State.respond_beginRequest]
  have body : ({ status := st, field := field, index := index, residual := residual } : Answer).responseBody = .empty := by
    cases st <;> rfl
  simp only [State.respond, State.refusal, nextErrorDetail, hst, body, if_true]

theorem Memory.records_eq (m : Memory) (start n : Nat) : Memory.records m start n =
    (List.range n).map fun i => Table.build fun b : Fin 16 => Memory.read m (16 * (start + i) + b.val) := by
  induction n generalizing start with
  | zero => rfl
  | succ n ih =>
    rw [Memory.records, ih, List.range_succ_eq_map, List.map_cons, List.map_map]
    refine congrArg _ (List.map_congr_left fun i _ => ?_)
    simp only [Function.comp_apply, Nat.succ_eq_add_one, Nat.add_assoc, Nat.add_comm 1 i]

section Cues

variable {s : State} {p : Port} (ready : s.portReady p) (tag count : U8) (start : U16)
include ready

theorem exec_cueRead_reported (hcount : count.val ≤ 16) (within : start.val + resolveCount 16 count.val ≤ 2048) :
    exec (.cueRead p tag start count) s =
      .next (s.answered p 0x21 tag .ok (.cueRecords (Memory.records s.cues start.val (resolveCount 16 count.val)))) := by
  have some : 0 < resolveCount 16 count.val := by unfold resolveCount; split <;> omega
  refine congrArg Host.Outcome.next (State.request_report ready (by decide) tag (if_neg ?_))
  omega

theorem exec_cueRead_refused (h : 16 < count.val ∨ 2048 < start.val + resolveCount 16 count.val) :
    exec (.cueRead p tag start count) s = .next (s.refused p 0x21 tag .outOfRange) := by
  have some : 0 < resolveCount 16 count.val := by unfold resolveCount; split <;> omega
  refine congrArg Host.Outcome.next (State.request_refuse ready _ tag rfl (if_pos ?_))
  omega

end Cues

/-! ## CUE_LOAD (R48) -/

theorem Memory.writeBytes_append (m : Memory) (a : Nat) (x y : List Byte) :
    Memory.writeBytes m a (x ++ y) = Memory.writeBytes (Memory.writeBytes m a x) (a + x.length) y := by
  induction x generalizing m a with
  | nil => rfl
  | cons v rest ih =>
    rw [List.cons_append, Memory.writeBytes, Memory.writeBytes, ih, List.length_cons, Nat.add_assoc, Nat.add_comm 1]

/-- Records that lie in the window and are valid are written one after another, and the load goes on with the rest. -/
theorem loadRecords_written {window : PortRights} {k : Nat} {m : Memory} {index : Nat} {l : List CueRecord} (hk : k ≤ l.length)
    (inside : ∀ i, i < k → window.inWindow (index + i) = true) (valid : ∀ r ∈ l.take k, CueRecord.fault r = none) :
    loadRecords window m index l =
      loadRecords window (Memory.writeBytes m (16 * index) ((l.take k).map Table.rows).flatten) (index + k) (l.drop k) := by
  induction k generalizing m index l with
  | zero => rfl
  | succ k ih =>
    rcases l with _ | ⟨r, rest⟩
    · cases hk
    · have first : window.inWindow index = true := inside 0 (Nat.succ_pos k)
      have fault : CueRecord.fault r = none := valid r (by simp)
      have size : r.rows.length = 16 := r.size
      rw [loadRecords, if_pos first]
      simp only [fault]
      rw [ih (Nat.le_of_succ_le_succ hk) (fun i hi => by rw [Nat.add_right_comm]; exact inside (i + 1) (Nat.succ_lt_succ hi))
        (fun x hx => valid x (by simp [hx]))]
      have next : 16 * (index + 1) = 16 * index + r.rows.length := by omega
      rw [List.take_succ_cons, List.map_cons, List.flatten_cons, Memory.writeBytes_append, ← next, Memory.setRecord,
        List.drop_succ_cons, Nat.add_right_comm, Nat.add_assoc]

theorem length_recordBytes (l : List CueRecord) : (l.map Table.rows).flatten.length = 16 * l.length := by
  induction l with
  | nil => rfl
  | cons r rest ih =>
    have size : r.rows.length = 16 := r.size
    rw [List.map_cons, List.flatten_cons, List.length_append, ih, size, List.length_cons]
    omega

/-- What the store reads after the first records of a load are written. -/
theorem Memory.read_recordsWritten {m : Memory} (wf : Memory.wf m = true) (start a : Nat) {k : Nat} {l : List CueRecord}
    (hk : k ≤ l.length) : Memory.read (Memory.writeBytes m (16 * start) ((l.take k).map Table.rows).flatten) a =
      if 16 * start ≤ a ∧ a < 16 * (start + k) then (l.map Table.rows).flatten.getD (a - 16 * start) 0 else Memory.read m a := by
  have length : ((l.take k).map Table.rows).flatten.length = 16 * k := by
    rw [length_recordBytes, List.length_take, Nat.min_eq_left hk]
  rw [Memory.read_writeBytes wf, length, Nat.mul_add]
  refine ite_congr rfl (fun within => ?_) fun _ => rfl
  conv_rhs => rw [← List.take_append_drop k l, List.map_append, List.flatten_append]
  exact (List.getD_append _ _ _ _ (by omega)).symm

section Load

variable {s : State} {p : Port} {start : U16} {count : U8} {records : List CueRecord} {m : Memory} {index offset : Nat}

theorem cueLoadFits_iff : cueLoadFits count (16 * records.length) = true ↔
    count.val ≤ 16 ∧ records.length = resolveCount 16 count.val := by
  simp [cueLoadFits]

variable (fits : cueLoadFits count (16 * records.length) = true) (low : start.val ≤ 2047)
include fits low

theorem cueLoadAction_loaded (h : loadRecords (s.rights p) s.cues start.val records = (m, .all)) :
    cueLoadAction p start count records s = ({ s with cues := m }, .ok) := by
  simp only [cueLoadAction, fits, if_true, if_neg (Nat.not_lt.mpr low), h]

theorem cueLoadAction_outside (h : loadRecords (s.rights p) s.cues start.val records = (m, .outside index)) :
    cueLoadAction p start count records s = ({ s with cues := m },
      { status := .noRight, field := 1, index := index, residual := records.length - (index - start.val) }) := by
  have total : resolveCount 16 count.val = records.length := (cueLoadFits_iff.mp fits).2.symm
  simp only [cueLoadAction, fits, if_true, if_neg (Nat.not_lt.mpr low), h, total]

theorem cueLoadAction_invalid (h : loadRecords (s.rights p) s.cues start.val records = (m, .invalid index offset)) :
    cueLoadAction p start count records s = ({ s with cues := m },
      { status := .cueInvalid, field := offset, index := index, residual := records.length - (index - start.val) }) := by
  have total : resolveCount 16 count.val = records.length := (cueLoadFits_iff.mp fits).2.symm
  simp only [cueLoadAction, fits, if_true, if_neg (Nat.not_lt.mpr low), h, total]

end Load

section Loads

variable {s : State} {p : Port} (ready : s.portReady p) (tag : U8) {start : U16} {count : U8} {records : List CueRecord}
  {m : Memory} {k offset : Nat} (fits : cueLoadFits count (16 * records.length) = true) (low : start.val ≤ 2047)
include ready fits low

theorem exec_cueLoad_loaded (h : loadRecords (s.rights p) s.cues start.val records = (m, .all)) :
    exec (.cueLoad p tag start count records) s = .next (State.ok { s with cues := m } p 0x20 tag) :=
  congrArg Host.Outcome.next (State.request_report ready (by decide) tag
    (cueLoadAction_loaded (s := s.beginRequest p 0x20 tag.val) fits low h))

theorem exec_cueLoad_outside (h : loadRecords (s.rights p) s.cues start.val records = (m, .outside (start.val + k))) :
    exec (.cueLoad p tag start count records) s =
      .next (State.refusal { s with cues := m } p 0x20 tag .noRight 1 (start.val + k) (records.length - k)) := by
  have left : records.length - (start.val + k - start.val) = records.length - k := by omega
  rw [← left]
  exact congrArg Host.Outcome.next (State.request_refused (t := { s with cues := m }) ready _ tag rfl
    (cueLoadAction_outside (s := s.beginRequest p 0x20 tag.val) fits low h))

theorem exec_cueLoad_invalid (h : loadRecords (s.rights p) s.cues start.val records = (m, .invalid (start.val + k) offset)) :
    exec (.cueLoad p tag start count records) s =
      .next (State.refusal { s with cues := m } p 0x20 tag .cueInvalid offset (start.val + k) (records.length - k)) := by
  have left : records.length - (start.val + k - start.val) = records.length - k := by omega
  rw [← left]
  exact congrArg Host.Outcome.next (State.request_refused (t := { s with cues := m }) ready _ tag rfl
    (cueLoadAction_invalid (s := s.beginRequest p 0x20 tag.val) fits low h))

end Loads

/-- Settles O16: the first records are written as they stand; the load ends with them, or at the record after them. -/
theorem cueLoadAndRead : Obligations.CueLoadAndRead := by
  intro s p tag count start records k a offset ready
  refine ⟨fun hcount within => ?_, exec_cueRead_refused ready tag count start, fun misfit => ?_, fun hcount length => ⟨fun past => ?_, ?_⟩⟩
  · rw [exec_cueRead_reported ready tag count start hcount within, Memory.records_eq]; rfl
  · refine congrArg Host.Outcome.next (State.request_refuse ready _ tag rfl (if_neg fun fits => ?_))
    obtain ⟨hcount, length⟩ := cueLoadFits_iff.mp fits
    exact misfit.elim (Nat.not_lt.mpr hcount) (· length)
  · have fits : cueLoadFits count (16 * records.length) = true := cueLoadFits_iff.mpr ⟨hcount, length⟩
    exact congrArg Host.Outcome.next (State.request_refuse ready _ tag rfl ((if_pos fits).trans (if_pos past)))
  · intro wf low inside valid
    have fits : cueLoadFits count (16 * records.length) = true := cueLoadFits_iff.mpr ⟨hcount, length⟩
    have written := fun hk => loadRecords_written (m := s.cues) (k := k) hk
      (fun i hi => (PortRights.inWindow_iff (s.rights p) (start.val + i)).mpr (inside i hi)) valid
    have reads := fun {hk} => Memory.read_recordsWritten wf start.val a (k := k) (l := records) hk
    refine ⟨fun all => ?_, fun more outside => ?_, fun base top fault => ?_⟩
    · refine ⟨_, exec_cueLoad_loaded ready tag fits low ((written all.ge).trans ?_), rfl, reads (hk := all.ge)⟩
      rw [List.drop_of_length_le all.le, loadRecords]
    · refine ⟨_, exec_cueLoad_outside ready tag fits low ((written more.le).trans ?_), rfl, reads (hk := more.le)⟩
      rw [List.drop_eq_getElem_cons more, loadRecords, if_neg (mt (PortRights.inWindow_iff ..).mp outside)]
    · obtain ⟨r, hr, fault⟩ := Option.bind_eq_some_iff.mp fault
      obtain ⟨more, rfl⟩ := List.getElem?_eq_some_iff.mp hr
      refine ⟨_, exec_cueLoad_invalid ready tag fits low ((written more.le).trans ?_), rfl, reads (hk := more.le)⟩
      rw [List.drop_eq_getElem_cons more, loadRecords, if_pos ((PortRights.inWindow_iff ..).mpr ⟨base, top⟩)]
      simp only [fault]

end Sys2Proof.Machine

/-!
# The show clock: CLOCK_RUN, CLOCK_STOP and AUDIO_BLOCK (04 R67 to R81)
-/

namespace Sys2Proof.Machine

/-! ## The clock's actions, as the statements write them -/

theorem queueFrom_eq (queue : List Block) (p : Nat) : queueFrom queue p = bringTo p queue := rfl

@[simp] theorem State.setClock_setClock (s : State) (c d : ClockUnit) : (s.setClock c).setClock d = s.setClock d := rfl

theorem State.audHolder_setClock (s : State) (c : ClockUnit) : (s.setClock c).audHolder = s.audHolder := rfl

/-- A notice stamped with the clock's value and a change of the clock that leaves its value, in either order. -/
theorem State.postAud_setClock (s : State) {c : ClockUnit} (value : c.value = s.clock.value) (k : NoticeKind) (detail : Nat) :
    (s.postAud k detail).setClock c = (s.setClock c).postAud k detail := by
  unfold State.postAud
  rw [State.audHolder_setClock]
  cases s.audHolder with
  | none => rfl
  | some p =>
    have stamp : (s.setClock c).clock.value = s.clock.value := value
    dsimp only [State.post]
    rw [stamp]
    rfl

theorem State.rangeEnd_eq (s : State) : s.rangeEnd = (s.setClock s.clock.heldUp).postAud .underrun 2 := by
  rw [← s.postAud_setClock (by rfl), State.rangeEnd]
  dsimp only
  rw [State.postAud_clock]
  rfl

theorem State.meetUnderrun_eq (s : State) : s.meetUnderrun =
    (s.setClock (s.clock.underrunBy s.config.global.policy)).postAud .underrun (policyCode s.config.global.policy) := by
  rw [← s.postAud_setClock (s.clock.underrunBy_value _)]
  unfold State.meetUnderrun ClockUnit.underrunBy
  cases s.config.global.policy <;> dsimp only <;> rw [State.postAud_clock]

theorem State.endCoasting_eq (s : State) :
    s.endCoasting = (s.setClock { s.clock with coasting := false }).postAud .audioResumed 0 := rfl

/-! ## Beside a request in progress -/

theorem State.setClock_beginRequest (s : State) (p : Port) (kind tag : Nat) (c : ClockUnit) :
    (s.beginRequest p kind tag).setClock c = (s.setClock c).beginRequest p kind tag := rfl

theorem State.postAud_beginRequest (s : State) (p : Port) (kind tag : Nat) (k : NoticeKind) (detail : Nat) :
    (s.beginRequest p kind tag).postAud k detail = (s.postAud k detail).beginRequest p kind tag := by
  have holder : (s.beginRequest p kind tag).audHolder = s.audHolder := rfl
  unfold State.postAud
  rw [holder]
  cases s.audHolder with
  | none => rfl
  | some q => exact s.post_beginRequest p q kind tag _ _ _

theorem State.meetStart_beginRequest (s : State) (p : Port) (kind tag : Nat) :
    (s.beginRequest p kind tag).meetStart = s.meetStart.beginRequest p kind tag := by
  have config : (s.beginRequest p kind tag).config = s.config := rfl
  unfold State.meetStart
  rw [State.clock_beginRequest, State.rangeEnd_eq, State.rangeEnd_eq, State.meetUnderrun_eq, State.meetUnderrun_eq,
    State.clock_beginRequest, config, State.setClock_beginRequest, State.setClock_beginRequest, State.postAud_beginRequest,
    State.postAud_beginRequest]
  split_ifs <;> rfl

theorem State.blockArrived_beginRequest (s : State) (p : Port) (kind tag : Nat) :
    (s.beginRequest p kind tag).blockArrived = s.blockArrived.beginRequest p kind tag := by
  unfold State.blockArrived
  rw [State.clock_beginRequest, State.endCoasting_eq, State.endCoasting_eq, State.clock_beginRequest,
    State.setClock_beginRequest, State.setClock_beginRequest, State.postAud_beginRequest, State.postAud_beginRequest]
  split_ifs <;> rfl

/-- A request taken that answers with a body, with the idle condition evaluated after its effect. -/
theorem State.settledRequest_report {s t : State} {p : Port} (ready : s.portReady p) {kind : Nat} (hkind : kind ≠ errorDetailKind)
    (tag : U8) {act : State → State × Answer} {body : Body}
    (hact : act (s.beginRequest p kind tag.val) = (t.beginRequest p kind tag.val, .report body)) :
    s.request p kind tag (settled act) = (settleIdle s t).answered p kind tag .ok body :=
  State.request_report ready hkind tag (by rw [settled, hact, settleIdle_beginRequest])

/-! ## What a started clock meets (R69, R79 to R81) -/

section MeetStart

variable {s : State}

theorem State.meetStart_still (h : s.clock.run ≠ .running ∨ s.clock.source ≠ .audio) : s.meetStart = s :=
  if_neg fun ⟨run, source⟩ => h.elim (· run) (· source)

variable (run : s.clock.run = .running) (source : s.clock.source = .audio)
include run source

theorem State.meetStart_last (last : s.clock.position = 4294967295) : s.meetStart = s.rangeEnd :=
  (if_pos ⟨run, source⟩).trans (if_pos last)

theorem State.meetStart_empty (before : s.clock.position ≠ 4294967295) (empty : s.clock.queue = [])
    (coasting : s.clock.coasting = false) : s.meetStart = s.meetUnderrun :=
  (if_pos ⟨run, source⟩).trans ((if_neg before).trans (if_pos ⟨by rw [empty]; rfl, coasting⟩))

theorem State.meetStart_plays (before : s.clock.position ≠ 4294967295) (queue : s.clock.queue ≠ []) : s.meetStart = s :=
  (if_pos ⟨run, source⟩).trans ((if_neg before).trans (if_neg fun ⟨empty, _⟩ => queue (List.isEmpty_iff.mp empty)))

end MeetStart

/-! ## CLOCK_RUN and CLOCK_STOP (R69, R71) -/

section Clock

variable {s : State} {p : Port} {tag src : U8} {start : U32} (ready : s.portReady p)
include ready

theorem exec_clockRun_refused {st : Status} {field : Nat} (refusal : st.isRefusal = true)
    (h : clockRunAction p src start (s.beginRequest p 0x30 tag.val) = (s.beginRequest p 0x30 tag.val, .refuse st field)) :
    exec (.clockRun p tag src start) s = .next (s.refusal p 0x30 tag st field 0 0) :=
  congrArg Host.Outcome.next (State.settledRequest_refused ready tag refusal h)

theorem exec_clockStop_refused {st : Status} {field : Nat} (refusal : st.isRefusal = true)
    (h : clockStopAction p (s.beginRequest p 0x31 tag.val) = (s.beginRequest p 0x31 tag.val, .refuse st field)) :
    exec (.clockStop p tag) s = .next (s.refusal p 0x31 tag st field 0 0) :=
  congrArg Host.Outcome.next (State.settledRequest_refused ready tag refusal h)

theorem exec_clockRun_taken {source : Source} (h : sourceOf src.val = some source) (holder : s.audHolder = some p)
    (mode : s.unit.mode = .live) (safety : s.safety.state = .normal) (still : s.anyTrackMoves = false) :
    exec (.clockRun p tag src start) s =
      .next ((settleIdle s (s.setClock (s.clock.start source start.val)).meetStart).ok p 0x30 tag) := by
  refine congrArg Host.Outcome.next (State.settledRequest_taken ready tag (by decide) ?_)
  have holder' : (s.beginRequest p 0x30 tag.val).audHolder = some p := holder
  have still' : (s.beginRequest p 0x30 tag.val).anyTrackMoves = false := still
  simp [clockRunAction, h, holder', mode, safety, still', State.setClock_beginRequest, State.meetStart_beginRequest]

theorem exec_clockStop_taken (holder : s.audHolder = some p) (still : s.anyTrackMoves = false) :
    exec (.clockStop p tag) s = .next ((settleIdle s (s.setClock s.clock.stop)).ok p 0x31 tag) := by
  refine congrArg Host.Outcome.next (State.settledRequest_taken ready tag (by decide) ?_)
  have holder' : (s.beginRequest p 0x31 tag.val).audHolder = some p := holder
  have still' : (s.beginRequest p 0x31 tag.val).anyTrackMoves = false := still
  simp [clockStopAction, holder', still', State.setClock_beginRequest]

end Clock

theorem sourceOf_none {n : Nat} (h : n = 0 ∨ 2 < n) : sourceOf n = none := by
  unfold sourceOf
  split <;> first | rfl | omega

/-- CLOCK_RUN's checks after the source code, in order. -/
theorem clockRunAction_known {src : U8} (h : src.val = 1 ∨ src.val = 2) (p : Port) (start : U32) (s : State) :
    ∃ source, clockRunAction p src start s =
      if s.audHolder ≠ some p then (s, .refuse .notHolder)
      else if s.unit.mode ≠ .live then (s, .refuse .wrongMode)
      else if s.safety.state ≠ .normal then (s, .refuse .wrongState)
      else if s.anyTrackMoves then (s, .refuse .busy)
      else ((s.setClock (s.clock.start source start.val)).meetStart, .ok) := by
  rcases h with h | h
  · exact ⟨.internal, by simp only [clockRunAction, h, sourceOf]⟩
  · exact ⟨.audio, by simp only [clockRunAction, h, sourceOf]⟩

/-- The clock that CLOCK_RUN with the audio source and no freeze leaves, before what it meets. -/
def ClockUnit.playingFrom (c : ClockUnit) (start : Nat) : ClockUnit :=
  { c with run := .running, source := .audio, underrun := false, coasting := false, output := ⟨0, 0⟩ }.atPosition start
    (queueFrom c.queue start)

theorem ClockUnit.start_audio {c : ClockUnit} (freeze : c.freeze = false) (start : Nat) : c.start .audio start = c.playingFrom start := by
  cases c
  simp only at freeze
  subst freeze
  rfl

/-- CLOCK_RUN from the audio source with no freeze: the clock plays, or meets the range end or an underrun at once. -/
theorem State.playingFrom_meets (s : State) (start : Nat) :
    (start ≠ 4294967295 → queueFrom s.clock.queue start ≠ [] →
      (s.setClock (s.clock.playingFrom start)).meetStart = s.setClock (s.clock.playingFrom start))
    ∧ (start = 4294967295 → (s.setClock (s.clock.playingFrom start)).meetStart =
      (s.setClock (s.clock.playingFrom start).heldUp).postAud .underrun 2)
    ∧ (start ≠ 4294967295 → queueFrom s.clock.queue start = [] → (s.setClock (s.clock.playingFrom start)).meetStart =
      (s.setClock ((s.clock.playingFrom start).underrunBy s.config.global.policy)).postAud .underrun
        (policyCode s.config.global.policy)) :=
  have playing : (s.setClock (s.clock.playingFrom start)).clock.run = .running := rfl
  ⟨State.meetStart_plays playing rfl, fun last => (State.meetStart_last playing rfl last).trans (State.rangeEnd_eq _),
    fun before empty => (State.meetStart_empty playing rfl before empty rfl).trans (State.meetUnderrun_eq _)⟩

/-- Settles O27: the checks in order; then what the clock started, or stopped, meets. -/
theorem clockRunAndStop : Obligations.ClockRunAndStop := by
  intro s p tag src start ready
  refine ⟨fun unknown => ?_, fun known => ?_, fun holder mode safety still => ?_, fun other => ?_, fun holder moves => ?_,
    fun holder still => exec_clockStop_taken ready holder still⟩
  · exact exec_clockRun_refused ready rfl (by simp only [clockRunAction, sourceOf_none unknown])
  · obtain ⟨source, checks⟩ := clockRunAction_known known p start (s.beginRequest p 0x30 tag.val)
    have refused := fun {st field} hst h => exec_clockRun_refused (st := st) (field := field) ready hst (checks.trans h)
    refine ⟨fun other => refused rfl (if_pos other), fun holder => ⟨fun mode => ?_, fun mode safety => ?_, fun mode safety moves => ?_⟩⟩
    all_goals refine refused rfl ((if_neg (not_not.mpr holder)).trans ?_)
    · exact if_pos mode
    · exact (if_neg (not_not.mpr mode)).trans (if_pos safety)
    · exact (if_neg (not_not.mpr mode)).trans ((if_neg (not_not.mpr safety)).trans (if_pos moves))
  · have audio := exec_clockRun_taken (tag := tag) (src := 2) (start := start) ready rfl holder mode safety still
    have told := fun (c : ClockUnit) detail =>
      State.postAud_of_holder (s := s.setClock c) (q := p) holder .underrun detail
    refine ⟨?_, fun freeze => ?_, fun freeze => ?_⟩
    · have started : s.clock.start .internal start.val = { s.clock with
          value := start, run := if s.clock.freeze then .stalled else .running, source := .internal
          underrun := false, coasting := false, output := ⟨0, 0⟩ } := rfl
      rw [exec_clockRun_taken (source := .internal) ready rfl holder mode safety still,
        State.meetStart_still (.inr (by simp [ClockUnit.start])), started]
    · have stalled : (s.clock.start .audio start.val).run = .stalled := by simp [ClockUnit.start, startedRun, freeze]
      have started : s.clock.start .audio start.val = { s.clock with
          run := .stalled, source := .audio, underrun := false, coasting := false
          output := ⟨0, 0⟩ }.atPosition start (queueFrom s.clock.queue start) := by
        simp only [ClockUnit.start, startedRun, freeze, Bool.or_true, if_true]; rfl
      rw [audio, State.meetStart_still (.inl (by rw [State.setClock_clock, stalled]; simp)), started]
    · obtain ⟨plays, ends, underruns⟩ := s.playingFrom_meets start.val
      rw [ClockUnit.start_audio freeze] at audio
      refine ⟨fun before queue => ?_, fun last => ?_, fun before empty => ⟨fun policy => ?_, fun policy => ?_⟩⟩
      · rw [audio, plays (by omega) queue]; rfl
      · rw [audio, ends last, told]; rfl
      · rw [audio, underruns (by omega) empty, policy, told, ClockUnit.playingFrom, empty]; rfl
      · rw [audio, underruns (by omega) empty, policy, told, ClockUnit.playingFrom, empty]; rfl
  · exact exec_clockStop_refused ready rfl (if_pos other)
  · exact exec_clockStop_refused ready rfl ((if_neg (not_not.mpr holder)).trans (if_pos moves))

end Sys2Proof.Machine

/-!
# AUDIO_BLOCK (04 R74, R75, R80, R81)
-/

namespace Sys2Proof.Machine

/-! ## The block that joins the queue (R75) -/

/-- Whether a block loses its marker where it joins the queue. -/
theorem marker_discarded (start marker offset bound : Nat) (frames : List (Sample × Sample)) :
    ((if marker = 0 then (none : Option Marker) else some ⟨marker, start + offset⟩).isSome
      && (arriving bound start marker offset frames).marker.isNone)
      = decide (marker ≠ 0 ∧ start + offset < bound) := by
  unfold arriving
  by_cases unmarked : marker = 0
  · simp [unmarked]
  · by_cases kept : bound ≤ start + offset
    · simp [unmarked, kept, Nat.not_lt.mpr kept]
    · simp [unmarked, kept, Nat.lt_of_not_le kept]

/-- The clock whose queue a block joins. -/
def ClockUnit.joined (c : ClockUnit) (start marker offset : Nat) (frames : List (Sample × Sample)) : ClockUnit :=
  { c with queue := c.queue ++ [arriving c.lateBound start marker offset frames] }

section Action

variable {p : Port} {start : U32} {count marker offset : U8} {reserved : List Byte} {frames : List (Sample × Sample)}

/-- AUDIO_BLOCK of a body that has its length: the checks of R74 in order, then R75. -/
theorem audioBlockAction_eq (lengths : reserved.length = 9 ∧ frames.length = resolveCount 256 count.val) (s : State) :
    audioBlockAction p start count marker offset reserved frames s =
      if audioFieldsOk start count marker offset reserved = false then (s, .refuse .outOfRange)
      else if s.unit.mode = .setup then (s, .refuse .wrongMode)
      else if s.audHolder ≠ some p then (s, .refuse .notHolder)
      else if 48 ≤ s.clock.queue.length then (s, .refuse .full)
      else if start.val + frames.length ≤ s.clock.lateBound then (s, .refuse .late)
      else ((s.setClock (s.clock.joined start.val marker.val offset.val frames)).blockArrived,
        .report (.audioTaken (s.clock.lateBound - start.val)
          (decide (marker.val ≠ 0 ∧ start.val + offset.val < s.clock.lateBound)))) := by
  rw [← marker_discarded start.val marker.val offset.val s.clock.lateBound frames, ClockUnit.joined, ← joined_eq_arriving]
  exact if_pos lengths

/-- Check 1 of R74 fails. -/
theorem audioFieldsOk_eq_false (length : frames.length = resolveCount 256 count.val) :
    audioFieldsOk start count marker offset reserved = false ↔
      marker.val = 0 ∧ offset.val ≠ 0 ∨ marker.val ≠ 0 ∧ frames.length ≤ offset.val ∨ (∃ b ∈ reserved, b ≠ 0)
        ∨ 4294967295 < start.val + frames.length := by
  have some_frames := resolveCount_pos count.val
  rw [← Bool.not_eq_true, audioFieldsOk_iff, length]
  have zeros : (∃ b ∈ reserved, b ≠ 0) ↔ ¬ ∀ b ∈ reserved, b = 0 := by simp
  rw [zeros]
  generalize (∀ b ∈ reserved, b = 0) = zero
  by_cases unmarked : marker.val = 0
  · simp only [unmarked, if_true]
    by_cases h : zero
    · simp only [h, not_true, ne_eq, true_and, false_and, false_or]
      omega
    · simp [h]
  · simp only [unmarked, if_false]
    by_cases h : zero
    · simp only [h, not_true, ne_eq, true_and, false_and, false_or]
      omega
    · simp [h]

end Action

/-! ## The end of an underrun (R80, R81) -/

theorem State.blockArrived_quiet {s : State} (underrun : s.clock.underrun = false)
    (h : s.clock.coasting = false ∨ s.clock.reachesBlock = false) : s.blockArrived = s := by
  rw [State.blockArrived, if_neg (by simp [underrun])]
  exact if_neg fun ⟨coasting, reaches⟩ => by rcases h with h | h <;> simp_all

theorem State.blockArrived_underrun {s : State} (underrun : s.clock.underrun = true) : s.blockArrived =
    (s.setClock { s.clock with
      underrun := false
      run := if s.clock.run = .stopped then .stopped else if s.clock.freeze then .stalled else .running }).postAud
        .audioResumed 1 := by
  rw [State.blockArrived, if_pos underrun]
  cases s.clock.freeze <;> rfl

theorem State.blockArrived_coasting {s : State} (underrun : s.clock.underrun = false) (coasting : s.clock.coasting = true)
    (reaches : s.clock.reachesBlock = true) :
    s.blockArrived = (s.setClock { s.clock with coasting := false }).postAud .audioResumed 0 := by
  rw [State.blockArrived, if_neg (by simp [underrun]), if_pos ⟨coasting, reaches⟩, State.endCoasting_eq]

theorem ClockUnit.reachesBlock_of_head {c : ClockUnit} {b : Block} (h : c.queue.head? = some b) :
    c.reachesBlock = decide (b.start ≤ c.position) := by
  unfold ClockUnit.reachesBlock
  rcases queue : c.queue with _ | ⟨x, rest⟩
  · rw [queue] at h; cases h
  · rw [queue] at h
    obtain rfl := Option.some.inj h
    rfl

section Request

variable {s : State} {p : Port} {tag count marker offset : U8} {start : U32} {reserved : List Byte}
  {frames : List (Sample × Sample)} (ready : s.portReady p)
include ready

theorem exec_audioBlock_refused {st : Status} (refusal : st.isRefusal = true)
    (h : audioBlockAction p start count marker offset reserved frames (s.beginRequest p 0x32 tag.val) =
      (s.beginRequest p 0x32 tag.val, .refuse st)) :
    exec (.audioBlock p tag start count marker offset reserved frames) s = .next (s.refused p 0x32 tag st) :=
  congrArg Host.Outcome.next (State.settledRequest_refused ready tag refusal h)

/-- AUDIO_BLOCK once its checks pass. -/
theorem exec_audioBlock_taken (lengths : reserved.length = 9 ∧ frames.length = resolveCount 256 count.val)
    (fields : audioFieldsOk start count marker offset reserved = true) (mode : s.unit.mode ≠ .setup)
    (holder : s.audHolder = some p) (room : s.clock.queue.length < 48) (late : s.clock.lateBound < start.val + frames.length) :
    exec (.audioBlock p tag start count marker offset reserved frames) s = .next
      ((settleIdle s (s.setClock (s.clock.joined start.val marker.val offset.val frames)).blockArrived).answered p 0x32 tag .ok
        (.audioTaken (s.clock.lateBound - start.val)
          (decide (marker.val ≠ 0 ∧ start.val + offset.val < s.clock.lateBound)))) := by
  refine congrArg Host.Outcome.next (State.settledRequest_report ready (by decide) tag ?_)
  have holder' : (s.beginRequest p 0x32 tag.val).audHolder = some p := holder
  rw [audioBlockAction_eq lengths, State.clock_beginRequest, State.unit_beginRequest, if_neg (by simp [fields]), if_neg mode,
    if_neg (not_not.mpr holder'), if_neg (Nat.not_le.mpr room), if_neg (Nat.not_le.mpr late), State.setClock_beginRequest,
    State.blockArrived_beginRequest]

end Request

/-- A change of the clock that leaves its run state, with notices, leaves the idle condition unevaluated. -/
theorem settleIdle_setClock (s : State) {c : ClockUnit} (run : c.run = s.clock.run) : settleIdle s (s.setClock c) = s.setClock c :=
  settleIdle_of_names (fun _ => rfl) run rfl

theorem settleIdle_setClock_post (s : State) {c : ClockUnit} (run : c.run = s.clock.run) (p : Port) (k : NoticeKind)
    (subject detail : Nat) : settleIdle s ((s.setClock c).post p k subject detail) = (s.setClock c).post p k subject detail :=
  settleIdle_of_names (fun _ => rfl) run rfl

/-- Settles O28: the checks in order; then the block that joins the queue, and the underrun or the coasting that it ends. -/
theorem audioBlock : Obligations.AudioBlock := by
  intro s p tag count marker offset start reserved frames ready
  refine ⟨fun misfit => ?_, fun hreserved hframes => ?_⟩
  · refine congrArg Host.Outcome.next (State.settledRequest_refused ready tag (st := .badRequest) (field := 0) rfl (if_neg ?_))
    exact fun ⟨hreserved, hframes⟩ => misfit.elim (· hreserved) (· hframes)
  · have lengths : reserved.length = 9 ∧ frames.length = resolveCount 256 count.val := ⟨hreserved, hframes⟩
    have checks := audioBlockAction_eq (p := p) (start := start) (marker := marker) (offset := offset) lengths
      (s.beginRequest p 0x32 tag.val)
    have refused := fun {st} hst h => exec_audioBlock_refused (st := st) ready hst (checks.trans h)
    have fails := audioFieldsOk_eq_false (start := start) (marker := marker) (offset := offset) (reserved := reserved) hframes
    refine ⟨fun bad => refused rfl (if_pos (fails.mpr bad)), fun unmarked marked zeros last => ?_⟩
    have fields : audioFieldsOk start count marker offset reserved = true := by
      refine Bool.of_not_eq_false fun bad => ?_
      rcases fails.mp bad with ⟨h, h'⟩ | ⟨h, h'⟩ | ⟨b, hb, h⟩ | h
      · exact h' (unmarked h)
      · exact Nat.not_le.mpr (marked h) h'
      · exact h (zeros b hb)
      · omega
    have refused := fun {st} hst h => refused (st := st) hst ((if_neg (by simp [fields])).trans h)
    refine ⟨fun mode => refused rfl (if_pos mode), fun mode => ?_⟩
    have refused := fun {st} hst h => refused (st := st) hst ((if_neg mode).trans h)
    refine ⟨fun other => refused rfl (if_pos other), fun holder full => ?_, fun holder room => ⟨fun past => ?_, fun late => ?_⟩⟩
    · exact refused rfl ((if_neg (not_not.mpr holder)).trans (if_pos full))
    · exact refused rfl ((if_neg (not_not.mpr holder)).trans ((if_neg (Nat.not_le.mpr room)).trans (if_pos past)))
    have taken := exec_audioBlock_taken (tag := tag) ready lengths fields mode holder room late
    have told := fun (c : ClockUnit) detail =>
      State.postAud_of_holder (s := s.setClock c) (q := p) holder .audioResumed detail
    generalize hu : s.setClock (s.clock.joined start.val marker.val offset.val frames) = u at taken
    have clock : u.clock = s.clock.joined start.val marker.val offset.val frames := by rw [← hu]; rfl
    have quiet : u.clock.underrun = false → u.clock.coasting = false ∨ u.clock.reachesBlock = false →
        settleIdle s u.blockArrived = u := fun underrun h => by
      rw [State.blockArrived_quiet underrun h, ← hu]; exact settleIdle_setClock s rfl
    have resumes : u.clock.underrun = false → u.clock.coasting = true → u.clock.reachesBlock = true →
        settleIdle s u.blockArrived = (u.setClock { u.clock with coasting := false }).post p .audioResumed 176 0 :=
      fun underrun coasting reaches => by
        rw [State.blockArrived_coasting underrun coasting reaches, ← hu, State.setClock_setClock, told]
        exact settleIdle_setClock_post s (by rfl) p .audioResumed 176 0
    refine ⟨fun underrun calm => ?_, fun underrun => ?_, fun h hh underrun coasting => ?_, fun underrun coasting empty before => ?_,
      fun underrun coasting empty reached => ?_⟩
    · rw [taken, quiet (by rw [clock]; exact underrun) (.inl (by rw [clock]; exact calm)), ← hu]; rfl
    · rw [taken, State.blockArrived_underrun (by rw [clock]; exact underrun), ← hu, State.setClock_setClock, told]; rfl
    · have head : u.clock.queue.head? = some h := by
        rw [clock, ClockUnit.joined, List.head?_append, Option.mem_toList.mp hh]; rfl
      have reaches := ClockUnit.reachesBlock_of_head head
      have position : u.clock.position = s.clock.position := by rw [clock]; rfl
      rw [position] at reaches
      refine ⟨fun before => ?_, fun reached => ?_⟩
      · rw [taken, quiet (by rw [clock]; exact underrun) (.inr (by rw [reaches]; simpa using before)), ← hu]; rfl
      · rw [taken, resumes (by rw [clock]; exact underrun) (by rw [clock]; exact coasting) (by rw [reaches]; simpa using reached),
          ← hu]; rfl
    all_goals
      have bound : s.clock.lateBound = s.clock.position := by rw [ClockUnit.lateBound, empty]; rfl
      have head : u.clock.queue.head? = some (arriving s.clock.position start.val marker.val offset.val frames) := by
        rw [clock, ClockUnit.joined, empty, bound]; rfl
      have reaches := ClockUnit.reachesBlock_of_head head
      have position : u.clock.position = s.clock.position := by rw [clock]; rfl
      rw [position] at reaches
    · have whole : s.clock.position - start.val = 0 := by omega
      have kept : decide (marker.val ≠ 0 ∧ start.val + offset.val < s.clock.position) = false := by simp; omega
      rw [taken, quiet (by rw [clock]; exact underrun) (.inr ?_), ← hu, ClockUnit.joined, empty, bound, whole, kept]
      · rfl
      · rw [reaches]; simp [arriving, before]
    · rw [taken, resumes (by rw [clock]; exact underrun) (by rw [clock]; exact coasting) ?_, ← hu, ClockUnit.joined, empty, bound]
      · rfl
      · rw [reaches]; simp [arriving, reached]

end Sys2Proof.Machine

/-!
# The clock's ticks and the frame periods of the audio output (04 R72 to R80)
-/

namespace Sys2Proof.Machine

/-! ## The advance of the clock -/

theorem ClockUnit.reachesBlock_iff (c : ClockUnit) :
    c.reachesBlock = true ↔ ∃ x ∈ c.queue.head?.toList, x.start ≤ c.position := by
  unfold ClockUnit.reachesBlock
  rcases c.queue with _ | ⟨b, rest⟩ <;> simp

theorem ClockUnit.reachesBlock_eq_false (c : ClockUnit) :
    c.reachesBlock = false ↔ ∀ x ∈ c.queue.head?.toList, c.position < x.start := by
  rw [← Bool.not_eq_true, c.reachesBlock_iff]
  simp only [not_exists, not_and, Nat.not_le]

theorem State.advancePlay_eq (s : State) (p : Nat) (queue : List Block) :
    s.advancePlay p queue = s.takeOwed.setClock (s.clock.atPosition p queue) := by
  unfold State.advancePlay
  dsimp only
  rw [s.takeOwed_clock]
  rfl

/-- An arrival at the range end: the due events of the arrival, then the stall (R79, log 4). -/
theorem State.rangeEnd_arrived (s : State) (p : Nat) (queue : List Block) :
    (s.advancePlay p queue).takeOwed.rangeEnd =
      ((s.takeOwed.setClock (s.clock.atPosition p queue)).takeOwed.setClock (s.clock.heldUp.atPosition p queue)).postAud
        .underrun 2 := by
  rw [State.rangeEnd_eq, State.takeOwed_clock, State.advancePlay_clock, State.advancePlay_eq]
  rfl

/-- An arrival that empties the queue: the due events of the arrival, then the underrun (R79, log 4). -/
theorem State.meetUnderrun_arrived (s : State) (p : Nat) (queue : List Block) :
    (s.advancePlay p queue).takeOwed.meetUnderrun =
      ((s.takeOwed.setClock (s.clock.atPosition p queue)).takeOwed.setClock
        ((s.clock.atPosition p queue).underrunBy s.config.global.policy)).postAud .underrun
          (policyCode s.config.global.policy) := by
  have config : (s.advancePlay p queue).takeOwed.config = s.config :=
    ((s.advancePlay_only p queue).trans (State.takeOwed_only _).show).config_eq
  rw [State.meetUnderrun_eq, config, State.takeOwed_clock, State.advancePlay_clock, State.advancePlay_eq]

theorem OnlyShow.unit_eq {s t : State} (h : OnlyShow s t) : t.unit = s.unit := by
  unfold OnlyShow at h; rw [h]

theorem exec_clockTick (s : State) : exec .clockTick s = .next (settleIdle s s.clockTick) := rfl

theorem exec_coastTick (s : State) : exec .coastTick s = .next (settleIdle s s.coastTick) := rfl

theorem exec_audioFrame (s : State) : exec .audioFrame s = .next (settleIdle s s.audioFrame) := rfl

section Coasting

variable {s : State} (run : s.clock.run = .running) (source : s.clock.source = .audio) (coasting : s.clock.coasting = true)
include run source coasting

theorem State.coastTick_last (last : 4294967295 ≤ s.clock.position + 48) : s.coastTick =
    ((s.takeOwed.setClock (s.clock.atPosition 4294967295 (queueFrom s.clock.queue 4294967295))).takeOwed.setClock
      (s.clock.heldUp.atPosition 4294967295 (queueFrom s.clock.queue 4294967295))).postAud .underrun 2 := by
  have top : min (s.clock.position + Config.framesPerMs) Config.lastPosition = 4294967295 := Nat.min_eq_right last
  rw [State.coastTick, if_pos ⟨run, source, coasting⟩]
  dsimp only
  rw [top, if_pos (by rfl), State.rangeEnd_arrived]
  rfl

/-- A COAST_TICK before the range end: coasting ends where the move reaches a block. -/
theorem State.coastTick_before (before : s.clock.position + 48 < 4294967295) : s.coastTick =
    if (s.clock.atPosition (s.clock.position + 48) (queueFrom s.clock.queue (s.clock.position + 48))).reachesBlock
    then (s.takeOwed.setClock (s.clock.atPosition (s.clock.position + 48)
      (queueFrom s.clock.queue (s.clock.position + 48)))).endCoasting
    else s.takeOwed.setClock (s.clock.atPosition (s.clock.position + 48)
      (queueFrom s.clock.queue (s.clock.position + 48))) := by
  have top : min (s.clock.position + Config.framesPerMs) Config.lastPosition = s.clock.position + 48 :=
    Nat.min_eq_left (Nat.le_of_lt before)
  have far : s.clock.position + 48 ≠ Config.lastPosition := Nat.ne_of_lt before
  rw [State.coastTick, if_pos ⟨run, source, coasting⟩]
  dsimp only
  rw [top, if_neg far, State.advancePlay_eq]
  rfl

end Coasting

/-- Settles O29: each tick by the clock's record. -/
theorem clockTicks : Obligations.ClockTicks := by
  intro s b
  refine ⟨fun empty => ?_, fun last => ?_, fun run source => ⟨fun before => ?_, fun last => ?_⟩, fun other => ?_, fun other => ?_,
    fun run source coasting => ⟨fun last => ?_, fun before => ?_⟩⟩
  · rw [ClockUnit.lateBound, empty]; rfl
  · rw [ClockUnit.lateBound, queueEnd, last]; rfl
  · rw [exec_clockTick, State.clockTick, if_pos ⟨run, source, before⟩]
    dsimp only
    rw [s.takeOwed_clock]
  · rw [exec_clockTick, State.clockTick, if_neg fun ⟨_, _, h⟩ => Nat.not_lt.mpr last h, settleIdle_self]
  · rw [exec_clockTick, State.clockTick, if_neg fun ⟨run, source, _⟩ => other.elim (· run) (· source), settleIdle_self]
  · rw [exec_coastTick, State.coastTick, if_neg, settleIdle_self]
    rintro ⟨run, source, coasting⟩
    rcases other with h | h | h
    · exact h run
    · exact h source
    · rw [coasting] at h; cases h
  · rw [exec_coastTick, State.coastTick_last run source coasting last]
  · rw [exec_coastTick, State.coastTick_before run source coasting before]
    refine ⟨fun gap => ?_, fun reached => ?_⟩
    · rw [if_neg (Bool.eq_false_iff.mp ((ClockUnit.reachesBlock_eq_false _).mpr gap))]
    · rw [if_pos ((ClockUnit.reachesBlock_iff _).mpr reached)]; rfl

/-! ## One frame period (R76 to R79) -/

theorem scaleSample_eq (x : Sample) (g : Nat) : scaleSample x g = gainOf x g :=
  Int.fdiv_eq_ediv_of_nonneg _ (by decide)

/-- The block boundary at the first frame of a block (R77). -/
theorem State.atBoundary_eq (s : State) (b : Block) :
    s.atBoundary b = if b.start = s.clock.position then s.commitGain else s := by
  unfold State.atBoundary State.commitGain
  rcases (s.entry audChannel).slot with _ | (_ | _ | g)
  · simp
  · simp
  · simp
  · dsimp only
    by_cases first : b.start = s.clock.position
    · simp only [first, true_and, if_true]; rfl
    · simp only [first, false_and, if_false]

theorem State.atBoundary_position (s : State) (b : Block) : (s.atBoundary b).clock.position = s.clock.position := by
  rw [State.atBoundary_eq]
  split
  · exact s.commitGain_shows.position
  · rfl

/-- The frame at the play position: silence in a gap, else the block's frame and the marker that stands at it. -/
theorem State.playFrame_eq {s : State} {b : Block} (reached : b.start ≤ s.clock.position) :
    s.playFrame b = match b.marker with
      | some m => if m.position = s.clock.position then ((s.atBoundary b).putOut b).passMarker m else (s.atBoundary b).putOut b
      | none => (s.atBoundary b).putOut b := by
  unfold State.playFrame State.putOut
  rw [if_neg (Nat.not_lt.mpr reached), State.atBoundary_position, State.atBoundary_eq]
  simp only [scaleSample_eq] <;> cases b.marker <;> rfl

theorem State.playFrame_gap {s : State} {b : Block} (gap : s.clock.position < b.start) : s.playFrame b = s.setClock s.clock.quiet :=
  if_pos gap

section Playing

variable {s : State} (run : s.clock.run = .running) (source : s.clock.source = .audio)
include run source

theorem State.audioFrame_coasting (coasting : s.clock.coasting = true) (gap : s.clock.reachesBlock = false) :
    s.audioFrame = s.setClock s.clock.quiet :=
  (if_pos ⟨run, source⟩).trans (if_pos ⟨coasting, gap⟩)

theorem State.audioFrame_playing (coasting : s.clock.coasting = false) {b : Block} (head : s.clock.queue.head? = some b) :
    s.audioFrame = (s.playFrame b).movePlay := by
  rw [State.audioFrame, if_pos ⟨run, source⟩, if_neg (by simp [coasting]), coasting]
  rcases queue : s.clock.queue with _ | ⟨x, rest⟩
  · rw [queue] at head; cases head
  · rw [queue] at head
    obtain rfl := Option.some.inj head
    simp only [Bool.false_eq_true, if_false, queue]

/-- Coasting that has reached a block ends, and the frame period goes on without it. -/
theorem State.audioFrame_resumes (coasting : s.clock.coasting = true) (reaches : s.clock.reachesBlock = true) :
    s.audioFrame = s.endCoasting.audioFrame := by
  have clock := s.endCoasting_clock
  have calm : s.endCoasting.clock.coasting = false := by rw [clock]
  have playing : s.endCoasting.clock.run = .running ∧ s.endCoasting.clock.source = .audio := by
    rw [clock]; exact ⟨run, source⟩
  rw [State.audioFrame, if_pos ⟨run, source⟩, if_neg (by simp [reaches])]
  conv_rhs => rw [State.audioFrame, if_pos playing, if_neg (by simp [calm])]
  simp only [coasting, calm, if_true, Bool.false_eq_true, if_false]

end Playing

section MovePlay

variable (s : State)

theorem State.movePlay_last (last : s.clock.position + 1 = 4294967295) : s.movePlay =
    ((s.takeOwed.setClock (s.clock.atPosition 4294967295 (queuePast s.clock.queue 4294967295))).takeOwed.setClock
      (s.clock.heldUp.atPosition 4294967295 (queuePast s.clock.queue 4294967295))).postAud .underrun 2 := by
  have reached : s.clock.position + 1 = Config.lastPosition := last
  rw [State.movePlay, if_pos reached, State.rangeEnd_arrived, last]
  rfl

theorem State.movePlay_before (before : s.clock.position + 1 < 4294967295)
    (more : queuePast s.clock.queue (s.clock.position + 1) ≠ []) :
    s.movePlay = s.takeOwed.setClock (s.clock.atPosition (s.clock.position + 1)
      (queuePast s.clock.queue (s.clock.position + 1))) := by
  have far : s.clock.position + 1 ≠ Config.lastPosition := Nat.ne_of_lt before
  rw [State.movePlay, if_neg far, State.advancePlay_eq]
  exact if_neg fun empty => more (List.isEmpty_iff.mp empty)

theorem State.movePlay_empty (before : s.clock.position + 1 < 4294967295)
    (empty : queuePast s.clock.queue (s.clock.position + 1) = []) :
    s.movePlay = ((s.takeOwed.setClock (s.clock.atPosition (s.clock.position + 1) [])).takeOwed.setClock
      ((s.clock.atPosition (s.clock.position + 1) []).underrunBy s.config.global.policy)).postAud .underrun
        (policyCode s.config.global.policy) := by
  have far : s.clock.position + 1 ≠ Config.lastPosition := Nat.ne_of_lt before
  have none_left : s.clock.queue.filter (fun b => decide (s.clock.position + 1 < b.stop)) = [] := empty
  rw [State.movePlay, if_neg far, none_left, State.meetUnderrun_arrived]
  exact if_pos rfl

end MovePlay

/-- Settles O30: one frame period by what the clock plays, and where the move of the play position comes to. -/
theorem audioFrame : Obligations.AudioFrame := by
  intro s b
  have silence := settleIdle_setClock s (c := s.clock.quiet) rfl
  refine ⟨fun other => ?_, fun run source => ⟨fun coasting gap => ?_, fun coasting head reached => ?_,
    fun coasting head => ⟨fun gap => ?_, fun reached unmarked => ?_⟩⟩, s.movePlay_before, s.movePlay_last,
    fun before empty => ⟨fun policy => ?_, fun policy => ?_⟩⟩
  · rw [exec_audioFrame, State.audioFrame, if_neg fun ⟨run, source⟩ => other.elim (· run) (· source), silence]; rfl
  · rw [exec_audioFrame, State.audioFrame_coasting run source coasting ((s.clock.reachesBlock_eq_false).mpr gap), silence]; rfl
  · have reaches : s.clock.reachesBlock = true := (ClockUnit.reachesBlock_of_head head).trans (decide_eq_true reached)
    have ended : (s.setClock { s.clock with coasting := false }).postAud .audioResumed 0 = s.endCoasting := rfl
    have run' : s.endCoasting.clock.run = s.clock.run := by rw [State.endCoasting_clock]
    have tracks : s.endCoasting.tracks = s.tracks := State.postAud_tracks _ _ _
    have mode : s.endCoasting.unit = s.unit := s.endCoasting_only.unit_eq
    rw [ended, exec_audioFrame, exec_audioFrame, State.audioFrame_resumes run source coasting reaches]
    refine congrArg _ (settleIdle_congr (fun k => ?_) run' (congrArg _ mode) _).symm
    rw [State.track, tracks]; rfl
  · rw [exec_audioFrame, State.audioFrame_playing run source coasting head, State.playFrame_gap gap]; rfl
  · rw [exec_audioFrame, State.audioFrame_playing run source coasting head, State.playFrame_eq reached]
    rcases marker : b.marker with _ | m
    · rfl
    · have elsewhere := unmarked m (by rw [marker]; exact List.mem_singleton_self m)
      simp only [elsewhere, if_false]
  · rw [s.movePlay_empty before empty, policy]; rfl
  · rw [s.movePlay_empty before empty, policy]; rfl

end Sys2Proof.Machine

/-!
# A marker's passage (03 R57, R59, 04 R78)
-/

namespace Sys2Proof.Machine

/-! ## Notices told -/

/-- A port that has been told a notice has been told it after any other notices (10 R176). -/
theorem told_kept (p : Port) (n : Notice) : KeptByPosting fun s => s.told p n := fun _ _ heard told =>
  (heard p).keeps (P := fun lp => n ∈ lp.notices ∨ lp.lost = true) (fun lp x h => by
    unfold LinkPort.receive
    split
    · exact h.imp (List.mem_append_left _) id
    · exact .inr rfl) told

theorem LinkPort.receive_tells (lp : LinkPort) (n : Notice) : n ∈ (lp.receive n).notices ∨ (lp.receive n).lost = true := by
  unfold LinkPort.receive
  split
  · exact .inl (List.mem_append_right _ (List.mem_singleton_self n))
  · exact .inr rfl

theorem State.deliver_told (s : State) (p : Port) (n : Notice) : (s.deliver p n).told p n := by
  rw [State.told, State.deliver, State.port_setPort_self]
  exact LinkPort.receive_tells _ n

/-- What one action of a sequence brings about from a state as the others leave it, and the others keep, the sequence brings
about. -/
theorem foldl_reaches {α : Type} {P Q : State → Prop} {f : State → α → State} {x : α} (kept : ∀ u y, P u → P (f u y))
    (before : ∀ u y, y ≠ x → Q u → Q (f u y)) (reach : ∀ u, Q u → P (f u x)) {l : List α} (hx : x ∈ l) {s : State} (hs : Q s) :
    P (l.foldl f s) := by
  induction l generalizing s with
  | nil => cases hx
  | cons y rest ih =>
    rw [List.foldl_cons]
    by_cases own : y = x
    · subst own
      exact foldl_keeps kept rest (reach s hs)
    · exact ih ((List.mem_cons.mp hx).resolve_left (Ne.symm own)) (before s y own hs)

theorem State.eachTrack_told {f : State → Fin 4 → State} {t : Fin 4} {Q : State → Prop} {p : Port} {n : Notice}
    (kept : ∀ u k, u.told p n → (f u k).told p n) (before : ∀ u k, k ≠ t → Q u → Q (f u k)) (tell : ∀ u, Q u → (f u t).told p n)
    {s : State} (hs : Q s) : (s.eachTrack f).told p n :=
  foldl_reaches (P := fun u => u.told p n) kept before tell (Table.mem_indices t) hs

/-! ## A passage at the tracks (03 R59) -/

theorem State.passTrack_frame (m k : Nat) (s : State) (t : Fin 4) :
    State.passTrack m k s t = { s with tracks := (State.passTrack m k s t).tracks, ports := (State.passTrack m k s t).ports } := by
  unfold State.passTrack
  rcases s.track t with _ | b
  · rfl
  · rcases phase : b.phase with _ | _ | marker | _ | _ <;> simp only [phase]
    · rfl
    · split_ifs <;> rfl
    · rfl

theorem State.markerPassage_frame (s : State) (m k : Nat) :
    s.markerPassage m k = { s with tracks := (s.markerPassage m k).tracks, ports := (s.markerPassage m k).ports } :=
  State.eachTrack_keeps (P := fun u => u = { s with tracks := u.tracks, ports := u.ports }) (fun u t h => by
    have next := State.passTrack_frame m k u t
    rw [h] at next ⊢
    exact next) rfl

/-- A track that waits for the marker is released, and its owner is told, whether it runs on or is paused. -/
theorem State.markerPassage_told {s : State} {t : Fin 4} {c : TrackBody} {m : Nat} (track : s.track t = some c)
    (phase : c.phase = .waiting m) (k : Nat) :
    (s.markerPassage m k).told c.owner ⟨.trackState, t, if c.reasons.isEmpty then 2 else 4, k, .none⟩ := by
  refine State.eachTrack_told (t := t) (Q := fun u => u.track t = some c) (fun u j told => (told_kept _ _).passTrack m k u j told)
    (fun u j ne h => ?_) (fun u h => ?_) track
  · rw [State.passTrack_track, if_neg ne.symm]; exact h
  · unfold State.passTrack
    rw [h]
    simp only [phase, if_true]
    cases c.reasons.isEmpty
    · exact State.deliver_told _ _ _
    · exact State.deliver_told _ _ _

theorem State.markerPassage_track_some {s : State} {t : Fin 4} {c : TrackBody} (track : s.track t = some c) (m k : Nat) :
    (s.markerPassage m k).track t = some (s.passedBody m k c) := by
  rw [State.markerPassage_track, track]; rfl

theorem PauseReasons.isEmpty_eq_false (r : PauseReasons) :
    r.isEmpty = false ↔ r.owner = true ∨ r.freeze = true ∨ r.safety = true := by
  cases r with
  | mk owner freeze safety => cases owner <;> cases freeze <;> cases safety <;> simp [PauseReasons.isEmpty]

/-! ## The frame at which a marker stands (R78) -/

theorem appendLog_eq (log : List Passage) (e : Passage) :
    appendLog log e = if log.length < 8 then log ++ [e] else log.tail ++ [e] := by
  unfold appendLog
  refine ite_congr rfl (fun _ => rfl) fun full => ?_
  rcases log with _ | ⟨x, rest⟩
  · exact absurd (Nat.zero_lt_succ 7) full
  · rfl

theorem State.putOut_log (s : State) (b : Block) : ((s.atBoundary b).putOut b).clock.log = s.clock.log := by
  have kept : s.commitGain.clock.log = s.clock.log := by
    unfold State.commitGain
    repeat' split
    all_goals rfl
  have same : ((s.atBoundary b).putOut b).clock.log = (s.atBoundary b).clock.log := rfl
  rw [same, State.atBoundary_eq]
  split
  · exact kept
  · rfl

theorem State.playFrame_marked {s : State} {b : Block} {m : Marker} (reached : b.start ≤ s.clock.position)
    (marker : b.marker = some m) (here : m.position = s.clock.position) :
    s.playFrame b = (((s.atBoundary b).putOut b).setClock { ((s.atBoundary b).putOut b).clock with
      log := if s.clock.log.length < 8 then s.clock.log ++ [⟨m.id, s.clock.position / 48⟩]
        else s.clock.log.tail ++ [⟨m.id, s.clock.position / 48⟩] }).passage m.id (s.clock.position / 48) := by
  rw [State.playFrame_eq reached, marker]
  dsimp only
  rw [if_pos here, State.passMarker, here, State.putOut_log, appendLog_eq]
  rfl

/-- Settles O31: the log entry, the tracks the passage finds, and the due events of those it released. -/
theorem markerPassage : Obligations.MarkerPassage := by
  intro s u b m t c id k back n until_ seen
  refine ⟨fun run source coasting head marker here reached played => ?_, (s.markerPassage id k).eachTrack_eq _, fun none => ?_, fun owed => ?_,
    s.markerPassage_frame id k, fun idle => ?_, fun track => ⟨fun phase => ⟨fun reasons => ?_, fun reasons => ?_⟩, fun name => ?_,
    fun name => ?_⟩, ?_, rfl⟩
  · rw [exec_audioFrame, State.audioFrame_playing run source coasting head, State.playFrame_marked reached marker here, played]
  · rw [State.dueAtOnce, none]; rfl
  · rw [State.dueAtOnce, if_neg fun none => owed (Option.isNone_iff_eq_none.mp none)]
  · rw [State.markerPassage_track, idle]; rfl
  · have free : c.reasons.isEmpty = true := by rw [reasons]; rfl
    have told := State.markerPassage_told track phase k
    rw [free] at told
    refine ⟨(State.markerPassage_track_some track id k).trans ?_, told⟩
    simp only [State.passedBody, phase, free, if_true]
    rfl
  · have held : c.reasons.isEmpty = false := (PauseReasons.isEmpty_eq_false _).mpr reasons
    have told := State.markerPassage_told track phase k
    rw [held] at told
    refine ⟨(State.markerPassage_track_some track id k).trans ?_, told⟩
    simp only [State.passedBody, phase, held, if_true, Bool.false_eq_true, if_false]
    rfl
  · rw [State.markerPassage_track_some track, State.passedBody]
    rcases phase : c.phase with _ | _ | marker | _ | _ <;> simp [trackName, phase] at name ⊢
    simp [name]
  · rw [State.markerPassage_track_some track, track, State.passedBody]
    rcases phase : c.phase with _ | _ | _ | _ | _ <;> simp [trackName, phase] at name ⊢
  · rw [markSeen]
    by_cases waits : until_ = some id <;> simp [waits]

end Sys2Proof.Machine

/-!
# The status reads (03 R66, 04 R85, 05 R104, 06 R117, 07 R134, 08 R154, 10 R174, R180)
-/

namespace Sys2Proof.Machine

section StatusRead

variable {s : State} {p : Port} (ready : s.portReady p) (tag : U8)
include ready

/-- A read that reports a record and changes nothing. -/
theorem State.request_read {kind : Nat} (hkind : kind ≠ errorDetailKind) {act : State → State × Answer} {body : Body}
    (hact : act (s.beginRequest p kind tag.val) = (s.beginRequest p kind tag.val, .report body)) :
    s.request p kind tag act = s.answered p kind tag .ok body :=
  State.request_report ready hkind tag hact

theorem exec_trackStatus (t : Fin 4) :
    exec (.trackStatus p tag (trackByte t)) s = .next (s.answered p 0x27 tag .ok (.trackStatus (s.track t))) :=
  congrArg Host.Outcome.next (State.request_read ready tag (by decide) (dif_pos t.isLt))

theorem exec_jetStatus (j : Fin 128) : exec (.jetStatus p tag ⟨j.val, by omega⟩) s = .next (s.answered p 0x40 tag .ok
    (.jetStatus (s.config.jets.get j).enabled (s.config.jets.get j).header (s.jets.get j))) :=
  congrArg Host.Outcome.next (State.request_read ready tag (by decide) (dif_pos j.isLt))

theorem exec_headerStatus (h : Fin 16) : exec (.headerStatus p tag ⟨h.val, by omega⟩) s = .next (s.answered p 0x41 tag .ok
    (.headerStatus (s.config.headers.get h).enabled (s.headers.get h))) :=
  congrArg Host.Outcome.next (State.request_read ready tag (by decide) (dif_pos h.isLt))

theorem exec_fixtureStatus (f : Fin 48) : exec (.fixtureStatus p tag ⟨f.val, by omega⟩) s = .next (s.answered p 0x42 tag .ok
    (.fixtureStatus (s.config.fixtures.get f).enabled (s.config.fixtures.get f).followJet (s.fixtureReport.get f)
      (s.entry (fixtureChannel f)).slot.isSome)) :=
  congrArg Host.Outcome.next (State.request_read ready tag (by decide) (dif_pos f.isLt))

theorem exec_nodeStatus (n : Fin 32) : exec (.nodeStatus p tag ⟨n.val, by omega⟩) s = .next (s.answered p 0x43 tag .ok
    (.nodeStatus (s.nodeReport n))) :=
  congrArg Host.Outcome.next (State.request_read ready tag (by decide) (dif_pos n.isLt))

/-- The clock's report, with the span of its queue. -/
theorem exec_clockStatus : exec (.clockStatus p tag) s = .next (s.answered p 0x33 tag .ok (.clockStatus
    ⟨s.clock.value, s.clock.run, s.clock.source, s.clock.underrun, s.clock.freeze, s.clock.coasting, s.clock.position,
      s.clock.queue.length, (match s.clock.queue.head?, queueEnd s.clock.queue with
        | some b, some e => some (b.start, e)
        | _, _ => none), s.clock.gain, s.config.global.policy, s.clock.log⟩)) :=
  congrArg Host.Outcome.next (State.request_read ready tag (by decide) rfl)

theorem exec_safetyStatus : exec (.safetyStatus p tag) s = .next (s.answered p 0x54 tag .ok
    (.safetyStatus s.safety s.safety.takenLow s.holdRemaining)) :=
  congrArg Host.Outcome.next (State.request_read ready tag (by decide) rfl)

/-- ERROR_DETAIL reports the port's error detail and leaves it. -/
theorem exec_errorDetail : exec (.errorDetail p tag) s = .next (s.setPort p
    ⟨.answering 0x70 tag ⟨.ok, .errorDetail (s.port p).error⟩, (s.port p).error, (s.port p).notices, (s.port p).lost,
      (s.port p).resetHeld⟩) := by
  have report : errorDetailAction p (s.beginRequest p 0x70 tag.val) =
      (s.beginRequest p 0x70 tag.val, .report (.errorDetail (s.port p).error)) := by
    rw [errorDetailAction, State.beginRequest, State.port_setPort_self]
  refine congrArg Host.Outcome.next ((State.request_of_portReady ready 0x70 tag (errorDetailAction p)).trans ?_)
  rw [report, State.respond_beginRequest]
  rfl

/-- A number past the last. -/
theorem State.request_past {kind : Nat} {act : State → State × Answer}
    (hact : act (s.beginRequest p kind tag.val) = (s.beginRequest p kind tag.val, .refuse .outOfRange)) :
    s.request p kind tag act = s.refused p kind tag .outOfRange :=
  State.request_refuse ready kind tag rfl hact

end StatusRead

theorem Supervisor.takenLow_eq (r : Supervisor) : r.takenLow = (r.levelLow || decide (r.standing = .missing)) := rfl

/-- Settles O38: each read by the lemma of its request. -/
theorem statusRequests : Obligations.StatusRequests := by
  intro s p tag k t j h f n b e d ready
  have past : ∀ {m : Nat}, m ≤ k.val → ¬ k.val < m := fun h => Nat.not_lt.mpr h
  refine ⟨exec_errorDetail ready tag, ?_, exec_trackStatus ready tag t, fun far => ?_, fun empty => ?_, fun first last => ?_,
    exec_jetStatus ready tag j, fun far => ?_, exec_headerStatus ready tag h, fun far => ?_, exec_fixtureStatus ready tag f,
    fun far => ?_, exec_nodeStatus ready tag n, fun far => ?_, fun expired => ?_, fun running => ?_⟩
  · exact congrArg Host.Outcome.next (State.request_report ready (t := { s with sweep := { s.sweep with overrun := false } })
      (by decide) tag rfl)
  · exact congrArg Host.Outcome.next (State.request_past ready tag (dif_neg (past far)))
  · rw [exec_clockStatus ready tag, empty]; rfl
  · rw [exec_clockStatus ready tag, queueEnd, first, last]; rfl
  · exact congrArg Host.Outcome.next (State.request_past ready tag (dif_neg (past far)))
  · exact congrArg Host.Outcome.next (State.request_past ready tag (dif_neg (past far)))
  · exact congrArg Host.Outcome.next (State.request_past ready tag (dif_neg (past far)))
  · exact congrArg Host.Outcome.next (State.request_past ready tag (dif_neg (past far)))
  · rw [exec_safetyStatus ready tag, State.holdRemaining, expired]; rfl
  · rw [exec_safetyStatus ready tag, State.holdRemaining, running]; rfl

end Sys2Proof.Machine

/-!
# Entry to STOPPING: what it takes and whom it tells (08 R145, 01 R25, 02 R39, 03 R64)
-/

namespace Sys2Proof.Machine

/-! ## Notices to the ports of a set -/

theorem State.postTo_told (s : State) {ports : PortSet} {q : Port} (h : ports.get q = true) (k : NoticeKind) (subject detail : Nat) :
    (s.postTo ports k subject detail).told q ⟨k, subject, detail, s.clock.value, .none⟩ := by
  rw [State.told, State.port_postTo, if_pos h]
  exact LinkPort.receive_tells _ _

theorem State.postAll_told (s : State) (q : Port) (k : NoticeKind) (subject detail : Nat) :
    (s.postAll k subject detail).told q ⟨k, subject, detail, s.clock.value, .none⟩ :=
  s.postTo_told (by cases q <;> rfl) k subject detail

theorem KeptByPosting.post {P : State → Prop} (k : KeptByPosting P) (s : State) (p : Port) (kind : NoticeKind)
    (subject detail : Nat) (h : P s) : P (s.post p kind subject detail) := k.deliver s p _ h

theorem State.post_told (s : State) (p : Port) (kind : NoticeKind) (subject detail : Nat) :
    (s.post p kind subject detail).told p ⟨kind, subject, detail, s.clock.value, .none⟩ := s.deliver_told p _

/-! ## One channel (01 R25) -/

/-- The clock and all that stands at a channel are the same in two states. -/
structure SameAt (ch : Fin 177) (s u : State) : Prop where
  entry : u.entry ch = s.entry ch
  waiters : u.waitersOf ch = s.waitersOf ch
  clock : u.clock = s.clock

theorem SameAt.of_directory {ch : Fin 177} {s u : State} (h : u.directory = s.directory) (clock : u.clock = s.clock) :
    SameAt ch s u :=
  ⟨State.entry_of_directory h ch, by unfold State.waitersOf; rw [h], clock⟩

theorem SameAt.trans {ch : Fin 177} {s u v : State} (h : SameAt ch s u) (k : SameAt ch u v) : SameAt ch s v :=
  ⟨k.entry.trans h.entry, k.waiters.trans h.waiters, k.clock.trans h.clock⟩

theorem State.safeChannel_waiters (s : State) (ch : Fin 177) :
    (s.safeChannel ch).directory.waiters = s.directory.waiters.filter fun w => !(w.channel == ch) := by
  have told := State.tellWatchers_directory (((s.postLost ch 2).dropWaiters ch 2).setEntry ch
    { ((s.postLost ch 2).dropWaiters ch 2).entry ch with hold := .safed, slot := none }) ch 4
  exact (congrArg Directory.waiters told).trans (((s.postLost ch 2).dropWaiters_eq ch 2).2.trans (by rw [s.postLost_directory]))

theorem State.safeChannel_same (s : State) {ch c : Fin 177} (h : c ≠ ch) : SameAt ch s (s.safeChannel c) where
  entry := (s.safeChannel_at c).entry ch h.symm
  waiters := by
    unfold State.waitersOf
    rw [s.safeChannel_waiters, List.filter_filter]
    refine List.filter_congr fun w _ => ?_
    by_cases own : w.channel = ch <;> simp [own, h.symm]
  clock := (s.safeChannel_only c).clock_eq

/-- The state in which a channel's holder and its waiters have been told, before its entry is SAFED. -/
theorem State.safeChannel_told {s : State} {ch : Fin 177} {p : Port} {n : Notice}
    (h : ((s.postLost ch 2).dropWaiters ch 2).told p n) : (s.safeChannel ch).told p n :=
  (told_kept p n).tellWatchers _ ch 4 ((told_kept p n).setEntry _ ch _ h)

theorem State.safeChannel_tells_holder {s : State} {ch : Fin 177} {p : Port} (holder : (s.entry ch).hold.holder = some p) :
    (s.safeChannel ch).told p ⟨.lost, ch, 2, s.clock.value, .none⟩ := by
  refine State.safeChannel_told ((told_kept _ _).dropWaiters _ ch 2 ?_)
  simp only [State.postLost, holder]
  exact State.deliver_told _ _ _

/-- Each waiting port whose entries are removed is told (R25, R27). -/
theorem State.dropWaiters_tells {s : State} {ch : Fin 177} {w : WaitEntry} (waits : w ∈ s.waitersOf ch) (detail : Nat) :
    (s.dropWaiters ch detail).told w.port ⟨.claimDropped, ch, detail, s.clock.value, .none⟩ := by
  have posted : ((s.waitersOf ch).foldl (fun u w => u.post w.port .claimDropped ch.val detail) s).told w.port
      ⟨.claimDropped, ch, detail, s.clock.value, .none⟩ :=
    foldl_reaches (P := fun u => u.told w.port ⟨.claimDropped, ch, detail, s.clock.value, .none⟩)
      (f := fun u w => u.post w.port .claimDropped ch.val detail) (Q := fun u => u.clock = s.clock)
      (fun u y told => (told_kept _ _).post u y.port _ _ _ told) (fun _ _ _ same => same)
      (fun u same => by rw [← same]; exact u.post_told _ _ _ _) waits rfl
  unfold State.dropWaiters
  dsimp only
  split
  · exact posted
  · exact (told_kept _ _).elsewhere _ _ rfl posted

theorem State.safeChannel_tells_waiter {s : State} {ch : Fin 177} {w : WaitEntry} (waits : w ∈ s.waitersOf ch) :
    (s.safeChannel ch).told w.port ⟨.claimDropped, ch, 2, s.clock.value, .none⟩ := by
  have clock : (s.postLost ch 2).clock = s.clock := (s.postLost_only ch 2).clock_eq
  have waiters : (s.postLost ch 2).waitersOf ch = s.waitersOf ch := by unfold State.waitersOf; rw [s.postLost_directory]
  refine State.safeChannel_told ?_
  rw [← clock]
  exact State.dropWaiters_tells (by rw [waiters]; exact waits) 2

theorem State.safeChannel_tells_watcher {s : State} {ch : Fin 177} {p : Port} (watches : (s.entry ch).watchers.get p = true) :
    (s.safeChannel ch).told p ⟨.holderChanged, ch, 4, s.clock.value, .none⟩ := by
  have entry : ((s.postLost ch 2).dropWaiters ch 2).entry ch = s.entry ch := by
    rw [State.dropWaiters_entry]; exact State.entry_of_directory (s.postLost_directory ch 2) ch
  have clock : ((s.postLost ch 2).dropWaiters ch 2).clock = s.clock := by
    rw [(State.dropWaiters_only _ ch 2).clock_eq, (s.postLost_only ch 2).clock_eq]
  rw [← clock]
  refine State.postTo_told (((s.postLost ch 2).dropWaiters ch 2).setEntry ch _) ?_ .holderChanged ch 4
  rw [State.entry_setEntry_self, entry]
  exact watches

/-! ## The Directory (01 R25) -/

/-- What one channel's safety entry tells, the Directory's safety entry tells. -/
theorem State.directorySafetyEntry_told {s : State} {ch : Fin 177} (stage : ch.val < 176) {p : Port} {n : Notice}
    (tell : ∀ u, SameAt ch s u → (u.safeChannel ch).told p n) : s.directorySafetyEntry.told p n :=
  foldl_reaches (P := fun u => u.told p n) (Q := SameAt ch s) (fun u y told => (told_kept p n).safeChannel u y told)
    (fun u _ ne same => same.trans (u.safeChannel_same ne)) tell ((mem_stageChannels ch).mpr stage) ⟨rfl, rfl, rfl⟩

theorem foldl_safeChannel_waiters (l : List (Fin 177)) (s : State) : (l.foldl State.safeChannel s).directory.waiters =
    s.directory.waiters.filter fun w => decide (w.channel ∉ l) := by
  induction l generalizing s with
  | nil => simp
  | cons ch rest ih =>
    rw [List.foldl_cons, ih, s.safeChannel_waiters, List.filter_filter]
    refine List.filter_congr fun w _ => ?_
    by_cases own : w.channel = ch <;> simp [own]

/-- AUD's waiters alone are left. -/
theorem State.directorySafetyEntry_waiters (s : State) : s.directorySafetyEntry.directory.waiters =
    s.directory.waiters.filter fun w => decide (w.channel = audChannel) := by
  rw [State.directorySafetyEntry, foldl_safeChannel_waiters]
  refine List.filter_congr fun w _ => ?_
  rw [decide_eq_decide, mem_stageChannels, Fin.ext_iff]
  have last : audChannel.val = 176 := rfl
  omega

/-! ## The whole entry (08 R145) -/

section EnterStopping

variable (s : State) (c : Cause)

/-- The Directory and the Range Engine have taken the stop. -/
theorem State.enterStopping_told_after {p : Port} {n : Notice}
    (h : (s.setSafety (s.safety.stoppingFor c)).directorySafetyEntry.rangeSafetyEntry.told p n) : (s.enterStopping c).told p n := by
  have paused : (s.takenForStop c).told p n :=
    State.eachTrack_keeps (P := fun u => u.told p n) (fun u t told => (told_kept p n).safeTrack u t told) h
  have ports : ∀ u : State, u.clockSafetyEntry.ports = u.ports := fun _ => rfl
  have stopped := (told_kept p n).elsewhere (s.takenForStop c) _ (ports _) paused
  rw [State.enterStopping_eq]
  exact (told_kept p n).tellSafety _ _ stopped

theorem State.enterStopping_told_directory {p : Port} {n : Notice}
    (h : (s.setSafety (s.safety.stoppingFor c)).directorySafetyEntry.told p n) : (s.enterStopping c).told p n :=
  s.enterStopping_told_after c ((told_kept p n).rangeSafetyEntry _ h)

theorem State.enterStopping_waiters : (s.enterStopping c).directory.waiters =
    s.directory.waiters.filter fun w => decide (w.channel = audChannel) := by
  rw [s.enterStopping_directory, State.directorySafetyEntry_waiters]
  rfl

theorem State.enterStopping_tells_all (q : Port) :
    (s.enterStopping c).told q ⟨.safetyState, 255, causeCode c, s.clock.value, .none⟩ := by
  have told := (s.takenForStop c).clockSafetyEntry.postAll_told q .safetyState noSubject (causeCode c)
  have clock : (s.takenForStop c).clockSafetyEntry.clock.value = s.clock.value :=
    congrArg (fun u : ClockUnit => u.stop.value) (s.takenForStop_clock c)
  rw [clock] at told
  exact told

section Channel

variable {ch : Fin 177} (stage : ch.val < 176) {x : Port}
include stage

theorem State.enterStopping_tells_holder (holder : (s.entry ch).hold.holder = some x) :
    (s.enterStopping c).told x ⟨.lost, ch, 2, s.clock.value, .none⟩ :=
  s.enterStopping_told_directory c (State.directorySafetyEntry_told stage fun u same => by
    have value : u.clock.value = s.clock.value := by rw [same.clock]; rfl
    rw [← value]
    exact State.safeChannel_tells_holder (by rw [same.entry]; exact holder))

theorem State.enterStopping_tells_watcher (watches : (s.entry ch).watchers.get x = true) :
    (s.enterStopping c).told x ⟨.holderChanged, ch, 4, s.clock.value, .none⟩ :=
  s.enterStopping_told_directory c (State.directorySafetyEntry_told stage fun u same => by
    have value : u.clock.value = s.clock.value := by rw [same.clock]; rfl
    rw [← value]
    exact State.safeChannel_tells_watcher (by rw [same.entry]; exact watches))

theorem State.enterStopping_tells_waiter (waits : s.waitsFor x ch) :
    (s.enterStopping c).told x ⟨.claimDropped, ch, 2, s.clock.value, .none⟩ := by
  obtain ⟨w, hw, rfl, channel⟩ := waits
  refine s.enterStopping_told_directory c (State.directorySafetyEntry_told stage fun u same => ?_)
  have value : u.clock.value = s.clock.value := by rw [same.clock]; rfl
  rw [← value]
  refine State.safeChannel_tells_waiter ?_
  rw [same.waiters]
  exact List.mem_filter.mpr ⟨hw, decide_eq_true channel⟩

end Channel

/-! ### The range operation and the tracks -/

theorem State.enterStopping_range : (s.enterStopping c).range =
    (s.setSafety (s.safety.stoppingFor c)).directorySafetyEntry.rangeSafetyEntry.range := by
  have tracks : OnlyTracks _ (s.takenForStop c) := State.eachTrack_only _ State.safeTrack_only
  have told : ∀ (t : State) d, (t.tellSafety d).range = t.range := fun _ _ => rfl
  have clock : ∀ t : State, t.clockSafetyEntry.range = t.range := fun _ => rfl
  rw [State.enterStopping_eq, told, clock, tracks.range_eq]

end EnterStopping

end Sys2Proof.Machine

/-!
# A cause added in NORMAL takes the whole show (08 R144, R145)
-/

namespace Sys2Proof.Machine

/-- All that entry to STOPPING makes of a state but the Supervisor's record (01 R25, 02 R39, 03 R64, 04 R83, 08 R145). -/
structure StopTaken (s u : State) (k : Cause) : Prop where
  tellsAll : ∀ q, u.told q ⟨.safetyState, 255, causeCode k, s.clock.value, .none⟩
  entry : ∀ ch : Fin 177, ch.val < 176 → u.entry ch = ⟨.safed, (s.entry ch).watchers, none⟩
  holder : ∀ (ch : Fin 177) x, ch.val < 176 → (s.entry ch).hold.holder = some x →
    u.told x ⟨.lost, ch, 2, s.clock.value, .none⟩
  watcher : ∀ (ch : Fin 177) x, ch.val < 176 → (s.entry ch).watchers.get x = true →
    u.told x ⟨.holderChanged, ch, 4, s.clock.value, .none⟩
  waiter : ∀ (ch : Fin 177) x, ch.val < 176 → s.waitsFor x ch → u.told x ⟨.claimDropped, ch, 2, s.clock.value, .none⟩
  aud : u.entry audChannel = s.entry audChannel
  waiters : u.directory.waiters = s.directory.waiters.filter fun w => decide (w.channel = audChannel)
  rangeIdle : s.range.active = none → u.range = s.range
  rangeStands : ∀ r, s.range.active = some r → r.op.endsWithSafety = false → u.range = s.range
  rangeEnds : ∀ r, s.range.active = some r → r.op.endsWithSafety = true → u.range = ⟨none, some (r.outcome .safety)⟩
  rangeTold : ∀ r, s.range.active = some r → r.op.endsWithSafety = true → u.told r.issuer ⟨.rangeDone, r.first, 2, s.clock.value,
    .range r.done r.skipped r.firstSkipped r.residual⟩
  track : ∀ t, u.track t = (s.track t).map s.safedBody
  trackTold : ∀ t b, s.track t = some b → trackName (some b) = .running ∨ trackName (some b) = .waiting →
    u.told b.owner ⟨.trackState, t, 4, s.clock.value, .none⟩
  clock : u.clock = s.clock.stop
  stands : u.jets = s.jets ∧ u.headers = s.headers ∧ u.fixtures = s.fixtures ∧ u.nodes = s.nodes ∧ u.sweep = s.sweep
    ∧ u.cues = s.cues ∧ u.config = s.config ∧ u.unit.mode = s.unit.mode

/-! ## The range operation (02 R39) -/

theorem State.rangeSafetyEntry_range (s : State) : s.rangeSafetyEntry.range =
    match s.range.active with
    | some r => if r.op.endsWithSafety then ⟨none, some (r.outcome .safety)⟩ else s.range
    | none => s.range := by
  unfold State.rangeSafetyEntry
  cases s.range.active with
  | none => rfl
  | some r => dsimp only; split <;> rfl

theorem State.rangeSafetyEntry_told {s : State} {r : RangeRecord} (active : s.range.active = some r)
    (ends : r.op.endsWithSafety = true) : s.rangeSafetyEntry.told r.issuer ⟨.rangeDone, r.first, 2, s.clock.value,
      .range r.done r.skipped r.firstSkipped r.residual⟩ := by
  have ended : s.rangeSafetyEntry = s.endRange r .safety := by unfold State.rangeSafetyEntry; rw [active]; exact if_pos ends
  rw [ended]
  exact State.deliver_told _ _ _

section EnterStopping

variable (s : State) (k : Cause)

/-- The state after the Directory's part of entry to STOPPING has the range record and the clock it had before. -/
theorem State.safedDirectory_range : (s.setSafety (s.safety.stoppingFor k)).directorySafetyEntry.range = s.range := by
  have only := State.directorySafetyEntry_only (s.setSafety (s.safety.stoppingFor k))
  unfold OnlyDirectory at only
  rw [only]
  rfl

theorem State.safedDirectory_clock : (s.setSafety (s.safety.stoppingFor k)).directorySafetyEntry.clock = s.clock := by
  rw [(State.directorySafetyEntry_only _).clock_eq]
  rfl

theorem State.enterStopping_range_eq : (s.enterStopping k).range =
    match s.range.active with
    | some r => if r.op.endsWithSafety then ⟨none, some (r.outcome .safety)⟩ else s.range
    | none => s.range := by
  rw [State.enterStopping_range, State.rangeSafetyEntry_range, State.safedDirectory_range]

theorem State.enterStopping_tells_issuer {r : RangeRecord} (active : s.range.active = some r)
    (ends : r.op.endsWithSafety = true) : (s.enterStopping k).told r.issuer ⟨.rangeDone, r.first, 2, s.clock.value,
      .range r.done r.skipped r.firstSkipped r.residual⟩ := by
  refine s.enterStopping_told_after k ?_
  rw [← s.safedDirectory_clock k]
  exact State.rangeSafetyEntry_told (by rw [s.safedDirectory_range k]; exact active) ends

/-! ## The tracks (03 R64) -/

theorem State.safeTrack_tells_owner {s : State} {t : Fin 4} {b : TrackBody} (track : s.track t = some b)
    (moves : trackName (some b) = .running ∨ trackName (some b) = .waiting) :
    (s.safeTrack t).told b.owner ⟨.trackState, t, 4, s.clock.value, .none⟩ := by
  unfold State.safeTrack
  rw [track]
  dsimp only
  cases phase : b.phase with
  | running due at_ => exact State.deliver_told _ _ _
  | waiting m => exact State.deliver_told _ _ _
  | armed => simp [trackName, phase] at moves
  | paused n => simp [trackName, phase] at moves
  | faulted n => simp [trackName, phase] at moves

theorem State.eachTrack_safed_told {s : State} {t : Fin 4} {b : TrackBody} (track : s.track t = some b)
    (moves : trackName (some b) = .running ∨ trackName (some b) = .waiting) :
    (s.eachTrack State.safeTrack).told b.owner ⟨.trackState, t, 4, s.clock.value, .none⟩ := by
  refine State.eachTrack_told (t := t) (Q := fun u => u.track t = some b ∧ u.clock = s.clock)
    (fun u j told => (told_kept _ _).safeTrack u j told) (fun u j ne same => ?_) (fun u same => ?_) ⟨track, rfl⟩
  · obtain ⟨stands, clock⟩ := same
    exact ⟨by rw [State.safeTrack_track, if_neg ne.symm, stands], by rw [(State.safeTrack_only u j).clock_eq, clock]⟩
  · obtain ⟨stands, clock⟩ := same
    rw [← clock]
    exact State.safeTrack_tells_owner stands moves

theorem State.enterStopping_tells_owner {t : Fin 4} {b : TrackBody} (track : s.track t = some b)
    (moves : trackName (some b) = .running ∨ trackName (some b) = .waiting) :
    (s.enterStopping k).told b.owner ⟨.trackState, t, 4, s.clock.value, .none⟩ := by
  have before := (State.directorySafetyEntry_only (s.setSafety (s.safety.stoppingFor k))).ranges.trans
    (State.rangeSafetyEntry_ranges _)
  have clock : (s.setSafety (s.safety.stoppingFor k)).directorySafetyEntry.rangeSafetyEntry.clock = s.clock :=
    before.clock_eq.trans rfl
  have stands : (s.setSafety (s.safety.stoppingFor k)).directorySafetyEntry.rangeSafetyEntry.track t = some b := by
    have tracks : (s.setSafety (s.safety.stoppingFor k)).directorySafetyEntry.rangeSafetyEntry.tracks = s.tracks := by
      unfold OnlyRanges at before; rw [before]; rfl
    rw [State.track, tracks]
    exact track
  have paused : (s.takenForStop k).told b.owner ⟨.trackState, t, 4, s.clock.value, .none⟩ := by
    rw [← clock]
    exact State.eachTrack_safed_told stands moves
  have ports : ∀ u : State, u.clockSafetyEntry.ports = u.ports := fun _ => rfl
  have stopped := (told_kept _ _).elsewhere (s.takenForStop k) _ (ports _) paused
  rw [State.enterStopping_eq]
  exact (told_kept _ _).tellSafety _ _ stopped

/-! ## The whole -/

theorem State.enterStopping_stands : (s.enterStopping k).jets = s.jets ∧ (s.enterStopping k).headers = s.headers
    ∧ (s.enterStopping k).fixtures = s.fixtures ∧ (s.enterStopping k).nodes = s.nodes ∧ (s.enterStopping k).sweep = s.sweep
    ∧ (s.enterStopping k).cues = s.cues ∧ (s.enterStopping k).config = s.config
    ∧ (s.enterStopping k).unit.mode = s.unit.mode := by
  have only := s.enterStopping_only k
  unfold OnlySafety at only
  rw [only]
  exact ⟨rfl, rfl, rfl, rfl, rfl, rfl, rfl, rfl⟩

theorem State.enterStopping_taken : StopTaken s (s.enterStopping k) k where
  tellsAll := s.enterStopping_tells_all k
  entry ch stage := by rw [s.enterStopping_entry, if_pos stage]
  holder _ _ stage := s.enterStopping_tells_holder k stage
  watcher _ _ stage := s.enterStopping_tells_watcher k stage
  waiter _ _ stage := s.enterStopping_tells_waiter k stage
  aud := by rw [s.enterStopping_entry, if_neg (by decide)]
  waiters := s.enterStopping_waiters k
  rangeIdle idle := by rw [s.enterStopping_range_eq, idle]
  rangeStands r active stands := by rw [s.enterStopping_range_eq, active]; exact if_neg (by rw [stands]; decide)
  rangeEnds r active ends := by rw [s.enterStopping_range_eq, active]; exact if_pos ends
  rangeTold _ := s.enterStopping_tells_issuer k
  track := s.enterStopping_tracks k
  trackTold _ _ := s.enterStopping_tells_owner k
  clock := s.enterStopping_clock k
  stands := s.enterStopping_stands k

end EnterStopping

/-- Beside the idle timer and what a port answers, two states are the same, and no notice is taken back. -/
structure SameShow (s u : State) : Prop where
  same : u = { s with unit := u.unit, ports := u.ports }
  mode : u.unit.mode = s.unit.mode
  told : ∀ p n, s.told p n → u.told p n

theorem settleIdle_sameShow (s u : State) : SameShow u (settleIdle s u) := by
  refine ⟨?_, ?_, fun p n => ?_⟩ <;> rw [settleIdle_only]
  exact id

theorem State.respond_sameShow (s : State) (p : Port) (kind tag : Nat) (a : Answer) : SameShow s (s.respond p kind tag a) where
  same := rfl
  mode := rfl
  told q n h := by
    by_cases own : q = p
    · subst own
      rw [State.told, State.respond, State.port_setPort_self]
      exact h
    · rw [State.told, State.respond, State.port_setPort_ne _ _ (Ne.symm own)]
      exact h

theorem SameShow.trans {s t u : State} (h : SameShow s t) (k : SameShow t u) : SameShow s u where
  same := by have a := k.same; rw [h.same] at a; exact a
  mode := k.mode.trans h.mode
  told p n x := k.told p n (h.told p n x)

theorem SameShow.safety {s u : State} (h : SameShow s u) : u.safety = s.safety := by rw [h.same]

section StopTaken

variable {s u : State} {k : Cause} (h : StopTaken s u k)
include h

theorem StopTaken.after {v : State} (e : SameShow u v) : StopTaken s v k := by
  obtain ⟨same, mode, told⟩ := e
  have entries : v.directory = u.directory := by rw [same]
  have range : v.range = u.range := by rw [same]
  have tracks : ∀ t, v.track t = u.track t := fun t => by rw [same]; rfl
  obtain ⟨jets, headers, fixtures, nodes, sweep, cues, config, unit⟩ := h.stands
  have stands : v.jets = s.jets ∧ v.headers = s.headers ∧ v.fixtures = s.fixtures ∧ v.nodes = s.nodes ∧ v.sweep = s.sweep
      ∧ v.cues = s.cues ∧ v.config = s.config ∧ v.unit.mode = s.unit.mode :=
    ⟨by rw [same, ← jets], by rw [same, ← headers], by rw [same, ← fixtures], by rw [same, ← nodes], by rw [same, ← sweep],
      by rw [same, ← cues], by rw [same, ← config], mode.trans unit⟩
  exact {
    tellsAll := fun q => told _ _ (h.tellsAll q)
    entry := fun ch stage => (State.entry_of_directory entries ch).trans (h.entry ch stage)
    holder := fun ch x stage a => told _ _ (h.holder ch x stage a)
    watcher := fun ch x stage a => told _ _ (h.watcher ch x stage a)
    waiter := fun ch x stage a => told _ _ (h.waiter ch x stage a)
    aud := (State.entry_of_directory entries _).trans h.aud
    waiters := (congrArg Directory.waiters entries).trans h.waiters
    rangeIdle := fun a => range.trans (h.rangeIdle a)
    rangeStands := fun r a b => range.trans (h.rangeStands r a b)
    rangeEnds := fun r a b => range.trans (h.rangeEnds r a b)
    rangeTold := fun r a b => told _ _ (h.rangeTold r a b)
    track := fun t => (tracks t).trans (h.track t)
    trackTold := fun t b a c => told _ _ (h.trackTold t b a c)
    clock := by rw [same, ← h.clock]
    stands := stands }

end StopTaken

/-- What stands at the ports and in the Supervisor's record before the stop plays no part in it. -/
theorem StopTaken.of_before {s u : State} {k : Cause} {r : Supervisor} {ports : PerPort LinkPort}
    (h : StopTaken { s with safety := r, ports := ports } u k) : StopTaken s u k :=
  ⟨h.tellsAll, h.entry, h.holder, h.watcher, h.waiter, h.aud, h.waiters, h.rangeIdle, h.rangeStands, h.rangeEnds, h.rangeTold,
    h.track, h.trackTold, h.clock, h.stands⟩

/-! ## The three commands that add a cause -/

/-- What the three commands leave, where nothing follows entry to STOPPING but the idle timer and the answer. -/
theorem StopTaken.of_entry {s x u : State} {k : Cause} {estop : Bool}
    (before : x = { s with safety := { s.safety with estopAsserted := estop }, ports := x.ports })
    (after : SameShow (x.enterStopping k) u) :
    u.safety = { s.safety with state := .stopping, causes := [k], first := some k, further := false, estopAsserted := estop }
      ∧ StopTaken s u k := by
  have record : u.safety = x.safety.stoppingFor k := after.safety.trans (x.enterStopping_safety k)
  have taken := (x.enterStopping_taken k).after after
  rw [before] at record taken
  exact ⟨record, taken.of_before⟩

theorem safetyStopAction_enters {s : State} {p : Port} (normal : s.safety.state = .normal) (right : (s.rights p).safety = true)
    (missing : s.safety.has .manual = false) : safetyStopAction p s = (s.enterStopping .manual, .ok) := by
  rw [safetyStopAction, if_pos right, State.addCauseOnce, if_neg (by rw [missing]; decide), State.addCause, normal]

theorem State.assertEstop_enters {s : State} (normal : s.safety.state = .normal) (released : s.safety.estopAsserted = false)
    (missing : s.safety.has .estop = false) :
    s.assertEstop = (s.setSafety { s.safety with estopAsserted := true }).enterStopping .estop := by
  have before : (s.setSafety { s.safety with estopAsserted := true }).safety.has .estop = false := missing
  have state : (s.setSafety { s.safety with estopAsserted := true }).safety.state = .normal := normal
  rw [State.assertEstop, if_neg (by rw [released]; decide), State.addCauseOnce, if_neg (by rw [before]; decide),
    State.addCause, state]

theorem State.intrusion_enters {s : State} (normal : s.safety.state = .normal) (missing : s.safety.has .intrusion = false) :
    s.intrusion = s.enterStopping .intrusion := by
  rw [State.intrusion, if_neg (by rw [missing]; decide), State.addCause, normal]

theorem exec_safetyStop (p : Port) (tag : U8) (s : State) :
    exec (.safetyStop p tag) s = .next (s.request p 0x50 tag (settled (safetyStopAction p))) := rfl

theorem exec_estopAsserted (s : State) : exec .estopAsserted s = .next (settleIdle s s.assertEstop) := rfl

theorem exec_intrusionEdge (s : State) : exec .intrusionEdge s = .next (settleIdle s s.intrusion) := rfl

/-- The command that adds a cause enters STOPPING, and nothing follows but the idle timer and the answer. -/
theorem exec_enters {s : State} {p : Port} {tag : U8} {c : Instr} {k : Cause} (normal : s.safety.state = .normal)
    (command : (c = .safetyStop p tag ∧ k = .manual ∧ s.portReady p ∧ (s.rights p).safety = true)
      ∨ (c = .estopAsserted ∧ k = .estop ∧ s.safety.estopAsserted = false) ∨ (c = .intrusionEdge ∧ k = .intrusion))
    (absent : k ∉ s.safety.causes) : ∃ u, exec c s = .next u
      ∧ (u.safety = { s.safety with state := .stopping, causes := [k], first := some k, further := false
                                    estopAsserted := s.safety.estopAsserted || decide (k = .estop) }
      ∧ StopTaken s u k)
      ∧ (c = .safetyStop p tag → (u.port p).state = .answering 0x50 tag ⟨.ok, .empty⟩) := by
  have missing : s.safety.has k = false := by simpa [Supervisor.has] using absent
  rcases command with ⟨rfl, rfl, ready, right⟩ | ⟨rfl, rfl, released⟩ | ⟨rfl, rfl⟩
  · have acts := safetyStopAction_enters (s := s.beginRequest p 0x50 tag.val) normal right missing
    have after := (settleIdle_sameShow (s.beginRequest p 0x50 tag.val) ((s.beginRequest p 0x50 tag.val).enterStopping .manual)).trans
      (State.respond_sameShow _ p 0x50 tag.val .ok)
    refine ⟨_, exec_safetyStop p tag s, ?_⟩
    rw [State.request, if_pos (State.takesFrame_of_portReady ready), settled, acts]
    refine ⟨StopTaken.of_entry ?_ after, fun _ => ?_⟩
    · rw [show decide (Cause.manual = .estop) = false from rfl, Bool.or_false]; rfl
    · rw [State.respond, State.port_setPort_self]; rfl
  · refine ⟨_, exec_estopAsserted s, ?_, fun e => (nomatch e)⟩
    rw [State.assertEstop_enters normal released missing]
    refine StopTaken.of_entry ?_ (settleIdle_sameShow _ _)
    rw [show decide (Cause.estop = .estop) = true from rfl, Bool.or_true]; rfl
  · refine ⟨_, exec_intrusionEdge s, ?_, fun e => (nomatch e)⟩
    rw [State.intrusion_enters normal missing]
    refine StopTaken.of_entry ?_ (settleIdle_sameShow _ _)
    rw [show decide (Cause.intrusion = .estop) = false from rfl, Bool.or_false]

/-- Settles O46: the clauses are those of `StopTaken`, with the ops of R39 and the states of R64 spelt out. -/
theorem stopTakesEverything : Obligations.StopTakesEverything := by
  unfold Obligations.StopTakesEverything
  intro s p x q tag c k ch t b r due at_ m n normal command absent
  obtain ⟨u, next, ⟨safety, taken⟩, answer⟩ := exec_enters normal command absent
  have ends : r.op.isClaim = true ∨ r.op.isSet = true → r.op.endsWithSafety = true := by
    cases r.op <;> simp [RangeOp.isClaim, RangeOp.isSet, RangeOp.endsWithSafety]
  have lasts : r.op.isClaim = false → r.op.isSet = false → r.op.endsWithSafety = false := by
    cases r.op <;> simp [RangeOp.isClaim, RangeOp.isSet, RangeOp.endsWithSafety]
  refine ⟨u, next, safety, taken.tellsAll q, answer, taken.entry ch, taken.holder ch x, taken.watcher ch x, taken.waiter ch x,
    taken.aud, taken.waiters, fun active => ⟨fun op => ⟨taken.rangeEnds r active (ends op), taken.rangeTold r active (ends op)⟩,
      fun claim set => taken.rangeStands r active (lasts claim set)⟩, fun idle => ?_, fun body => ?_, taken.clock, taken.stands⟩
  · rw [taken.track, idle]; rfl
  · have found : u.track t = some (s.safedBody b) := by rw [taken.track, body]; rfl
    have told := taken.trackTold t b body
    refine ⟨fun phase => ⟨?_, told (.inl (by rw [trackName, phase]))⟩, fun phase => ⟨?_, told (.inr (by rw [trackName, phase]))⟩,
      fun phase => ?_, fun name => ?_⟩
    · rw [found, State.safedBody, phase]
    · rw [found, State.safedBody, phase]; rfl
    · rw [found, State.safedBody, phase]
    · rw [found, body, State.safedBody]
      cases phase : b.phase <;> simp_all [trackName]

end Sys2Proof.Machine

/-!
# The Supervisor's record at a cause, at a wind state, at a reading and at a loss (08 R137 to R140, R144)
-/

namespace Sys2Proof.Machine

/-! ## The record -/

/-- The record after a cause has been added unless it stands in the list already (R144). -/
def Supervisor.withCause (r : Supervisor) (c : Cause) : Supervisor :=
  if c ∈ r.causes then r
  else if r.state = .normal then r.stoppingFor c
  else { r with causes := r.causes ++ [c], further := true }

/-- The gust value and the hold timer after a reading of wind `w` in a state (R137). -/
def State.gustTaken (s : State) (w : Nat) : Supervisor :=
  if s.safety.gust ≤ w then { s.safety with gust := w, holdDeadline := s.holdStart }
  else if s.safety.holdDeadline = none then { s.safety with gust := w }
  else s.safety

/-- The wind state of one evaluation (R138, R139). -/
def Supervisor.windNext (r : Supervisor) (g : Global) : Wind :=
  if r.standing = .missing then .windStop else windOf g r.wind r.gust

theorem Supervisor.has_iff (r : Supervisor) (c : Cause) : r.has c = true ↔ c ∈ r.causes := by
  simp [Supervisor.has]

theorem windAfter_eq (g : Global) (before : Wind) (gust : Nat) : windAfter g before gust = windOf g before gust := by
  cases before <;> simp [windAfter, windBelow, windOf]

/-! ## Causes -/

section Causes

variable {s : State} {c : Cause}

theorem State.addCauseOnce_of_mem (h : c ∈ s.safety.causes) : s.addCauseOnce c = s :=
  if_pos ((s.safety.has_iff c).mpr h)

theorem State.addCauseOnce_of_not_mem (h : c ∉ s.safety.causes) : s.addCauseOnce c = s.addCause c :=
  if_neg fun has => h ((s.safety.has_iff c).mp has)

theorem State.addCause_of_normal (h : s.safety.state = .normal) : s.addCause c = s.enterStopping c := by
  rw [State.addCause, h]

theorem State.addCause_of_stop (h : s.safety.state ≠ .normal) : s.addCause c = s.recordCause c := by
  unfold State.addCause
  split
  · next e => exact absurd e h
  · rfl
  · rfl

theorem State.addCauseOnce_safety (s : State) (c : Cause) : (s.addCauseOnce c).safety = s.safety.withCause c := by
  unfold Supervisor.withCause
  split_ifs with mem normal
  · rw [State.addCauseOnce_of_mem mem]
  · rw [State.addCauseOnce_of_not_mem mem, State.addCause_of_normal normal, State.enterStopping_safety]
  · rw [State.addCauseOnce_of_not_mem mem, State.addCause_of_stop normal, State.recordCause_safety]

theorem State.recordCause_told (s : State) (c : Cause) (q : Port) :
    (s.recordCause c).told q ⟨.safetyState, 255, 5 + causeCode c, s.clock.value, .none⟩ :=
  (s.setSafety { s.safety with causes := s.safety.causes ++ [c], further := true }).postAll_told q .safetyState 255 (5 + causeCode c)

theorem State.addCauseOnce_told (absent : c ∉ s.safety.causes) (q : Port) : (s.addCauseOnce c).told q
    ⟨.safetyState, 255, if s.safety.state = .normal then causeCode c else 5 + causeCode c, s.clock.value, .none⟩ := by
  rw [State.addCauseOnce_of_not_mem absent]
  split_ifs with normal
  · rw [State.addCause_of_normal normal]; exact s.enterStopping_tells_all c q
  · rw [State.addCause_of_stop normal]; exact s.recordCause_told c q

end Causes

/-! ## The wind -/

theorem State.setWind_safety (s : State) (w : Wind) : (s.setWind w).safety = { s.safety with wind := w } := by
  unfold State.setWind
  split_ifs with same
  · rw [same]
  · rfl

theorem State.setWind_clock (s : State) (w : Wind) : (s.setWind w).clock = s.clock := by
  unfold State.setWind
  split_ifs <;> rfl

theorem State.setWind_told {s : State} {w : Wind} (change : w ≠ s.safety.wind) (q : Port) :
    (s.setWind w).told q (windNotice w s.clock.value) := by
  have code : windCode w = if w = .calm then 10 else if w = .derate then 11 else 12 := by cases w <;> rfl
  rw [State.setWind, if_neg change, windNotice, ← code]
  exact State.postAll_told _ q .safetyState 255 (windCode w)

theorem State.evalWind_eq (s : State) : s.evalWind = s.setWind (s.safety.windNext s.config.global) := by
  rw [State.evalWind, Supervisor.windNext]
  simp only [windAfter_eq]

theorem State.evalWind_safety (s : State) :
    s.evalWind.safety = { s.safety with wind := s.safety.windNext s.config.global } := by
  rw [State.evalWind_eq, State.setWind_safety]

/-! ## A reading, and the presence of the SENSE node -/

theorem State.takeGust_eq (s : State) (w : Nat) : s.takeGust w = s.setSafety (s.gustTaken w) := by
  have same : s.setSafety s.safety = s := rfl
  unfold State.takeGust State.gustTaken
  split_ifs with rises stands
  · rfl
  · rw [stands]
  · rw [same]
    cases h : s.safety.holdDeadline with
    | some d => rfl
    | none => exact absurd h stands

theorem State.takeLevel_safety (s : State) (low : Bool) : (s.takeLevel low).safety =
    if low then Supervisor.withCause { s.safety with levelLow := low } .level else { s.safety with levelLow := low } := by
  unfold State.takeLevel
  cases low
  · rfl
  · exact State.addCauseOnce_safety _ _

theorem State.sensorOnline_safety (s : State) : s.sensorOnline.safety =
    if s.safety.standing = .present then s.safety
    else { s.safety with standing := .present, wind := windOf s.config.global s.safety.wind s.safety.gust } := by
  unfold State.sensorOnline
  split_ifs
  · rfl
  · rw [State.evalWind_safety]; rfl

theorem State.sensorLost_of_missing {s : State} (h : s.safety.standing = .missing) : s.sensorLost = s := if_pos h

theorem State.sensorLost_eq {s : State} (h : s.safety.standing ≠ .missing) :
    s.sensorLost = ((s.setSafety { s.safety with standing := .missing }).setWind .windStop).addCauseOnce .level := if_neg h

theorem State.sensorLost_safety {s : State} (h : s.safety.standing ≠ .missing) : s.sensorLost.safety =
    Supervisor.withCause { s.safety with standing := .missing, wind := .windStop } .level := by
  rw [State.sensorLost_eq h, State.addCauseOnce_safety, State.setWind_safety]
  rfl

theorem Supervisor.withCause_standing (r : Supervisor) (c : Cause) : (r.withCause c).standing = r.standing := by
  unfold Supervisor.withCause; split_ifs <;> rfl

theorem Supervisor.withCause_wind (r : Supervisor) (c : Cause) : (r.withCause c).wind = r.wind := by
  unfold Supervisor.withCause; split_ifs <;> rfl

theorem Supervisor.mem_withCause (r : Supervisor) (c : Cause) : c ∈ (r.withCause c).causes := by
  unfold Supervisor.withCause
  split_ifs with mem normal
  · exact mem
  · exact List.mem_singleton_self c
  · exact List.mem_append_right _ (List.mem_singleton_self c)

theorem State.sensorLost_standing (s : State) : s.sensorLost.safety.standing = .missing := by
  by_cases h : s.safety.standing = .missing
  · rw [State.sensorLost_of_missing h]; exact h
  · rw [State.sensorLost_safety h, Supervisor.withCause_standing]

end Sys2Proof.Machine

/-!
# A sweep over the nodes (07 R121, R122)
-/

namespace Sys2Proof.Machine

/-! ## One node as a sweep comes to it -/

theorem NodeRecord.visit_of_passedOver {r : NodeRecord} {probing : Bool} (h : r.passedOver probing) : r.visit probing = none := by
  unfold NodeRecord.passedOver at h
  unfold NodeRecord.visit
  rcases h with absent | ⟨absent | absent, idle⟩ | ⟨backoff, skips⟩
  · rw [absent]
  · rw [absent]; simp [idle]
  · rw [absent]; simp [idle]
  · rw [backoff]; simp [skips.ne']

theorem NodeRecord.visit_of_not_passedOver {r : NodeRecord} {probing : Bool} (h : ¬ r.passedOver probing) :
    r.visit probing = some r.sent := by
  unfold NodeRecord.passedOver at h
  unfold NodeRecord.visit NodeRecord.sent
  cases state : r.state <;> simp_all

theorem NodeRecord.passed_eq (r : NodeRecord) : r.passed = r.skipped := by
  unfold NodeRecord.passed NodeRecord.skipped
  cases state : r.state <;> simp

theorem State.transmit_eq (s : State) (n : Fin 32) (kind : SentKind) : s.transmit n kind = s.sending n kind := by
  unfold State.transmit State.sending
  cases kind <;> rfl

theorem State.sending_setNode (s : State) (m : Fin 32) (r : NodeRecord) (n : Fin 32) (kind : SentKind) :
    (s.setNode m r).sending n kind = s.sending n kind := rfl

/-- What a node is sent lies in the tables and the outputs, which the field link's records and the Supervisor do not hold. -/
theorem OnlyField.sending_eq {s t : State} (h : OnlyField s t) (n : Fin 32) (kind : SentKind) : t.sending n kind = s.sending n kind := by
  unfold OnlyField at h
  have body : t.updateBody n = s.updateBody n := by rw [h]; rfl
  have window : t.config = s.config := by rw [h]
  rw [State.sending, State.sending, body, window]

/-! ## A walk over a list of nodes -/

section Walk

variable {probing : Bool} {l : List (Fin 32)}

theorem State.walk_cons_passed {s : State} {n : Fin 32} (h : (s.node n).passedOver probing) :
    State.walk probing (n :: l) s = State.walk probing l (s.setNode n (s.node n).skipped) := by
  rw [State.walk, NodeRecord.visit_of_passedOver h, NodeRecord.passed_eq]

theorem State.walk_cons_held {s : State} {n : Fin 32} (h : ¬ (s.node n).passedOver probing) :
    State.walk probing (n :: l) s = s.setSweep { s.sweep with running := some ⟨s.sending n (s.node n).sent, probing⟩ } := by
  rw [State.walk, NodeRecord.visit_of_not_passedOver h, ← State.transmit_eq]

/-- A walk is held at the first node it does not pass over. -/
theorem State.walk_reaches (sorted : l.Pairwise (· < ·)) {m : Fin 32} (hm : m ∈ l) {s : State}
    (before : ∀ i ∈ l, i < m → (s.node i).passedOver probing) (held : ¬ (s.node m).passedOver probing) :
    (State.walk probing l s).sweep = { s.sweep with running := some ⟨s.sending m (s.node m).sent, probing⟩ }
      ∧ ∀ k, (State.walk probing l s).node k = if k ∈ l ∧ k < m then (s.node k).skipped else s.node k := by
  induction l generalizing s with
  | nil => cases hm
  | cons n rest ih =>
    obtain ⟨above, sorted⟩ := List.pairwise_cons.mp sorted
    by_cases own : n = m
    · subst own
      rw [State.walk_cons_held held]
      refine ⟨rfl, fun k => ?_⟩
      have none : ¬ (k ∈ n :: rest ∧ k < n) := fun ⟨mem, lt⟩ => by
        rcases List.mem_cons.mp mem with rfl | mem
        · exact lt_irrefl _ lt
        · exact lt_asymm lt (above k mem)
      rw [if_neg none]
      rfl
    · have mem : m ∈ rest := (List.mem_cons.mp hm).resolve_left (Ne.symm own)
      have lt : n < m := above m mem
      have others : ∀ i ∈ rest, (s.setNode n (s.node n).skipped).node i = s.node i := fun i hi =>
        State.node_setNode_ne _ _ (above i hi).ne
      rw [State.walk_cons_passed (before n List.mem_cons_self lt)]
      obtain ⟨sweep, nodes⟩ := ih sorted mem (s := s.setNode n (s.node n).skipped)
        (fun i hi h => by rw [others i hi]; exact before i (List.mem_cons_of_mem _ hi) h) (by rw [others m mem]; exact held)
      refine ⟨by rw [sweep, others m mem, State.sending_setNode]; rfl, fun k => ?_⟩
      rw [nodes]
      by_cases first : k = n
      · subst first
        have absent : k ∉ rest := fun h => lt_irrefl _ (above k h)
        rw [State.node_setNode_self, if_neg (fun h => absurd h.1 absent), if_pos ⟨List.mem_cons_self, lt⟩]
      · rw [State.node_setNode_ne _ _ (Ne.symm first)]
        simp only [List.mem_cons, first, false_or]

/-- A walk that is held nowhere ends the sweep. -/
theorem State.walk_ends (nodup : l.Nodup) {s : State} (passed : ∀ i ∈ l, (s.node i).passedOver probing) :
    (State.walk probing l s).sweep = { s.sweep with running := none }
      ∧ ∀ k, (State.walk probing l s).node k = if k ∈ l then (s.node k).skipped else s.node k := by
  induction l generalizing s with
  | nil => exact ⟨rfl, fun k => rfl⟩
  | cons n rest ih =>
    obtain ⟨absent, nodup⟩ := List.nodup_cons.mp nodup
    have others : ∀ i ∈ rest, (s.setNode n (s.node n).skipped).node i = s.node i := fun i hi =>
      State.node_setNode_ne _ _ fun e => absent (e ▸ hi)
    rw [State.walk_cons_passed (passed n List.mem_cons_self)]
    obtain ⟨sweep, nodes⟩ := ih nodup (s := s.setNode n (s.node n).skipped)
      (fun i hi => by rw [others i hi]; exact passed i (List.mem_cons_of_mem _ hi))
    refine ⟨sweep, fun k => ?_⟩
    rw [nodes]
    by_cases first : k = n
    · subst first
      rw [State.node_setNode_self, if_neg absent, if_pos List.mem_cons_self]
    · rw [State.node_setNode_ne _ _ (Ne.symm first)]
      simp only [List.mem_cons, first, false_or]

/-- Wherever a walk comes to stand, it has moved the transmission alone, and what it begins is of its own kind. -/
theorem State.walk_sweep (l : List (Fin 32)) (s : State) : (State.walk probing l s).sweep =
    { s.sweep with running := (State.walk probing l s).sweep.running }
      ∧ ∀ x ∈ (State.walk probing l s).sweep.running.toList, x.probing = probing := by
  induction l generalizing s with
  | nil => exact ⟨rfl, fun x h => by cases h⟩
  | cons n rest ih =>
    by_cases h : (s.node n).passedOver probing
    · rw [State.walk_cons_passed h]
      exact ih _
    · rw [State.walk_cons_held h]
      refine ⟨rfl, fun x hx => ?_⟩
      obtain rfl := Option.mem_some_iff.mp (Option.mem_toList.mp hx)
      rfl

/-- A walk takes at most one off a node's skip count, and nothing off that of a node it does not come to. -/
theorem State.walk_node (nodup : l.Nodup) (s : State) (k : Fin 32) : (State.walk probing l s).node k = s.node k
    ∨ k ∈ l ∧ (State.walk probing l s).node k = (s.node k).skipped := by
  induction l generalizing s with
  | nil => exact .inl rfl
  | cons n rest ih =>
    obtain ⟨absent, nodup⟩ := List.nodup_cons.mp nodup
    by_cases h : (s.node n).passedOver probing
    · rw [State.walk_cons_passed h]
      rcases ih nodup (s.setNode n (s.node n).skipped) with same | ⟨mem, skipped⟩
      · rw [same]
        by_cases first : k = n
        · subst first
          exact .inr ⟨List.mem_cons_self, State.node_setNode_self _ _ _⟩
        · exact .inl (State.node_setNode_ne _ _ (Ne.symm first))
      · have ne : k ≠ n := fun e => absent (e ▸ mem)
        rw [skipped, State.node_setNode_ne _ _ ne.symm]
        exact .inr ⟨List.mem_cons_of_mem _ mem, rfl⟩
    · rw [State.walk_cons_held h]
      exact .inl rfl

end Walk

end Sys2Proof.Machine

/-!
# The sweep's start and its going on, and the end of a transmission (07 R121 to R124)
-/

namespace Sys2Proof.Machine

theorem indices_eq (n : Nat) : Table.indices n = List.finRange n := by
  have length : (Table.indices n).length = n := by rw [Table.indices, Table.collect_length]; rfl
  refine List.ext_getElem (by rw [length, List.length_finRange]) fun i hi _ => ?_
  have below : i < n := length ▸ hi
  simp [Table.indices, Table.collect_get, below]

theorem indices_pairwise (n : Nat) : (Table.indices n).Pairwise (· < ·) := by
  rw [indices_eq]
  exact List.pairwise_lt_finRange n

theorem indices_nodup (n : Nat) : (Table.indices n).Nodup := (indices_pairwise n).imp fun h => h.ne

theorem nodesAfter_pairwise (n : Fin 32) : (nodesAfter n).Pairwise (· < ·) := (indices_pairwise 32).filter _

theorem nodesAfter_nodup (n : Fin 32) : (nodesAfter n).Nodup := (indices_nodup 32).filter _

theorem mem_nodesAfter (n m : Fin 32) : m ∈ nodesAfter n ↔ n < m := by
  simp [nodesAfter, Table.mem_indices]

/-! ## The start of a sweep -/

/-- The state in which a sweep that starts comes to its first node. -/
def State.counted (s : State) : State :=
  s.setSweep { s.sweep with probeCounter := nextProbe s.sweep.probeCounter s.config.global.probeInterval }

theorem State.startSweep_eq (s : State) : s.startSweep = State.walk (s.sweep.probeCounter == 0) (Table.indices 32) s.counted := rfl

theorem State.counted_node (s : State) (n : Fin 32) : s.counted.node n = s.node n := rfl

theorem State.counted_only (s : State) : OnlySweep s s.counted := rfl

theorem State.startSweep_node (s : State) (k : Fin 32) :
    s.startSweep.node k = s.node k ∨ s.startSweep.node k = (s.node k).skipped := by
  rw [State.startSweep_eq, ← s.counted_node k]
  exact (State.walk_node (indices_nodup 32) s.counted k).imp id fun h => h.2

theorem State.startSweep_sweep (s : State) : s.startSweep.sweep = { s.counted.sweep with running := s.startSweep.sweep.running }
    ∧ ∀ x ∈ s.startSweep.sweep.running.toList, x.probing = (s.sweep.probeCounter == 0) := by
  rw [State.startSweep_eq]
  exact State.walk_sweep (Table.indices 32) s.counted

/-! ## Going on -/

section GoOn

variable {s : State} {probing : Bool} {rest : List (Fin 32)}

theorem State.goOn_held {r : RunningSweep} (h : (State.walk probing rest s).sweep.running = some r) :
    s.goOn probing rest = State.walk probing rest s := by
  rw [State.goOn]
  dsimp only
  rw [h]

theorem State.goOn_ended (h : (State.walk probing rest s).sweep.running = none)
    (calm : (State.walk probing rest s).sweep.pending = false) : s.goOn probing rest = State.walk probing rest s := by
  rw [State.goOn]
  dsimp only
  rw [h, calm]
  rfl

theorem State.goOn_pending (h : (State.walk probing rest s).sweep.running = none)
    (pending : (State.walk probing rest s).sweep.pending = true) : s.goOn probing rest =
      ((State.walk probing rest s).setSweep { (State.walk probing rest s).sweep with pending := false }).startSweep := by
  rw [State.goOn]
  dsimp only
  rw [h, pending]
  rfl

theorem State.walk_pending (s : State) (probing : Bool) (rest : List (Fin 32)) :
    (State.walk probing rest s).sweep.pending = s.sweep.pending := by
  rw [(State.walk_sweep rest s).1]

/-- A node the sweep has come past keeps its record but for one off its skip count where a pending sweep starts. -/
theorem State.goOn_node (nodup : rest.Nodup) {n : Fin 32} (past : n ∉ rest) :
    (s.goOn probing rest).node n = s.node n
      ∨ s.sweep.pending = true ∧ (s.goOn probing rest).node n = (s.node n).skipped := by
  have walked : (State.walk probing rest s).node n = s.node n :=
    (State.walk_node nodup s n).resolve_right fun h => past h.1
  rcases running : (State.walk probing rest s).sweep.running with _ | r
  · rcases pending : s.sweep.pending with _ | _
    · rw [State.goOn_ended running (by rw [State.walk_pending, pending])]
      exact .inl walked
    · rw [State.goOn_pending running (by rw [State.walk_pending, pending]), ← walked]
      exact (State.startSweep_node _ n).imp id fun h => ⟨rfl, h⟩
  · rw [State.goOn_held running]
    exact .inl walked

end GoOn

/-! ## The end of a transmission at its node -/

/-- Two states whose sweep is the same, and whose node records are the same but for one. -/
structure AtNode (n : Fin 32) (s t : State) : Prop where
  sweep : t.sweep = s.sweep
  node : ∀ k, k ≠ n → t.node k = s.node k

theorem AtNode.trans {n : Fin 32} {s t u : State} (h : AtNode n s t) (k : AtNode n t u) : AtNode n s u :=
  ⟨k.sweep.trans h.sweep, fun m ne => (k.node m ne).trans (h.node m ne)⟩

theorem OnlySafety.nodes_eq {s t : State} (h : OnlySafety s t) : t.nodes = s.nodes := by
  unfold OnlySafety at h; rw [h]

theorem OnlySafety.node_eq {s t : State} (h : OnlySafety s t) (n : Fin 32) : t.node n = s.node n := by
  unfold State.node; rw [h.nodes_eq]

theorem OnlySafety.atNode {s t : State} (h : OnlySafety s t) (n : Fin 32) : AtNode n s t :=
  ⟨by unfold OnlySafety at h; rw [h], fun k _ => h.node_eq k⟩

theorem State.setNode_atNode (s : State) (n : Fin 32) (r : NodeRecord) : AtNode n s (s.setNode n r) :=
  ⟨rfl, fun _ ne => State.node_setNode_ne _ _ ne.symm⟩

theorem State.handLoss_only_safety (s : State) (n : Fin 32) : OnlySafety s (s.handLoss n) := by
  unfold State.handLoss
  split
  · exact s.sensorLost_only
  · rfl

theorem State.tellNode_only_safety (s : State) (n : Fin 32) (detail : Nat) : OnlySafety s (s.tellNode n detail) :=
  (s.postAll_only _ _ _).directory.tracks.show.safety

section Ending

variable (s : State) (n : Fin 32)

theorem State.loseNode_atNode (r : NodeRecord) (detail : Nat) : AtNode n s (s.loseNode n r detail) :=
  ((s.setNode_atNode n _).trans ((State.tellNode_only_safety _ n detail).atNode n)).trans
    ((State.handLoss_only_safety _ n).atNode n)

theorem State.missNode_atNode : AtNode n s (s.missNode n) := by
  unfold State.missNode
  dsimp only
  split_ifs
  · exact ⟨rfl, fun _ _ => rfl⟩
  · exact s.loseNode_atNode n _ 1
  · exact s.setNode_atNode n _

theorem State.busyNode_atNode : AtNode n s (s.busyNode n) := by
  unfold State.busyNode
  dsimp only
  split_ifs
  · exact s.loseNode_atNode n _ 2
  · exact (s.setNode_atNode n _).trans ((State.handLoss_only_safety _ n).atNode n)
  · exact s.setNode_atNode n _

theorem State.ackNode_atNode (body : AckBody) : AtNode n s (s.ackNode n body) := by
  have acked := s.setNode_atNode n ((s.node n).acked body)
  unfold State.ackNode
  split
  · exact acked
  · exact acked
  · split_ifs
    · exact acked.trans ((State.takeReading_only _ _ _).atNode n)
    · exact (acked.trans ((State.sensorOnline_only _).atNode n)).trans ((State.takeReading_only _ _ _).atNode n)

theorem State.identNode_atNode : AtNode n s (s.identNode n) := by
  unfold State.identNode
  dsimp only
  split_ifs
  · exact (s.setNode_atNode n _).trans ((State.tellNode_only_safety _ n 0).atNode n)
  · exact s.setNode_atNode n _

end Ending

theorem EndOfTransmission.atNode {act : State → Transmission → State} (e : EndOfTransmission act) (s : State) (tx : Transmission) :
    AtNode tx.node s (act s tx) := by
  cases e with
  | ack body =>
    unfold State.endAck
    split
    · exact s.ackNode_atNode _ body
    · exact s.missNode_atNode _
  | busy =>
    unfold State.endBusy
    split
    · exact s.busyNode_atNode _
    · exact s.missNode_atNode _
  | ident ty =>
    unfold State.endIdent
    split
    · exact s.identNode_atNode _
    · exact s.missNode_atNode _
  | miss => exact s.missNode_atNode _

/-! ## The commands that end a transmission -/

/-- The state in which the sweep goes on after the end of a transmission. -/
def State.ended (s : State) (act : State → Transmission → State) (tx : Transmission) : State := if tx.counted then act s tx else s

theorem State.endTransmission_idle {s : State} (h : s.sweep.running = none) (act : State → Transmission → State) :
    s.endTransmission act = s := by
  rw [State.endTransmission, h]

theorem State.endTransmission_eq {s : State} {r : RunningSweep} (h : s.sweep.running = some r)
    (act : State → Transmission → State) :
    s.endTransmission act = (s.ended act r.tx).goOn r.probing (nodesAfter r.tx.node) := by
  rw [State.endTransmission, h]
  rfl

theorem EndOfTransmission.ended_atNode {act : State → Transmission → State} (e : EndOfTransmission act) (s : State)
    (tx : Transmission) : AtNode tx.node s (s.ended act tx) := by
  unfold State.ended
  split
  · exact e.atNode s tx
  · exact ⟨rfl, fun _ _ => rfl⟩

theorem EndOfTransmission.ended_only {act : State → Transmission → State} (e : EndOfTransmission act) (s : State)
    (tx : Transmission) : OnlyField s (s.ended act tx) := by
  unfold State.ended
  split
  · exact e.only s tx
  · exact .refl s

theorem exec_ack (body : AckBody) (s : State) :
    exec (.ack body) s = .next (settleIdle s (s.endTransmission (State.endAck body))) := rfl

theorem exec_busy (s : State) : exec .busy s = .next (settleIdle s (s.endTransmission State.endBusy)) := rfl

theorem exec_ident (ty : U8) (s : State) : exec (.ident ty) s = .next (settleIdle s (s.endTransmission (State.endIdent ty))) := rfl

theorem exec_badCheckReply (s : State) : exec .badCheckReply s = .next (settleIdle s (s.endTransmission State.endMiss)) := rfl

theorem exec_replyWindowExpiry (s : State) :
    exec .replyWindowExpiry s = .next (settleIdle s (s.endTransmission State.endMiss)) := rfl

theorem exec_ends {c : Instr} {body : AckBody} {ty : U8}
    (h : c = .busy ∨ c = .badCheckReply ∨ c = .replyWindowExpiry ∨ c = .ack body ∨ c = .ident ty) (s : State) :
    ∃ act, EndOfTransmission act ∧ exec c s = .next (settleIdle s (s.endTransmission act)) := by
  rcases h with rfl | rfl | rfl | rfl | rfl
  · exact ⟨_, .busy, exec_busy s⟩
  · exact ⟨_, .miss, exec_badCheckReply s⟩
  · exact ⟨_, .miss, exec_replyWindowExpiry s⟩
  · exact ⟨_, .ack body, exec_ack body s⟩
  · exact ⟨_, .ident ty, exec_ident ty s⟩

/-- The records of the field link are not the idle timer's. -/
theorem settleIdle_link (s u : State) : (settleIdle s u).sweep = u.sweep ∧ ∀ n, (settleIdle s u).node n = u.node n := by
  rw [settleIdle_only]
  exact ⟨rfl, fun _ => rfl⟩

end Sys2Proof.Machine

/-!
# What a reply, a BUSY and a miss make of the node that a transmission addressed (07 R120, R125 to R128, R132)
-/

namespace Sys2Proof.Machine

/-! ## What follows the end of a counted transmission -/

/-- The sweep's going on and the idle timer leave of a state `u` what its node's record and the blocks make. -/
structure LinkEnd (s u t : State) (n : Fin 32) : Prop where
  node : t.node n = u.node n ∨ s.sweep.pending = true ∧ t.node n = (u.node n).skipped
  safety : t.safety = u.safety
  ports : t.ports = u.ports
  directory : t.directory = u.directory
  clock : t.clock = u.clock

theorem LinkEnd.told {s u t : State} {n : Fin 32} (h : LinkEnd s u t n) {p : Port} {x : Notice} (told : u.told p x) : t.told p x := by
  unfold State.told State.port at *
  rw [h.ports]
  exact told

theorem LinkEnd.node_of_not_backoff {s u t : State} {n : Fin 32} (h : LinkEnd s u t n) (calm : (u.node n).state ≠ .backoff) :
    t.node n = u.node n := by
  have skipped : (u.node n).skipped = u.node n := if_neg calm
  exact h.node.elim id fun k => k.2.trans skipped

theorem EndOfTransmission.linkEnd {act : State → Transmission → State} (e : EndOfTransmission act) {s : State} {r : RunningSweep}
    (running : s.sweep.running = some r) (counted : r.tx.counted = true) :
    LinkEnd s (act s r.tx) (settleIdle s (s.endTransmission act)) r.tx.node := by
  have ended : s.ended act r.tx = act s r.tx := if_pos counted
  have pending : (act s r.tx).sweep.pending = s.sweep.pending := by rw [(e.atNode s r.tx).sweep]
  have past : r.tx.node ∉ nodesAfter r.tx.node := fun h => lt_irrefl _ ((mem_nodesAfter _ _).mp h)
  have went := State.goOn_only (act s r.tx) r.probing (nodesAfter r.tx.node)
  have timer := settleIdle_sameShow s ((act s r.tx).goOn r.probing (nodesAfter r.tx.node))
  rw [State.endTransmission_eq running, ended]
  unfold OnlySweep at went
  refine ⟨?_, ?_, ?_, ?_, ?_⟩
  · rw [(settleIdle_link _ _).2, ← pending]
    exact State.goOn_node (nodesAfter_nodup _) past
  · rw [timer.safety, went]
  · rw [settleIdle_only, went]
  · rw [timer.same, went]
  · rw [timer.same, went]

/-- A node addressed by an UPDATE or a SYNC UPDATE whose end counts. -/
theorem State.updating.sweep {s : State} {n : Fin 32} (h : s.updating n) :
    ∃ r, s.sweep.running = some r ∧ r.tx.node = n ∧ r.tx.counted = true ∧ r.tx.isUpdate = true := by
  obtain ⟨r, running, node, counted, kind⟩ := h
  exact ⟨r, Option.mem_toList.mp running, node, counted, by simpa [Transmission.isUpdate] using kind⟩

theorem State.probed.sweep {s : State} {n : Fin 32} (h : s.probed n) :
    ∃ r, s.sweep.running = some r ∧ r.tx.node = n ∧ r.tx.counted = true ∧ r.tx.isUpdate = false := by
  obtain ⟨r, running, node, counted, kind⟩ := h
  exact ⟨r, Option.mem_toList.mp running, node, counted, by simpa [Transmission.isUpdate] using kind⟩

/-- Two acts that make the same of the transmission in flight are the same command. -/
theorem State.endTransmission_congr {s : State} {f g : State → Transmission → State} {r : RunningSweep}
    (running : s.sweep.running = some r) (same : f s r.tx = g s r.tx) : s.endTransmission f = s.endTransmission g := by
  rw [State.endTransmission_eq running, State.endTransmission_eq running, State.ended, State.ended, same]

/-! ## The node's record -/

section Records

variable (s : State) (n : Fin 32)

theorem State.tellNode_told (detail : Nat) (p : Port) : (s.tellNode n detail).told p ⟨.nodeState, n, detail, s.clock.value, .none⟩ :=
  s.postAll_told p .nodeState n.val detail

theorem State.handLoss_of_not_sense (h : s.config.nodes.get n ≠ .sense) : s.handLoss n = s :=
  if_neg (by simp [State.isSense, h])

theorem State.handLoss_of_sense (h : s.config.nodes.get n = .sense) : s.handLoss n = s.sensorLost :=
  if_pos (by simp [State.isSense, h])

section Lose

variable (r : NodeRecord) (detail : Nat)

/-- The node's record and its notice, before the loss is handed on. -/
def State.lostNode : State := (s.setNode n { r with state := .lost, skipCount := 0, missCount := 3 }).tellNode n detail

theorem State.loseNode_eq : s.loseNode n r detail = (s.lostNode n r detail).handLoss n := rfl

theorem State.lostNode_node : (s.lostNode n r detail).node n = { r with state := .lost, skipCount := 0, missCount := 3 } := by
  rw [State.lostNode, (State.tellNode_only_safety _ n detail).node_eq, State.node_setNode_self]

theorem State.loseNode_node : (s.loseNode n r detail).node n = { r with state := .lost, skipCount := 0, missCount := 3 } := by
  rw [State.loseNode_eq, (State.handLoss_only_safety _ n).node_eq, State.lostNode_node]

theorem State.loseNode_told (p : Port) : (s.loseNode n r detail).told p ⟨.nodeState, n, detail, s.clock.value, .none⟩ := by
  have told := State.tellNode_told (s.setNode n { r with state := .lost, skipCount := 0, missCount := 3 }) n detail p
  exact (told_kept p _).field.handLoss _ n told

theorem State.loseNode_safety_of_not_sense (h : s.config.nodes.get n ≠ .sense) : (s.loseNode n r detail).safety = s.safety := by
  have lost : (s.lostNode n r detail).handLoss n = s.lostNode n r detail := State.handLoss_of_not_sense _ n h
  rw [State.loseNode_eq, lost]
  rfl

theorem State.loseNode_of_sense (h : s.config.nodes.get n = .sense) : s.loseNode n r detail = (s.lostNode n r detail).sensorLost := by
  rw [State.loseNode_eq]
  exact State.handLoss_of_sense _ n h

end Lose

theorem State.ackNode_node (body : AckBody) : (s.ackNode n body).node n = (s.node n).acked body := by
  have acked : (s.setNode n ((s.node n).acked body)).node n = (s.node n).acked body := State.node_setNode_self _ _ _
  unfold State.ackNode
  split
  · exact acked
  · exact acked
  · split_ifs
    · rw [(State.takeReading_only _ _ _).node_eq, acked]
    · rw [(State.takeReading_only _ _ _).node_eq, (State.sensorOnline_only _).node_eq, acked]

end Records

/-! ## ACK (R125) -/

/-- An ACK that suits the node. -/
theorem State.ack_suits {s : State} {n : Fin 32} (h : s.updating n) {body : AckBody}
    (fits : ackFits body (s.config.nodes.get n) = true) : ∃ t, exec (.ack body) s = .next t
      ∧ LinkEnd s (s.ackNode n body) t n ∧ t.node n = (s.node n).acked body := by
  obtain ⟨r, running, rfl, counted, update⟩ := h.sweep
  have acted : State.endAck body s r.tx = s.ackNode r.tx.node body := by
    rw [State.endAck, update, fits]; rfl
  have after := (EndOfTransmission.ack body).linkEnd running counted
  rw [acted] at after
  refine ⟨_, exec_ack body s, after, ?_⟩
  rw [after.node_of_not_backoff, State.ackNode_node]
  rw [State.ackNode_node]
  cases body <;> exact NodeState.noConfusion

/-- An ACK that suits neither the transmission nor the node is a reply with a bad check. -/
theorem State.ack_unfit {s : State} {n : Fin 32} {body : AckBody}
    (h : s.updating n ∧ ackFits body (s.config.nodes.get n) = false ∨ s.probed n) : exec (.ack body) s = exec .badCheckReply s := by
  obtain ⟨r, running, miss⟩ : ∃ r, s.sweep.running = some r ∧ State.endAck body s r.tx = State.endMiss s r.tx := by
    rcases h with ⟨updating, unfit⟩ | probed
    · obtain ⟨r, running, rfl, -, -⟩ := updating.sweep
      exact ⟨r, running, by rw [State.endAck, unfit, Bool.and_false]; rfl⟩
    · obtain ⟨r, running, rfl, -, probe⟩ := probed.sweep
      exact ⟨r, running, by rw [State.endAck, probe]; rfl⟩
  rw [exec_ack, exec_badCheckReply, State.endTransmission_congr running miss]

/-- Settles O39, by the node's type. -/
theorem ackReply : Obligations.AckReply := by
  unfold Obligations.AckReply
  intro s n body speed wind fault low
  refine ⟨fun idle => ?_, fun updating => ⟨fun type => ?_, fun type => ?_, fun type => ?_, fun unfit => ?_⟩, fun probed => ?_⟩
  · rw [exec_ack, State.endTransmission_idle idle, settleIdle_self]
  · obtain ⟨t, next, after, node⟩ := State.ack_suits updating (body := .empty) (by rcases type with e | e <;> rw [e] <;> rfl)
    exact ⟨t, next, node, after.safety, after.ports⟩
  · obtain ⟨t, next, after, node⟩ := State.ack_suits updating (body := .drive speed fault) (by rw [type]; rfl)
    exact ⟨t, next, node, after.safety, after.ports⟩
  · obtain ⟨t, next, -, node⟩ := State.ack_suits updating (body := .sense wind low) (by rw [type]; rfl)
    exact ⟨t, next, node⟩
  · exact State.ack_unfit (.inl ⟨updating, unfit⟩)
  · exact State.ack_unfit (.inr probed)

/-! ## BUSY (R126) -/

/-- A BUSY that counts. -/
theorem State.busy_counts {s : State} {n : Fin 32} (h : s.updating n) :
    ∃ t, exec .busy s = .next t ∧ LinkEnd s (s.busyNode n) t n := by
  obtain ⟨r, running, rfl, counted, update⟩ := h.sweep
  have acted : State.endBusy s r.tx = s.busyNode r.tx.node := if_pos update
  have after := EndOfTransmission.busy.linkEnd running counted
  rw [acted] at after
  exact ⟨_, exec_busy s, after⟩

theorem State.busy_unfit {s : State} {n : Fin 32} (h : s.probed n) : exec .busy s = exec .badCheckReply s := by
  obtain ⟨r, running, rfl, -, probe⟩ := h.sweep
  have miss : State.endBusy s r.tx = State.endMiss s r.tx := if_neg (by rw [probe]; decide)
  rw [exec_busy, exec_badCheckReply, State.endTransmission_congr running miss]

theorem backoffSkip_eq {b : Nat} (h : b < 4) :
    backoffSkip (b + 1) = if b = 0 then 1 else if b = 1 then 2 else if b = 2 then 4 else 8 := by
  obtain rfl | rfl | rfl | rfl : b = 0 ∨ b = 1 ∨ b = 2 ∨ b = 3 := by omega
  all_goals rfl

/-- The node's record in BACKOFF, before the loss of a SENSE node is handed on. -/
def State.backedOff (s : State) (n : Fin 32) : State := s.setNode n { s.node n with
  state := .backoff, busyCount := (s.node n).busyCount + 1, skipCount := backoffSkip ((s.node n).busyCount + 1) }

theorem State.busyNode_few {s : State} {n : Fin 32} (few : (s.node n).busyCount < 4) :
    s.busyNode n = if (s.node n).state = .online then (s.backedOff n).handLoss n else s.backedOff n := by
  unfold State.busyNode
  dsimp only
  rw [if_neg (by omega)]
  rfl

theorem State.busyNode_many {s : State} {n : Fin 32} (many : 4 ≤ (s.node n).busyCount) :
    s.busyNode n = s.loseNode n { s.node n with busyCount := 5 } 2 := if_pos (by omega)

theorem State.busyNode_few_node {s : State} {n : Fin 32} (few : (s.node n).busyCount < 4) : (s.busyNode n).node n =
    { s.node n with state := .backoff, busyCount := (s.node n).busyCount + 1, skipCount := backoffSkip ((s.node n).busyCount + 1) } := by
  have backoff : (s.backedOff n).node n = _ := State.node_setNode_self _ _ _
  rw [State.busyNode_few few]
  split_ifs
  · rw [(State.handLoss_only_safety _ n).node_eq, backoff]
  · exact backoff

/-- A BUSY is no loss to the Supervisor of any but a SENSE node that was ONLINE. -/
theorem State.busyNode_few_calm {s : State} {n : Fin 32} (few : (s.node n).busyCount < 4)
    (calm : s.config.nodes.get n ≠ .sense ∨ (s.node n).state ≠ .online) : s.busyNode n = s.backedOff n := by
  rw [State.busyNode_few few]
  split_ifs with online
  · exact State.handLoss_of_not_sense _ n (calm.resolve_right (not_not.mpr online))
  · rfl

theorem State.busyNode_few_sense {s : State} {n : Fin 32} (few : (s.node n).busyCount < 4)
    (sense : s.config.nodes.get n = .sense) (online : (s.node n).state = .online) :
    s.busyNode n = (s.backedOff n).sensorLost := by
  rw [State.busyNode_few few, if_pos online]
  exact State.handLoss_of_sense _ n sense

/-- Settles O40, by the BUSY count. -/
theorem busyReply : Obligations.BusyReply := by
  unfold Obligations.BusyReply
  intro s n p
  refine ⟨fun idle => ?_, State.busy_unfit, fun updating few => ?_, fun updating many => ?_⟩
  · rw [exec_busy, State.endTransmission_idle idle, settleIdle_self]
  · obtain ⟨t, next, after⟩ := State.busy_counts updating
    have node := State.busyNode_few_node few
    refine ⟨t, next, ?_, fun calm => ?_, fun calm => ?_, fun sense online => ?_⟩
    · rcases after.node with same | ⟨-, skipped⟩
      · rw [same, node]
      · rw [skipped, node]; rfl
    · have same := after.node.resolve_right fun h => Bool.false_ne_true (calm.symm.trans h.1)
      rw [same, node]
      exact backoffSkip_eq few
    · rw [after.safety, after.ports, State.busyNode_few_calm few calm]
      exact ⟨rfl, rfl⟩
    · rw [after.safety, State.busyNode_few_sense few sense online]
      refine ⟨State.sensorLost_standing _, fun standing => ?_⟩
      rw [State.sensorLost_safety (s := s.backedOff n) standing]
      exact ⟨Supervisor.withCause_wind _ _, Supervisor.mem_withCause _ _⟩
  · obtain ⟨t, next, after⟩ := State.busy_counts updating
    rw [State.busyNode_many many] at after
    have node := s.loseNode_node n { s.node n with busyCount := 5 } 2
    refine ⟨t, next, ?_, after.told (s.loseNode_told n _ 2 p), fun other => ?_, fun sense => ?_⟩
    · rw [after.node_of_not_backoff (by rw [node]; exact NodeState.noConfusion), node]
    · rw [after.safety, State.loseNode_safety_of_not_sense _ _ _ _ other]
    · rw [after.safety, State.loseNode_of_sense _ _ _ _ sense]
      exact State.sensorLost_standing _

end Sys2Proof.Machine

/-!
# Misses, the IDENT, and the sweep after a transmission's end (07 R121 to R124, R127, R128)
-/

namespace Sys2Proof.Machine

/-! ## A miss (R127) -/

/-- A miss that counts, at an UPDATE, a SYNC UPDATE or a PROBE. -/
theorem State.miss_counts {s : State} {n : Fin 32} (h : s.updating n ∨ s.probed n) :
    ∃ t, exec .badCheckReply s = .next t ∧ LinkEnd s (s.missNode n) t n := by
  obtain ⟨r, running, rfl, counted⟩ : ∃ r, s.sweep.running = some r ∧ r.tx.node = n ∧ r.tx.counted = true := by
    rcases h with updating | probed
    · obtain ⟨r, running, node, counted, -⟩ := updating.sweep
      exact ⟨r, running, node, counted⟩
    · obtain ⟨r, running, node, counted, -⟩ := probed.sweep
      exact ⟨r, running, node, counted⟩
  exact ⟨_, exec_badCheckReply s, EndOfTransmission.miss.linkEnd running counted⟩

section Miss

variable {s : State} {n : Fin 32}

theorem State.missNode_lost (lost : (s.node n).state = .lost) : s.missNode n = s := if_pos lost

theorem State.missNode_few (present : (s.node n).state ≠ .lost) (few : (s.node n).missCount < 2) :
    s.missNode n = s.setNode n { s.node n with missCount := (s.node n).missCount + 1 } := by
  have limit : ¬ Config.missLimit ≤ (s.node n).missCount + 1 := Nat.not_le.mpr (Nat.succ_lt_succ few)
  unfold State.missNode
  dsimp only
  rw [if_neg present, if_neg limit]

theorem State.missNode_third (present : (s.node n).state ≠ .lost) (third : 2 ≤ (s.node n).missCount) :
    s.missNode n = s.loseNode n (s.node n) 1 := by
  have limit : Config.missLimit ≤ (s.node n).missCount + 1 := Nat.succ_le_succ third
  unfold State.missNode
  dsimp only
  rw [if_neg present, if_pos limit]

end Miss

/-! ## IDENT (R128) -/

theorem identFits_iff (ty : Nat) (t : NodeType) : identFits ty t = true ↔ t ≠ .none ∧ nodeTypeCode t = ty := by
  cases t <;> simp [identFits, nodeTypeCode]

theorem State.ident_unfit {s : State} {n : Fin 32} {ty : U8}
    (h : s.updating n ∨ s.probed n ∧ identFits ty (s.config.nodes.get n) = false) : exec (.ident ty) s = exec .badCheckReply s := by
  obtain ⟨r, running, miss⟩ : ∃ r, s.sweep.running = some r ∧ State.endIdent ty s r.tx = State.endMiss s r.tx := by
    rcases h with updating | ⟨probed, unfit⟩
    · obtain ⟨r, running, rfl, -, update⟩ := updating.sweep
      exact ⟨r, running, by rw [State.endIdent, update]; rfl⟩
    · obtain ⟨r, running, rfl, -, -⟩ := probed.sweep
      exact ⟨r, running, by rw [State.endIdent, unfit, Bool.and_false]; rfl⟩
  rw [exec_ident, exec_badCheckReply, State.endTransmission_congr running miss]

theorem State.ident_suits {s : State} {n : Fin 32} (h : s.probed n) {ty : U8} (fits : identFits ty (s.config.nodes.get n) = true) :
    ∃ t, exec (.ident ty) s = .next t ∧ LinkEnd s (s.identNode n) t n := by
  obtain ⟨r, running, rfl, counted, probe⟩ := h.sweep
  have acted : State.endIdent ty s r.tx = s.identNode r.tx.node := by rw [State.endIdent, probe, fits]; rfl
  have after := (EndOfTransmission.ident ty).linkEnd running counted
  rw [acted] at after
  exact ⟨_, exec_ident ty s, after⟩

section Ident

variable (s : State) (n : Fin 32)

/-- The node's record in SYNCING. -/
def State.syncing : State := s.setNode n { s.node n with state := .syncing, busyCount := 0, missCount := 0 }

theorem State.identNode_eq : s.identNode n = if (s.node n).state = .lost then (s.syncing n).tellNode n 0 else s.syncing n := rfl

theorem State.identNode_node : (s.identNode n).node n = { s.node n with state := .syncing, busyCount := 0, missCount := 0 } := by
  have own : (s.syncing n).node n = _ := State.node_setNode_self _ _ _
  rw [State.identNode_eq]
  split_ifs
  · rw [(State.tellNode_only_safety _ n 0).node_eq, own]
  · exact own

theorem State.identNode_safety : (s.identNode n).safety = s.safety := by
  rw [State.identNode_eq]
  split_ifs <;> rfl

end Ident

/-- Settles O41: the miss by the miss count, the IDENT by the node it names. -/
theorem missIdentAndStrayReply : Obligations.MissIdentAndStrayReply := by
  unfold Obligations.MissIdentAndStrayReply
  intro s n ty p
  refine ⟨rfl, fun idle => ?_, fun updating => State.ident_unfit (.inl updating), fun probed => ⟨fun unfit => ?_, fun typed named => ?_⟩,
    rfl, fun idle => ?_, fun counts => ⟨fun lost => ?_, fun present few => ?_, fun present third => ?_⟩⟩
  · rw [exec_ident, State.endTransmission_idle idle, settleIdle_self]
  · refine State.ident_unfit (.inr ⟨probed, Bool.eq_false_iff.mpr fun fits => ?_⟩)
    obtain ⟨typed, named⟩ := (identFits_iff _ _).mp fits
    exact unfit.elim typed fun ne => ne named
  · obtain ⟨t, next, after⟩ := State.ident_suits probed ((identFits_iff _ _).mpr ⟨typed, named⟩)
    have node := s.identNode_node n
    refine ⟨t, next, ?_, after.safety.trans (s.identNode_safety n), fun present => ?_, fun lost => ?_⟩
    · rw [after.node_of_not_backoff (by rw [node]; exact NodeState.noConfusion), node]
    · rw [after.ports, State.identNode_eq, if_neg present]; rfl
    · refine after.told ?_
      rw [State.identNode_eq, if_pos lost]
      exact State.tellNode_told (s.syncing n) n 0 p
  · rw [exec_badCheckReply, State.endTransmission_idle idle, settleIdle_self]
  · obtain ⟨t, next, after⟩ := State.miss_counts counts
    rw [State.missNode_lost lost] at after
    exact ⟨t, next, after.node_of_not_backoff (by rw [lost]; exact NodeState.noConfusion), after.safety, after.ports⟩
  · obtain ⟨t, next, after⟩ := State.miss_counts counts
    rw [State.missNode_few present few] at after
    have node : t.node n = _ ∨ _ ∧ t.node n = _ := after.node
    rw [State.node_setNode_self] at node
    refine ⟨t, next, ?_, fun stands => ?_, after.safety, after.ports⟩
    · rcases node with same | ⟨-, skipped⟩
      · rw [same]
      · rw [skipped, NodeRecord.skipped]
        split <;> rfl
    · rcases node with same | ⟨pending, skipped⟩
      · rw [same]
      · have none : (s.node n).skipCount = 0 := stands.resolve_left (by rw [pending]; decide)
        rw [skipped, NodeRecord.skipped]
        split
        · rw [none]
        · rfl
  · obtain ⟨t, next, after⟩ := State.miss_counts counts
    rw [State.missNode_third present third] at after
    have node := s.loseNode_node n (s.node n) 1
    refine ⟨t, next, ?_, after.told (s.loseNode_told n _ 1 p), fun other => ?_, fun sense => ?_⟩
    · rw [after.node_of_not_backoff (by rw [node]; exact NodeState.noConfusion), node]
    · rw [after.safety, State.loseNode_safety_of_not_sense _ _ _ _ other]
    · rw [after.safety, State.loseNode_of_sense _ _ _ _ sense]
      exact State.sensorLost_standing _

/-! ## The sweep after the end (R121, R122) -/

section GoesOn

variable {s : State} {act : State → Transmission → State} (e : EndOfTransmission act) {r : RunningSweep}
include e

/-- The end of a transmission leaves the records of the nodes above its own as they were. -/
theorem EndOfTransmission.above {m : Fin 32} (above : r.tx.node < m) : (s.ended act r.tx).node m = s.node m :=
  (e.ended_atNode s r.tx).node m above.ne'

variable (running : s.sweep.running = some r)
include running

theorem EndOfTransmission.goes_to {m : Fin 32} (above : r.tx.node < m)
    (before : ∀ i : Fin 32, r.tx.node < i → i < m → (s.node i).passedOver r.probing) (held : ¬ (s.node m).passedOver r.probing) :
    (settleIdle s (s.endTransmission act)).sweep = { s.sweep with running := some ⟨s.sending m (s.node m).sent, r.probing⟩ }
      ∧ (∀ k, r.tx.node < k → (settleIdle s (s.endTransmission act)).node k = if k < m then (s.node k).skipped else s.node k)
      ∧ ∀ k, k < r.tx.node → (settleIdle s (s.endTransmission act)).node k = s.node k := by
  have same := e.ended_atNode s r.tx
  obtain ⟨sweep, nodes⟩ := State.walk_reaches (probing := r.probing) (nodesAfter_pairwise r.tx.node) ((mem_nodesAfter _ _).mpr above)
    (s := s.ended act r.tx) (fun i mem lt => by
      have up := (mem_nodesAfter _ _).mp mem
      rw [e.above up]; exact before i up lt) (by rw [e.above above]; exact held)
  rw [(settleIdle_link _ _).1, State.endTransmission_eq running, State.goOn_held (by rw [sweep])]
  refine ⟨?_, fun k up => ?_, fun k down => ?_⟩
  · rw [sweep, same.sweep, e.above above, (e.ended_only s r.tx).sending_eq]
  · rw [(settleIdle_link _ _).2, nodes, e.above up]
    simp only [mem_nodesAfter, up, true_and]
  · have absent : k ∉ nodesAfter r.tx.node := fun h => lt_asymm down ((mem_nodesAfter _ _).mp h)
    rw [(settleIdle_link _ _).2, nodes, if_neg fun h => absent h.1, same.node k down.ne]

omit running in
theorem EndOfTransmission.walks_out (passed : ∀ i : Fin 32, r.tx.node < i → (s.node i).passedOver r.probing) :
    (State.walk r.probing (nodesAfter r.tx.node) (s.ended act r.tx)).sweep = { s.sweep with running := none }
      ∧ ∀ k, (State.walk r.probing (nodesAfter r.tx.node) (s.ended act r.tx)).node k =
        if r.tx.node < k then (s.node k).skipped else (s.ended act r.tx).node k := by
  obtain ⟨sweep, nodes⟩ := State.walk_ends (probing := r.probing) (nodesAfter_nodup r.tx.node) (s := s.ended act r.tx) (fun i mem => by
    have up := (mem_nodesAfter _ _).mp mem
    rw [e.above up]; exact passed i up)
  refine ⟨by rw [sweep, (e.ended_atNode s r.tx).sweep], fun k => ?_⟩
  rw [nodes]
  simp only [mem_nodesAfter]
  split_ifs with up
  · rw [e.above up]
  · rfl

theorem EndOfTransmission.ends (passed : ∀ i : Fin 32, r.tx.node < i → (s.node i).passedOver r.probing)
    (calm : s.sweep.pending = false) :
    (settleIdle s (s.endTransmission act)).sweep = { s.sweep with running := none }
      ∧ (∀ k, r.tx.node < k → (settleIdle s (s.endTransmission act)).node k = (s.node k).skipped)
      ∧ ∀ k, k < r.tx.node → (settleIdle s (s.endTransmission act)).node k = s.node k := by
  obtain ⟨sweep, nodes⟩ := e.walks_out passed
  rw [(settleIdle_link _ _).1, State.endTransmission_eq running, State.goOn_ended (by rw [sweep]) (by rw [sweep]; exact calm)]
  refine ⟨sweep, fun k up => ?_, fun k down => ?_⟩
  · rw [(settleIdle_link _ _).2, nodes, if_pos up]
  · rw [(settleIdle_link _ _).2, nodes, if_neg (lt_asymm down), (e.ended_atNode s r.tx).node k down.ne]

theorem EndOfTransmission.starts_pending (passed : ∀ i : Fin 32, r.tx.node < i → (s.node i).passedOver r.probing)
    (pending : s.sweep.pending = true) :
    (settleIdle s (s.endTransmission act)).sweep = { s.sweep with
        pending := false, probeCounter := nextProbe s.sweep.probeCounter s.config.global.probeInterval
        running := (settleIdle s (s.endTransmission act)).sweep.running }
      ∧ ∀ x ∈ (settleIdle s (s.endTransmission act)).sweep.running.toList, x.probing = (s.sweep.probeCounter == 0) := by
  obtain ⟨sweep, -⟩ := e.walks_out passed
  have config : (State.walk r.probing (nodesAfter r.tx.node) (s.ended act r.tx)).config = s.config := by
    have only := (e.ended_only s r.tx).trans (State.walk_only r.probing (nodesAfter r.tx.node) _).field
    unfold OnlyField at only
    rw [only]
  rw [(settleIdle_link _ _).1, State.endTransmission_eq running, State.goOn_pending (by rw [sweep]) (by rw [sweep]; exact pending)]
  generalize State.walk r.probing (nodesAfter r.tx.node) (s.ended act r.tx) = w at sweep config
  obtain ⟨started, kinds⟩ := (w.setSweep { w.sweep with pending := false }).startSweep_sweep
  refine ⟨started.trans ?_, ?_⟩
  · have counted : (w.setSweep { w.sweep with pending := false }).counted.sweep = { s.sweep with
        running := none, pending := false, probeCounter := nextProbe s.sweep.probeCounter s.config.global.probeInterval } := by
      unfold State.counted
      rw [← config]
      simp only [State.setSweep_sweep, sweep]
      rfl
    rw [counted]
  · intro x hx
    have kind := kinds x hx
    simp only [State.setSweep_sweep, sweep] at kind
    exact kind

end GoesOn

/-- Settles O43, by whether a node above is held, and by whether a sweep is pending. -/
theorem sweepGoesOn : Obligations.SweepGoesOn := by
  unfold Obligations.SweepGoesOn
  intro s r m k body ty c running command
  obtain ⟨act, e, next⟩ := exec_ends command s
  refine ⟨fun before above held => ?_, fun passed calm => ?_, fun passed pending => ?_⟩
  · obtain ⟨sweep, up, down⟩ := e.goes_to running above before held
    exact ⟨_, next, sweep, up k, down k⟩
  · obtain ⟨sweep, up, down⟩ := e.ends running passed calm
    exact ⟨_, next, sweep, up k, down k⟩
  · obtain ⟨sweep, kinds⟩ := e.starts_pending running passed pending
    refine ⟨_, next, by rw [sweep], by rw [sweep], by rw [sweep]; rfl, fun x hx => ?_⟩
    rw [kinds x hx]
    exact Bool.eq_iff_iff.mpr (by simp)

end Sys2Proof.Machine

/-!
# A frame event starts a sweep, and the update bodies (07 R121 to R123)
-/

namespace Sys2Proof.Machine

/-! ## The field link before the sweep of a frame event -/

/-- The field link's records and the tables are the same. -/
structure SameLink (s t : State) : Prop where
  sweep : t.sweep = s.sweep
  nodes : t.nodes = s.nodes
  config : t.config = s.config

theorem SameLink.trans {s t u : State} (h : SameLink s t) (k : SameLink t u) : SameLink s u :=
  ⟨k.sweep.trans h.sweep, k.nodes.trans h.nodes, k.config.trans h.config⟩

theorem SameLink.node {s t : State} (h : SameLink s t) (n : Fin 32) : t.node n = s.node n := by
  unfold State.node; rw [h.nodes]

theorem OnlySafety.link {s t : State} (h : OnlySafety s t) : SameLink s t := by
  unfold OnlySafety at h; rw [h]; exact ⟨rfl, rfl, rfl⟩

theorem OnlyShaper.link {s t : State} (h : OnlyShaper s t) : SameLink s t := by
  unfold OnlyShaper at h; rw [h]; exact ⟨rfl, rfl, rfl⟩

theorem OnlyMixer.link {s t : State} (h : OnlyMixer s t) : SameLink s t := by
  unfold OnlyMixer at h; rw [h]; exact ⟨rfl, rfl, rfl⟩

theorem State.evalIdle_link (s : State) : SameLink s s.evalIdle := by
  rw [State.evalIdle_only]; exact ⟨rfl, rfl, rfl⟩

theorem State.frameBegun_link (s : State) : SameLink s s.frameBegun := by
  have reloaded : SameLink s s.reloadFrame := ⟨rfl, rfl, rfl⟩
  exact reloaded.trans (State.changeFreeze_only s.reloadFrame).link

/-- The parts of a frame event before the sweep leave the field link's records alone. -/
theorem State.mixed_link (s : State) : SameLink s s.mixBegun.mix :=
  (((s.frameBegun_link.trans (State.shape_only _).link).trans (State.evalIdle_link _)).trans (State.reachStopped_only _).link).trans
    (State.mix_only _).link

theorem exec_frameEvent (s : State) : exec .frameEvent s = .next s.frameEvent := rfl

theorem State.frameEvent_due {s : State} (due : s.shaper.frameDue ≤ s.now) : s.frameEvent = s.frame := if_pos due

/-! ## Rows of equal length, and the first of an ascending list -/

theorem take_drop_flatten {α : Type} {w : Nat} {l : List (List α)} (width : ∀ x ∈ l, x.length = w) {i : Nat} (h : i < l.length) :
    (l.flatten.drop (w * i)).take w = l[i] := by
  induction l generalizing i with
  | nil => cases h
  | cons x rest ih =>
    have first : x.length = w := width x List.mem_cons_self
    rw [List.flatten_cons]
    cases i with
    | zero =>
      rw [Nat.mul_zero, List.drop_zero, ← first, List.take_left]
      rfl
    | succ i =>
      have shift : w * (i + 1) = x.length + w * i := by rw [first]; ring
      rw [shift, ← List.drop_drop, List.drop_left, ih (fun y hy => width y (List.mem_cons_of_mem _ hy)) (Nat.lt_of_succ_lt_succ h)]
      rfl

theorem take_drop_indices {α : Type} {n w : Nat} {f : Fin n → List α} (width : ∀ i, (f i).length = w) (a : Fin n) :
    ((((Table.indices n).map f).flatten.drop (w * a.val)).take w) = f a := by
  have length : a.val < ((Table.indices n).map f).length := by rw [indices_eq, List.length_map, List.length_finRange]; exact a.isLt
  rw [take_drop_flatten (fun x hx => by obtain ⟨i, -, rfl⟩ := List.mem_map.mp hx; exact width i) length]
  simp [indices_eq]

theorem length_flatten_indices {α : Type} {n w : Nat} {f : Fin n → List α} (width : ∀ i, (f i).length = w) :
    ((Table.indices n).map f).flatten.length = n * w := by
  rw [List.length_flatten, List.map_map, List.map_congr_left (g := fun _ => w) fun i _ => by exact width i]
  simp [indices_eq]

theorem find?_of_first {n : Nat} {p : Fin n → Bool} {l : List (Fin n)} (sorted : l.Pairwise (· < ·)) {j : Fin n} (mem : j ∈ l)
    (own : p j = true) (before : ∀ i ∈ l, i < j → p i = false) : l.find? p = some j := by
  induction l with
  | nil => cases mem
  | cons i rest ih =>
    obtain ⟨above, sorted⟩ := List.pairwise_cons.mp sorted
    by_cases first : i = j
    · subst first; exact List.find?_cons_of_pos own
    · have later : j ∈ rest := (List.mem_cons.mp mem).resolve_left (Ne.symm first)
      rw [List.find?_cons_of_neg (by rw [before i List.mem_cons_self (above j later)]; decide)]
      exact ih sorted later fun k hk => before k (List.mem_cons_of_mem _ hk)

theorem find?_indices_some {n : Nat} {p : Fin n → Bool} {j : Fin n} (own : p j = true) (before : ∀ i, i < j → p i = false) :
    (Table.indices n).find? p = some j :=
  find?_of_first (indices_pairwise n) (Table.mem_indices j) own fun i _ => before i

theorem find?_indices_none {n : Nat} {p : Fin n → Bool} (no : ∀ i, p i = false) : (Table.indices n).find? p = none :=
  List.find?_eq_none.mpr fun i _ => by rw [no i]; decide

/-! ## Update bodies (R123) -/

section Bodies

variable {s : State} {n : Fin 32}

theorem State.updateBody_valve (type : s.config.nodes.get n = .valve8) :
    s.updateBody n = ((Table.indices 8).map fun k => be2 (s.slotOpening n k)).flatten := by
  rw [State.updateBody, type]

theorem State.updateBody_lamp (type : s.config.nodes.get n = .lamp4) :
    s.updateBody n = ((Table.indices 4).map fun k => Rgbw.bytes (s.slotColour n k)).flatten := by
  rw [State.updateBody, type]

theorem State.slotOpening_some {k : Fin 8} {j : Fin 128} (enabled : (s.config.jets.get j).enabled = true)
    (node : (s.config.jets.get j).node = n) (slot : (s.config.jets.get j).slot = k)
    (before : ∀ i : Fin 128, i < j → (s.config.jets.get i).enabled = true → (s.config.jets.get i).node = n →
      (s.config.jets.get i).slot ≠ k) : s.slotOpening n k = (s.jets.get j).valve := by
  rw [State.slotOpening, find?_indices_some (j := j) (by simp [enabled, node, slot]) fun i lt => by
    have clear := before i lt
    grind]

theorem State.slotOpening_none {k : Fin 8} (clear : ∀ i : Fin 128, (s.config.jets.get i).enabled = true →
    (s.config.jets.get i).node = n → (s.config.jets.get i).slot ≠ k) : s.slotOpening n k = 0 := by
  rw [State.slotOpening, find?_indices_none fun i => by
    have clear := clear i
    grind]

theorem State.driveSpeed_some {h : Fin 16} (enabled : (s.config.headers.get h).enabled = true)
    (node : (s.config.headers.get h).driveNode = n)
    (before : ∀ i : Fin 16, i < h → (s.config.headers.get i).enabled = true → (s.config.headers.get i).driveNode ≠ n) :
    s.driveSpeed n = (s.headers.get h).commanded := by
  rw [State.driveSpeed, find?_indices_some (j := h) (by simp [enabled, node]) fun i lt => by
    have clear := before i lt
    grind]

theorem State.driveSpeed_none (clear : ∀ i : Fin 16, (s.config.headers.get i).enabled = true →
    (s.config.headers.get i).driveNode ≠ n) : s.driveSpeed n = 0xFFFF := by
  rw [State.driveSpeed, find?_indices_none fun i => by
    have clear := clear i
    grind]

theorem State.slotColour_some {k : Fin 4} {f : Fin 48} (enabled : (s.config.fixtures.get f).enabled = true)
    (node : (s.config.fixtures.get f).node = n) (slot : (s.config.fixtures.get f).slot = k)
    (before : ∀ i : Fin 48, i < f → (s.config.fixtures.get i).enabled = true → (s.config.fixtures.get i).node = n →
      (s.config.fixtures.get i).slot ≠ k) : s.slotColour n k = (s.fixtures.get f).output := by
  rw [State.slotColour, find?_indices_some (j := f) (by simp [enabled, node, slot]) fun i lt => by
    have clear := before i lt
    grind]

theorem State.slotColour_none {k : Fin 4} (clear : ∀ i : Fin 48, (s.config.fixtures.get i).enabled = true →
    (s.config.fixtures.get i).node = n → (s.config.fixtures.get i).slot ≠ k) : s.slotColour n k = Rgbw.black := by
  rw [State.slotColour, find?_indices_none fun i => by
    have clear := clear i
    grind]

end Bodies

/-! ## The sweep a frame event starts (R121, R122) -/

/-- The state whose sweep starts has the counter of the one before. -/
theorem State.frame_probing (s : State) : (s.mixBegun.mix.sweep.probeCounter == 0) = decide (s.sweep.probeCounter = 0) := by
  rw [s.mixed_link.sweep]
  exact Bool.beq_eq_decide_eq _ _

theorem State.frame_counted (s : State) : s.mixBegun.mix.counted.sweep = { s.sweep with
    probeCounter := if s.config.global.probeInterval ≤ s.sweep.probeCounter + 1 then 0 else s.sweep.probeCounter + 1 } := by
  have link := s.mixed_link
  unfold State.counted
  rw [State.setSweep_sweep, link.sweep, link.config]
  rfl

section Starts

variable {s : State} (due : s.shaper.frameDue ≤ s.now) (idle : s.sweep.running = none)
include due idle

theorem State.frame_starts : s.frameEvent = s.mixBegun.mix.startSweep := by
  rw [State.frameEvent_due due, State.frame_parts, State.giveSweep, s.mixed_link.sweep, idle]

/-- The first sweep of a frame event is held at the first node it does not pass over. -/
theorem State.frame_reaches {m : Fin 32}
    (before : ∀ i : Fin 32, i < m → (s.node i).passedOver (decide (s.sweep.probeCounter = 0)))
    (held : ¬ (s.node m).passedOver (decide (s.sweep.probeCounter = 0))) :
    s.frameEvent.sweep.running = some ⟨s.frameEvent.sending m (s.node m).sent, decide (s.sweep.probeCounter = 0)⟩
      ∧ ∀ k, s.frameEvent.node k = if k < m then (s.node k).skipped else s.node k := by
  have same : ∀ i, s.mixBegun.mix.counted.node i = s.node i := fun i =>
    (State.counted_node _ i).trans (s.mixed_link.node i)
  obtain ⟨sweep, nodes⟩ := State.walk_reaches (probing := decide (s.sweep.probeCounter = 0)) (indices_pairwise 32)
    (Table.mem_indices m) (s := s.mixBegun.mix.counted) (fun i _ lt => by rw [same]; exact before i lt) (by rw [same]; exact held)
  have walked := (State.walk_only (decide (s.sweep.probeCounter = 0)) (Table.indices 32) s.mixBegun.mix.counted).field
  rw [State.frame_starts due idle, State.startSweep_eq, State.frame_probing]
  refine ⟨?_, fun k => ?_⟩
  · rw [sweep, walked.sending_eq, same]
  · rw [nodes, same]
    simp only [Table.mem_indices, true_and]

theorem State.frame_passes (passed : ∀ i : Fin 32, (s.node i).passedOver (decide (s.sweep.probeCounter = 0))) :
    s.frameEvent.sweep.running = none ∧ ∀ k, s.frameEvent.node k = (s.node k).skipped := by
  have same : ∀ i, s.mixBegun.mix.counted.node i = s.node i := fun i =>
    (State.counted_node _ i).trans (s.mixed_link.node i)
  obtain ⟨sweep, nodes⟩ := State.walk_ends (probing := decide (s.sweep.probeCounter = 0)) (indices_nodup 32)
    (s := s.mixBegun.mix.counted) fun i _ => by rw [same]; exact passed i
  rw [State.frame_starts due idle, State.startSweep_eq, State.frame_probing]
  refine ⟨by rw [sweep], fun k => ?_⟩
  rw [nodes, same, if_pos (Table.mem_indices k)]

theorem State.frame_sweep : s.frameEvent.sweep = { s.sweep with
    running := s.frameEvent.sweep.running
    probeCounter := if s.config.global.probeInterval ≤ s.sweep.probeCounter + 1 then 0 else s.sweep.probeCounter + 1 } := by
  rw [State.frame_starts due idle]
  refine (State.startSweep_sweep _).1.trans ?_
  rw [State.frame_counted s]

end Starts

/-- Settles O42: the sweep from its first node, and the body of each node type. -/
theorem sweepStarts : Obligations.SweepStarts := by
  unfold Obligations.SweepStarts
  intro s m k n a c j h f
  refine ⟨fun due idle => ?_, fun type => ?_, fun type => ?_, fun type => ?_, fun type => ?_⟩
  · refine ⟨_, exec_frameEvent s, State.frame_sweep due idle, fun before held => ?_, fun passed => ?_⟩
    · obtain ⟨running, nodes⟩ := State.frame_reaches due idle before held
      exact ⟨running, nodes k⟩
    · obtain ⟨running, nodes⟩ := State.frame_passes due idle passed
      exact ⟨running, nodes k⟩
  · have body := State.updateBody_valve type
    have at_ : ((s.updateBody n).drop (2 * a)).take 2 = be2 (s.slotOpening n a) := by
      rw [body]; exact take_drop_indices (f := fun k => be2 (s.slotOpening n k)) (fun _ => rfl) a
    refine ⟨by rw [body]; exact length_flatten_indices (w := 2) (f := fun k => be2 (s.slotOpening n k)) fun _ => rfl, fun enabled node slot before => ?_, fun clear => ?_⟩
    · rw [at_, State.slotOpening_some enabled node slot before]
    · rw [at_, State.slotOpening_none clear]; rfl
  · have body : s.updateBody n = be2 (s.driveSpeed n) := by rw [State.updateBody, type]
    refine ⟨fun enabled node before => ?_, fun clear => ?_⟩
    · rw [body, State.driveSpeed_some enabled node before]
    · rw [body, State.driveSpeed_none clear]; rfl
  · have body := State.updateBody_lamp type
    have at_ : ((s.updateBody n).drop (4 * c)).take 4 = Rgbw.bytes (s.slotColour n c) := by
      rw [body]; exact take_drop_indices (f := fun k => Rgbw.bytes (s.slotColour n k)) (fun _ => rfl) c
    refine ⟨by rw [body]; exact length_flatten_indices (w := 4) (f := fun k => Rgbw.bytes (s.slotColour n k)) fun _ => rfl, fun enabled node slot before => ?_, fun clear => ?_⟩
    · rw [at_, State.slotColour_some enabled node slot before]; rfl
    · rw [at_, State.slotColour_none clear]; rfl
  · rcases type with e | e <;> rw [State.updateBody, e]

end Sys2Proof.Machine

/-!
# A write of a configuration entry that is taken, and the loss of the SENSE node (08 R139, R140, 09 R159)
-/

namespace Sys2Proof.Machine

/-! ## CONFIG_WRITE (R159) -/

/-- A write whose body, place, port, mode and save state pass their checks. -/
structure WriteOpen (s : State) (p : Port) (table index : Nat) (entry : List Byte) : Prop where
  fits : configWriteFits table entry.length = true
  size : ∃ n, tableSize table = some n ∧ index < n
  right : (s.rights p).config = true
  mode : s.unit.mode = .setup
  idle : s.unit.saving = none

theorem configWriteAction_open {s : State} {p : Port} {table index : U8} {entry : List Byte}
    (h : WriteOpen s p table index entry) : configWriteAction p table index entry s =
      match parseEntry table entry with
      | .error field => (s, .refuse .outOfRange field)
      | .ok e =>
        if (s.config.put index e).keepsSafety then (s.writeEntry index e, .ok) else (s, .refuse .configInvalid (entryField 2)) := by
  obtain ⟨fits, ⟨n, size, lt⟩, right, mode, idle⟩ := h
  unfold configWriteAction
  rw [fits, size, right, mode, idle]
  simp only [Bool.true_eq_false, if_false, Nat.not_le.mpr lt, ne_eq, not_true, Option.isSome_none, Bool.false_eq_true] <;> rfl

theorem exec_configWrite (p : Port) (tag table index : U8) (entry : List Byte) (s : State) :
    exec (.configWrite p tag table index entry) s =
      .next (s.request p 0x60 tag (settled (configWriteAction p table index entry))) := rfl

/-- A write that is taken: the entry, what the blocks make of it, the idle timer and the answer. -/
theorem exec_configWrite_taken {s : State} {p : Port} (ready : s.portReady p) (tag : U8) {table index : U8} {entry : List Byte}
    (h : WriteOpen s p table index entry) {e : ConfigEntry} (parsed : parseEntry table entry = .ok e)
    (keeps : (s.config.put index e).keepsSafety = true) : exec (.configWrite p tag table index entry) s =
      .next ((settleIdle (s.beginRequest p 0x60 tag) ((s.beginRequest p 0x60 tag).writeEntry index e)).respond p 0x60 tag .ok) := by
  have taken : configWriteAction p table index entry (s.beginRequest p 0x60 tag) =
      ((s.beginRequest p 0x60 tag).writeEntry index e, .ok) := by
    rw [configWriteAction_open (s := s.beginRequest p 0x60 tag) ⟨h.fits, h.size, h.right, h.mode, h.idle⟩, parsed]
    exact if_pos keeps
  rw [exec_configWrite, State.request, if_pos (State.takesFrame_of_portReady ready), settled, taken]

theorem parseNode_ok {l : List Byte} {ty : NodeType} (h : parseEntry 5 l = .ok (.node ty)) : configWriteFits 5 l.length = true := by
  rcases l with _ | ⟨b, _ | ⟨c, rest⟩⟩
  · cases h
  · rfl
  · cases h

/-! ## The loss of the SENSE node -/

/-- All that a loss of the SENSE node makes of a state in which it was not MISSING (R139, R140, R144). -/
structure SensorLoss (s t : State) : Prop where
  standing : t.safety.standing = .missing
  wind : t.safety.wind = .windStop
  listed : Cause.level ∈ s.safety.causes → t.safety.causes = s.safety.causes ∧ t.safety.state = s.safety.state
    ∧ t.safety.first = s.safety.first ∧ t.safety.further = s.safety.further
  added : Cause.level ∉ s.safety.causes → s.safety.state ≠ .normal →
    t.safety.causes = s.safety.causes ++ [.level] ∧ t.safety.state = s.safety.state
      ∧ t.safety.first = s.safety.first ∧ t.safety.further = true
  addedTold : Cause.level ∉ s.safety.causes → s.safety.state ≠ .normal → ∀ q,
    t.told q ⟨.safetyState, 255, 8, s.clock.value, .none⟩
  entered : Cause.level ∉ s.safety.causes → s.safety.state = .normal →
    t.safety.causes = [.level] ∧ t.safety.state = .stopping ∧ t.safety.first = some .level ∧ t.safety.further = false
  enteredTold : Cause.level ∉ s.safety.causes → s.safety.state = .normal → ∀ q,
    t.told q ⟨.safetyState, 255, 3, s.clock.value, .none⟩
  stopped : Cause.level ∉ s.safety.causes → s.safety.state = .normal → t.clock.run = .stopped
    ∧ ∀ ch : Fin 177, ch.val < 176 → t.entry ch = ⟨.safed, (s.entry ch).watchers, none⟩

/-- The state in which LEVEL is added at a loss. -/
def State.missingSensor (s : State) : State := (s.setSafety { s.safety with standing := .missing }).setWind .windStop

theorem State.missingSensor_clock (s : State) : s.missingSensor.clock = s.clock := State.setWind_clock _ _

theorem State.setWind_directory (s : State) (w : Wind) : (s.setWind w).directory = s.directory := by
  unfold State.setWind
  split_ifs <;> rfl

theorem State.missingSensor_directory (s : State) : s.missingSensor.directory = s.directory := State.setWind_directory _ _

theorem State.missingSensor_safety (s : State) :
    s.missingSensor.safety = { s.safety with standing := .missing, wind := .windStop } := State.setWind_safety _ _

theorem State.sensorLost_loss {s : State} (h : s.safety.standing ≠ .missing) : SensorLoss s s.sensorLost := by
  have record := State.sensorLost_safety h
  have lost : s.sensorLost = s.missingSensor.addCauseOnce .level := State.sensorLost_eq h
  have causes : s.missingSensor.safety.causes = s.safety.causes := by rw [State.missingSensor_safety]
  have state : s.missingSensor.safety.state = s.safety.state := by rw [State.missingSensor_safety]
  have value : s.missingSensor.clock.value = s.clock.value := by rw [State.missingSensor_clock]
  have told : Cause.level ∉ s.safety.causes → ∀ q, s.sensorLost.told q
      ⟨.safetyState, 255, if s.safety.state = .normal then 3 else 8, s.clock.value, .none⟩ := fun absent q => by
    have told := State.addCauseOnce_told (s := s.missingSensor) (c := .level) (by rw [causes]; exact absent) q
    rw [state, value] at told
    rw [lost]
    exact told
  have entry : Cause.level ∉ s.safety.causes → s.safety.state = .normal → s.sensorLost = s.missingSensor.enterStopping .level :=
    fun absent normal => by
      rw [lost, State.addCauseOnce_of_not_mem (by rw [causes]; exact absent), State.addCause_of_normal (by rw [state]; exact normal)]
  refine ⟨s.sensorLost_standing, by rw [record, Supervisor.withCause_wind], fun mem => ?_, fun absent stop => ?_,
    fun absent stop q => ?_, fun absent normal => ?_, fun absent normal q => ?_, fun absent normal => ⟨?_, fun ch stage => ?_⟩⟩
  · rw [record, Supervisor.withCause, if_pos (by exact mem)]
    exact ⟨rfl, rfl, rfl, rfl⟩
  · rw [record, Supervisor.withCause, if_neg (by exact absent), if_neg (by exact stop)]
    exact ⟨rfl, rfl, rfl, rfl⟩
  · have told := told absent q
    rw [if_neg stop] at told
    exact told
  · rw [record, Supervisor.withCause, if_neg (by exact absent), if_pos (by exact normal)]
    exact ⟨rfl, rfl, rfl, rfl⟩
  · have told := told absent q
    rw [if_pos normal] at told
    exact told
  · rw [entry absent normal, State.enterStopping_clock]
    rfl
  · rw [entry absent normal, State.enterStopping_entry, if_pos stage, State.entry_of_directory s.missingSensor_directory]

/-- Before the loss, what a reply makes of the node's own record plays no part; after it, nothing but what the loss made is told. -/
theorem SensorLoss.of_same {s s' t' t : State} (h : SensorLoss s' t') (safety : s'.safety = s.safety) (clock : s'.clock = s.clock)
    (directory : s'.directory = s.directory) (safety' : t.safety = t'.safety) (clock' : t.clock = t'.clock)
    (directory' : t.directory = t'.directory) (told : ∀ p n, t'.told p n → t.told p n) : SensorLoss s t := by
  obtain ⟨standing, wind, listed, added, addedTold, entered, enteredTold, stopped⟩ := h
  rw [safety, clock] at addedTold enteredTold
  rw [safety] at listed added entered stopped
  rw [← safety'] at standing wind listed added entered
  refine ⟨standing, wind, listed, added, fun a b q => told _ _ (addedTold a b q), entered, fun a b q => told _ _ (enteredTold a b q),
    fun a b => ?_⟩
  obtain ⟨run, entries⟩ := stopped a b
  refine ⟨by rw [clock']; exact run, fun ch stage => ?_⟩
  rw [State.entry_of_directory directory', entries ch stage, State.entry_of_directory directory]

theorem LinkEnd.sensorLoss {s s' t : State} {n : Fin 32} (standing : s.safety.standing ≠ .missing)
    (safety : s'.safety = s.safety) (clock : s'.clock = s.clock) (directory : s'.directory = s.directory)
    (after : LinkEnd s s'.sensorLost t n) : SensorLoss s t :=
  (State.sensorLost_loss (s := s') (by rw [safety]; exact standing)).of_same safety clock directory after.safety after.clock
    after.directory fun _ _ told => after.told told

/-- A BUSY by which the SENSE node is lost. -/
theorem exec_busy_loses {s : State} {n : Fin 32} (sense : s.config.nodes.get n = .sense) (standing : s.safety.standing ≠ .missing)
    (updating : s.updating n) (loses : (s.node n).state = .online ∨ 4 ≤ (s.node n).busyCount) :
    ∃ t, exec .busy s = .next t ∧ SensorLoss s t := by
  obtain ⟨t, next, after⟩ := State.busy_counts updating
  refine ⟨t, next, ?_⟩
  by_cases many : 4 ≤ (s.node n).busyCount
  · rw [State.busyNode_many many, State.loseNode_of_sense _ _ _ _ sense] at after
    exact LinkEnd.sensorLoss (s' := s.lostNode n _ 2) standing rfl rfl rfl after
  · rw [State.busyNode_few_sense (Nat.lt_of_not_le many) sense (loses.resolve_right many)] at after
    exact LinkEnd.sensorLoss (s' := s.backedOff n) standing rfl rfl rfl after

/-- The third miss of the SENSE node. -/
theorem exec_badCheck_loses {s : State} {n : Fin 32} (sense : s.config.nodes.get n = .sense)
    (standing : s.safety.standing ≠ .missing) (counts : s.updating n ∨ s.probed n) (present : (s.node n).state ≠ .lost)
    (third : 2 ≤ (s.node n).missCount) : ∃ t, exec .badCheckReply s = .next t ∧ SensorLoss s t := by
  obtain ⟨t, next, after⟩ := State.miss_counts counts
  rw [State.missNode_third present third, State.loseNode_of_sense _ _ _ _ sense] at after
  exact ⟨t, next, LinkEnd.sensorLoss (s' := s.lostNode n _ 1) standing rfl rfl rfl after⟩

/-! ## A write of the SENSE node's entry -/

/-- The state in which the loss is handed on where a node's entry is written. -/
def State.remade (s : State) (n : Fin 32) : State := (s.uncount n).setNode n (.fresh (s.config.nodes.get n))

theorem State.nodeWritten_lost {s : State} {n : Fin 32} {before : NodeType} (typed : s.config.nodes.get n ≠ before)
    (sense : before = .sense) (online : (s.node n).state = .online) : s.nodeWritten n before = (s.remade n).sensorLost := by
  have state : ((s.uncount n).node n).state = .online := by rw [State.uncount_node]; exact online
  unfold State.nodeWritten
  dsimp only
  rw [if_neg typed, state, if_pos ⟨sense, rfl⟩, if_neg (by decide)]
  rfl

theorem State.remade_field (s : State) (n : Fin 32) : OnlySweep s (s.remade n) := (s.uncount_only n).trans (State.setNode_only _ n _)

/-- The tables replaced. -/
def State.setConfig (s : State) (t : Tables) : State := { s with config := t }

theorem State.writeEntry_node (s : State) (n : Fin 32) (ty : NodeType) : s.writeEntry n.val (.node ty) =
    (s.setConfig (s.config.put n.val (.node ty))).nodeWritten n (s.config.nodes.get n) := by
  have own : Fin.ofNat 32 n.val = n := Fin.ext (Nat.mod_eq_of_lt n.isLt)
  unfold State.writeEntry State.entryWritten
  dsimp only
  rw [own]
  rfl

theorem Tables.put_node_get (t : Tables) (n : Fin 32) (ty : NodeType) : (t.put n.val (.node ty)).nodes.get n = ty := by
  have own : Fin.ofNat 32 n.val = n := Fin.ext (Nat.mod_eq_of_lt n.isLt)
  rw [Tables.put_node, own, Table.get_set_self]

theorem State.writeEntry_loses {s : State} {n : Fin 32} {ty : NodeType} (sense : s.config.nodes.get n = .sense)
    (other : ty ≠ .sense) (online : (s.node n).state = .online) : s.writeEntry n.val (.node ty) =
      ((s.setConfig (s.config.put n.val (.node ty))).remade n).sensorLost := by
  have typed : (s.setConfig (s.config.put n.val (.node ty))).config.nodes.get n = ty := Tables.put_node_get _ n ty
  rw [State.writeEntry_node]
  exact State.nodeWritten_lost (by rw [typed, sense]; exact other) sense online

theorem State.writeEntry_loss {s : State} {n : Fin 32} {p : Port} {kind tag : Nat} {c : Tables} {a : Answer}
    (standing : s.safety.standing ≠ .missing) : SensorLoss s ((settleIdle (s.beginRequest p kind tag)
      (((s.beginRequest p kind tag).setConfig c).remade n).sensorLost).respond p kind tag a) := by
  have only := ((s.beginRequest p kind tag).setConfig c).remade_field n
  have safety : (((s.beginRequest p kind tag).setConfig c).remade n).safety = s.safety := only.safety_eq
  have clock : (((s.beginRequest p kind tag).setConfig c).remade n).clock = s.clock := only.clock_eq
  have directory : (((s.beginRequest p kind tag).setConfig c).remade n).directory = s.directory := only.directory_eq
  have loss := State.sensorLost_loss (s := ((s.beginRequest p kind tag).setConfig c).remade n) (by rw [safety]; exact standing)
  have after := (settleIdle_sameShow (s.beginRequest p kind tag)
    (((s.beginRequest p kind tag).setConfig c).remade n).sensorLost).trans (State.respond_sameShow _ p kind tag a)
  exact loss.of_same safety clock directory after.safety (by rw [after.same]) (by rw [after.same]) after.told

theorem exec_configWrite_loses {s : State} {n : Fin 32} {p : Port} {tag : U8} {entry : List Byte} {ty : NodeType}
    (sense : s.config.nodes.get n = .sense) (standing : s.safety.standing ≠ .missing) (ready : s.portReady p)
    (right : (s.rights p).config = true) (mode : s.unit.mode = .setup) (idle : s.unit.saving = none)
    (keeps : s.config.keepsSafety = true) (parsed : parseEntry 5 entry = .ok (.node ty)) (other : ty ≠ .sense)
    (online : (s.node n).state = .online) :
    ∃ t, exec (.configWrite p tag 5 ⟨n.val, by omega⟩ entry) s = .next t ∧ SensorLoss s t := by
  have written := exec_configWrite_taken ready tag (table := 5) (index := ⟨n.val, by omega⟩) (entry := entry)
    ⟨parseNode_ok parsed, ⟨32, rfl, n.isLt⟩, right, mode, idle⟩ parsed keeps
  have entry := State.writeEntry_loses (s := s.beginRequest p 0x60 tag) sense other online
  refine ⟨_, written, ?_⟩
  dsimp only
  rw [entry]
  exact State.writeEntry_loss standing

end Sys2Proof.Machine

/-!
# Causes during a stop, and the acknowledgement (08 R141 to R148)
-/

namespace Sys2Proof.Machine

/-! ## The moments at which the idle condition is not evaluated -/

theorem settleIdle_setSafety (s : State) (r : Supervisor) : settleIdle s (s.setSafety r) = s.setSafety r :=
  settleIdle_of_names (fun _ => rfl) rfl rfl

theorem settleIdle_tellSafety (s : State) (r : Supervisor) (detail : Nat) :
    settleIdle s ((s.setSafety r).tellSafety detail) = (s.setSafety r).tellSafety detail :=
  settleIdle_of_names (fun _ => rfl) rfl rfl

/-! ## Causes in and out of a stop -/

theorem State.recordCause_beginRequest (s : State) (p : Port) (kind tag : Nat) (c : Cause) :
    (s.beginRequest p kind tag).recordCause c = (s.recordCause c).beginRequest p kind tag := by
  unfold State.recordCause
  exact State.postTo_beginRequest (s.setSafety { s.safety with causes := s.safety.causes ++ [c], further := true }) p kind tag
    everyPort .safetyState noSubject (5 + causeCode c)

section SafetyStop

variable {s : State} {p : Port} (ready : s.portReady p) (tag : U8)
include ready

theorem exec_safetyStop_refused (right : (s.rights p).safety = false) :
    exec (.safetyStop p tag) s = .next (s.refused p 0x50 tag .noRight) := by
  rw [exec_safetyStop, State.settledRequest_refused ready tag (st := .noRight) rfl]
  · rfl
  · exact if_neg (by rw [show ((s.beginRequest p 0x50 tag).rights p).safety = false from right]; decide)

theorem exec_safetyStop_listed (right : (s.rights p).safety = true) (listed : Cause.manual ∈ s.safety.causes) :
    exec (.safetyStop p tag) s = .next (s.ok p 0x50 tag) := by
  have act : safetyStopAction p (s.beginRequest p 0x50 tag) = (s.beginRequest p 0x50 tag, .ok) := by
    unfold safetyStopAction
    rw [if_pos (by exact right), State.addCauseOnce_of_mem (by exact listed)]
  rw [exec_safetyStop, State.settledRequest_taken ready tag (by decide) act, settleIdle_self]

theorem exec_safetyStop_added (right : (s.rights p).safety = true) (absent : Cause.manual ∉ s.safety.causes)
    (stop : s.safety.state ≠ .normal) : exec (.safetyStop p tag) s = .next ((s.recordCause .manual).ok p 0x50 tag) := by
  have act : safetyStopAction p (s.beginRequest p 0x50 tag) = ((s.recordCause .manual).beginRequest p 0x50 tag, .ok) := by
    unfold safetyStopAction
    rw [if_pos (by exact right), State.addCauseOnce_of_not_mem (by exact absent), State.addCause_of_stop (by exact stop),
      State.recordCause_beginRequest]
  rw [exec_safetyStop, State.settledRequest_taken ready tag (by decide) act]
  exact congrArg (fun u : State => Host.Outcome.next (u.ok p 0x50 tag)) (settleIdle_tellSafety s _ _)

end SafetyStop

section Estop

variable {s : State}

theorem exec_estopAsserted_already (asserted : s.safety.estopAsserted = true) : exec .estopAsserted s = .next s := by
  rw [exec_estopAsserted, State.assertEstop, if_pos asserted, settleIdle_self]

theorem exec_estopAsserted_listed (released : s.safety.estopAsserted = false) (listed : Cause.estop ∈ s.safety.causes) :
    exec .estopAsserted s = .next (s.setSafety { s.safety with estopAsserted := true }) := by
  rw [exec_estopAsserted, State.assertEstop, if_neg (by rw [released]; decide), State.addCauseOnce_of_mem (by exact listed),
    settleIdle_setSafety]

theorem exec_estopAsserted_added (released : s.safety.estopAsserted = false) (absent : Cause.estop ∉ s.safety.causes)
    (stop : s.safety.state ≠ .normal) : exec .estopAsserted s = .next ((s.setSafety { s.safety with
      estopAsserted := true, causes := s.safety.causes ++ [.estop], further := true }).postAll .safetyState 255 6) := by
  rw [exec_estopAsserted, State.assertEstop, if_neg (by rw [released]; decide), State.addCauseOnce_of_not_mem (by exact absent),
    State.addCause_of_stop (by exact stop)]
  exact congrArg Host.Outcome.next (settleIdle_tellSafety s { s.safety with
      estopAsserted := true, causes := s.safety.causes ++ [.estop], further := true } 6)

end Estop

section Intrusion

variable {s : State}

theorem exec_intrusion_pending (listed : Cause.intrusion ∈ s.safety.causes) (pending : s.safety.intrusionPending = true) :
    exec .intrusionEdge s = .next s := by
  rw [exec_intrusionEdge, State.intrusion, if_pos ((s.safety.has_iff _).mpr listed), if_pos pending, settleIdle_self]

theorem exec_intrusion_edge (listed : Cause.intrusion ∈ s.safety.causes) (calm : s.safety.intrusionPending = false) :
    exec .intrusionEdge s = .next ((s.setSafety { s.safety with intrusionPending := true, further := true }).postAll
      .safetyState 255 7) := by
  rw [exec_intrusionEdge, State.intrusion, if_pos ((s.safety.has_iff _).mpr listed), if_neg (by rw [calm]; decide),
    settleIdle_tellSafety]
  rfl

theorem exec_intrusion_added (absent : Cause.intrusion ∉ s.safety.causes) (stop : s.safety.state ≠ .normal) :
    exec .intrusionEdge s = .next ((s.setSafety { s.safety with
      causes := s.safety.causes ++ [.intrusion], further := true }).postAll .safetyState 255 7) := by
  rw [exec_intrusionEdge, State.intrusion, if_neg fun has => absent ((s.safety.has_iff _).mp has), State.addCause_of_stop stop]
  exact congrArg Host.Outcome.next (settleIdle_tellSafety s { s.safety with
      causes := s.safety.causes ++ [.intrusion], further := true } 7)

end Intrusion

/-! ## The return to NORMAL (R148, 01 R26) -/

theorem State.freeSafed_entry (s : State) (ch c : Fin 177) : (s.freeSafed ch).entry c =
    if c = ch ∧ (s.entry ch).hold = .safed then ⟨.free, (s.entry ch).watchers, (s.entry ch).slot⟩ else s.entry c := by
  unfold State.freeSafed
  by_cases safed : (s.entry ch).hold = .safed
  · rw [if_pos safed, State.entry_of_directory (State.tellWatchers_directory _ _ _)]
    by_cases own : c = ch
    · subst own
      rw [if_pos ⟨rfl, safed⟩]
      exact State.entry_setEntry_self _ _ _
    · rw [if_neg fun h => own h.1]
      exact State.entry_setEntry_ne _ _ (Ne.symm own)
  · rw [if_neg safed, if_neg fun h => safed h.2]

theorem State.freeSafed_only (s : State) (ch : Fin 177) : OnlyDirectory s (s.freeSafed ch) := by
  unfold State.freeSafed
  split_ifs
  · exact (State.setHold_only _ _ _).trans (State.tellWatchers_only _ _ _).directory
  · rfl

theorem State.freeSafed_queue (s : State) (ch : Fin 177) : (s.freeSafed ch).directory.waiters = s.directory.waiters
    ∧ (s.freeSafed ch).directory.arrivals = s.directory.arrivals := by
  unfold State.freeSafed
  split_ifs
  · rw [State.tellWatchers_directory]; exact ⟨rfl, rfl⟩
  · exact ⟨rfl, rfl⟩

theorem foldl_freeSafed_entry {l : List (Fin 177)} (s : State) (c : Fin 177) : (l.foldl State.freeSafed s).entry c =
    if c ∈ l ∧ (s.entry c).hold = .safed then ⟨.free, (s.entry c).watchers, (s.entry c).slot⟩ else s.entry c := by
  induction l generalizing s with
  | nil => simp
  | cons ch rest ih =>
    rw [List.foldl_cons, ih, State.freeSafed_entry]
    by_cases own : c = ch
    · subst own
      by_cases safed : (s.entry c).hold = .safed <;> simp [safed]
    · simp [own]

theorem State.directorySafetyExit_entry (s : State) (c : Fin 177) : s.directorySafetyExit.entry c =
    if (s.entry c).hold = .safed then ⟨.free, (s.entry c).watchers, (s.entry c).slot⟩ else s.entry c := by
  rw [State.directorySafetyExit, foldl_freeSafed_entry]
  simp only [Table.mem_indices, true_and]

theorem State.directorySafetyExit_queue (s : State) : s.directorySafetyExit.directory.waiters = s.directory.waiters
    ∧ s.directorySafetyExit.directory.arrivals = s.directory.arrivals := by
  rw [State.directorySafetyExit]
  exact foldl_keeps (P := fun u : State => u.directory.waiters = s.directory.waiters ∧ u.directory.arrivals = s.directory.arrivals)
    (fun u ch same => ⟨(u.freeSafed_queue ch).1.trans same.1, (u.freeSafed_queue ch).2.trans same.2⟩) _ ⟨rfl, rfl⟩

theorem State.freeSafed_tells {s : State} {ch : Fin 177} {q : Port} (safed : (s.entry ch).hold = .safed)
    (watches : (s.entry ch).watchers.get q = true) : (s.freeSafed ch).told q ⟨.holderChanged, ch, 0, s.clock.value, .none⟩ := by
  have kept : ((s.setHold ch .free).entry ch).watchers = (s.entry ch).watchers := by
    rw [State.setHold, State.entry_setEntry_self]
  rw [State.freeSafed, if_pos safed]
  exact State.postTo_told (s.setHold ch .free) (by rw [kept]; exact watches) .holderChanged ch 0

theorem State.directorySafetyExit_tells {s : State} {ch : Fin 177} {q : Port} (safed : (s.entry ch).hold = .safed)
    (watches : (s.entry ch).watchers.get q = true) :
    s.directorySafetyExit.told q ⟨.holderChanged, ch, 0, s.clock.value, .none⟩ :=
  foldl_reaches (P := fun u => u.told q ⟨.holderChanged, ch, 0, s.clock.value, .none⟩) (Q := fun u => u.entry ch = s.entry ch ∧ u.clock = s.clock)
    (fun u c told => (told_kept _ _).freeSafed u c told)
    (fun u c ne same => ⟨by rw [State.freeSafed_entry, if_neg fun h => ne h.1.symm, same.1],
      by rw [(u.freeSafed_only c).clock_eq, same.2]⟩)
    (fun u same => by rw [← same.2]; exact State.freeSafed_tells (by rw [same.1]; exact safed) (by rw [same.1]; exact watches))
    (Table.mem_indices ch) ⟨rfl, rfl⟩

theorem State.returnToNormal_entry (s : State) (c : Fin 177) : s.returnToNormal.entry c =
    if (s.entry c).hold = .safed then ⟨.free, (s.entry c).watchers, (s.entry c).slot⟩ else s.entry c := by
  have told : ∀ (u : State) d, (u.tellSafety d).entry c = u.entry c := fun _ _ => rfl
  rw [State.returnToNormal, told, State.directorySafetyExit_entry]
  rfl

theorem State.returnToNormal_tells_watcher {s : State} {ch : Fin 177} {q : Port} (safed : (s.entry ch).hold = .safed)
    (watches : (s.entry ch).watchers.get q = true) : s.returnToNormal.told q ⟨.holderChanged, ch, 0, s.clock.value, .none⟩ := by
  have freed := State.directorySafetyExit_tells (s := s.setSafety { s.safety with state := .normal, first := none, further := false })
    (ch := ch) (q := q) safed watches
  rw [State.returnToNormal]
  exact (told_kept _ _).tellSafety _ 0 freed

theorem State.returnToNormal_tells_all (s : State) (q : Port) :
    s.returnToNormal.told q ⟨.safetyState, 255, 0, s.clock.value, .none⟩ := by
  have clock := (State.directorySafetyExit_only (s.setSafety { s.safety with state := .normal, first := none, further := false })).clock_eq
  have told := State.postAll_told
    (s.setSafety { s.safety with state := .normal, first := none, further := false }).directorySafetyExit q .safetyState 255 0
  rw [clock] at told
  exact told

/-- The return to NORMAL touches the Supervisor's record, the entries and the ports. -/
theorem State.returnToNormal_frame (s : State) : s.returnToNormal = { s with
    safety := s.returnToNormal.safety
    directory := ⟨s.returnToNormal.directory.entries, s.directory.waiters, s.directory.arrivals⟩
    ports := s.returnToNormal.ports } := by
  have freed := State.directorySafetyExit_only (s.setSafety { s.safety with state := .normal, first := none, further := false })
  obtain ⟨waiters, arrivals⟩ := State.directorySafetyExit_queue
    (s.setSafety { s.safety with state := .normal, first := none, further := false })
  have only := freed.trans (State.tellSafety_only _ 0).directory
  have told := (State.tellSafety_only
    (s.setSafety { s.safety with state := .normal, first := none, further := false }).directorySafetyExit 0).directory_eq
  have directory : s.returnToNormal.directory =
      ⟨s.returnToNormal.directory.entries, s.directory.waiters, s.directory.arrivals⟩ := by
    rw [State.returnToNormal, told, ← show _ = s.directory.waiters from waiters, ← show _ = s.directory.arrivals from arrivals]
  rw [← directory, s.returnToNormal_safety]
  exact only

/-! ## The acknowledgement (R147) -/

/-- The causes an acknowledgement leaves (R147). -/
theorem Supervisor.stays_eq (r : Supervisor) : r.stays = fun k => decide (k = .intrusion ∧ r.intrusionPending = true
    ∨ k = .level ∧ (r.levelLow = true ∨ r.standing = .missing) ∨ k = .estop ∧ r.estopAsserted = true) := by
  funext k
  cases k <;> simp [Supervisor.stays, Supervisor.takenLow_eq]

theorem Supervisor.acknowledged_eq (r : Supervisor) : r.acknowledged = { r with
    causes := r.causes.filter fun k => decide (k = .intrusion ∧ r.intrusionPending = true
      ∨ k = .level ∧ (r.levelLow = true ∨ r.standing = .missing) ∨ k = .estop ∧ r.estopAsserted = true)
    intrusionPending := r.intrusionPending && decide (Cause.intrusion ∉ r.causes) } := by
  have pending : (if r.has .intrusion then false else r.intrusionPending) =
      (r.intrusionPending && decide (Cause.intrusion ∉ r.causes)) := by
    by_cases listed : Cause.intrusion ∈ r.causes <;> simp [Supervisor.has, listed]
  rw [Supervisor.acknowledged, Supervisor.stays_eq, pending]

/-- The record after an acknowledgement that leaves no cause. -/
def Supervisor.cleared (r : Supervisor) : Supervisor :=
  { r with causes := [], intrusionPending := r.intrusionPending && decide (Cause.intrusion ∉ r.causes) }

theorem exec_safetyAck (p : Port) (tag : U8) (s : State) :
    exec (.safetyAck p tag) s = .next (s.request p 0x51 tag (safetyAckAction p)) := rfl

section Ack

variable {s : State} {p : Port}

theorem safetyAckAction_noRight (right : (s.rights p).safety = false) : safetyAckAction p s = (s, .refuse .noRight) := if_pos right

theorem safetyAckAction_wrongState (right : (s.rights p).safety = true) (state : s.safety.state ≠ .stopped) :
    safetyAckAction p s = (s, .refuse .wrongState) := by
  rw [safetyAckAction, if_neg (by rw [right]; decide), if_pos state]

theorem safetyAckAction_left (right : (s.rights p).safety = true) (state : s.safety.state = .stopped) {c : Cause} {rest : List Cause}
    (left : s.safety.acknowledged.causes = c :: rest) :
    safetyAckAction p s = (s.setSafety s.safety.acknowledged, { status := .wrongState, index := causeCode c }) := by
  rw [safetyAckAction, if_neg (by rw [right]; decide), if_neg (not_not.mpr state)]
  dsimp only
  rw [left]

theorem safetyAckAction_clear (right : (s.rights p).safety = true) (state : s.safety.state = .stopped)
    (clear : s.safety.acknowledged.causes = []) :
    safetyAckAction p s = ((s.setSafety s.safety.acknowledged).returnToNormal, .ok) := by
  rw [safetyAckAction, if_neg (by rw [right]; decide), if_neg (not_not.mpr state)]
  dsimp only
  rw [clear]

end Ack

theorem State.respond_frame {s v : State} {p : Port} {kind tag : Nat} {r : Supervisor} {a : Answer}
    (h : v = { (s.beginRequest p kind tag).setSafety r with
      safety := v.safety, directory := ⟨v.directory.entries, s.directory.waiters, s.directory.arrivals⟩, ports := v.ports }) :
    v.respond p kind tag a = { s with
      safety := (v.respond p kind tag a).safety
      directory := ⟨(v.respond p kind tag a).directory.entries, s.directory.waiters, s.directory.arrivals⟩
      ports := (v.respond p kind tag a).ports } := by
  rw [h]
  rfl

/-- An acknowledgement that leaves no cause. -/
theorem exec_safetyAck_clear {s : State} {p q : Port} (ready : s.portReady p) (tag : U8) {ch : Fin 177}
    (right : (s.rights p).safety = true) (state : s.safety.state = .stopped) (clear : s.safety.acknowledged.causes = []) :
    ∃ t, exec (.safetyAck p tag) s = .next t
      ∧ t.safety = { s.safety with state := .normal, causes := [], first := none, further := false
                                   intrusionPending := s.safety.intrusionPending
                                     && decide (Cause.intrusion ∉ s.safety.causes) }
      ∧ t.entry ch = (if (s.entry ch).hold = .safed then ⟨.free, (s.entry ch).watchers, (s.entry ch).slot⟩ else s.entry ch)
      ∧ ((s.entry ch).hold = .safed → (s.entry ch).watchers.get q = true →
        t.told q ⟨.holderChanged, ch, 0, s.clock.value, .none⟩)
      ∧ t.told q ⟨.safetyState, 255, 0, s.clock.value, .none⟩
      ∧ (t.port p).state = .answering 0x51 tag ⟨.ok, .empty⟩ ∧ (t.port p).error = none
      ∧ t = { s with safety := t.safety, directory := ⟨t.directory.entries, s.directory.waiters, s.directory.arrivals⟩
                     ports := t.ports } := by
  have record : s.safety.acknowledged = s.safety.cleared := by
    have none := clear
    rw [Supervisor.acknowledged_eq] at none ⊢
    dsimp only at none
    rw [none]
    rfl
  have act := safetyAckAction_clear (s := s.beginRequest p 0x51 tag) right state clear
  rw [State.safety_beginRequest, record] at act
  have after := ((s.beginRequest p 0x51 tag).setSafety s.safety.cleared).returnToNormal.respond_sameShow p 0x51 tag .ok
  refine ⟨_, exec_safetyAck p tag s, ?_⟩
  rw [State.request, if_pos (State.takesFrame_of_portReady ready), act]
  have entry : ((s.beginRequest p 0x51 tag).setSafety s.safety.cleared).entry ch = s.entry ch := rfl
  have responded : ∀ u : State, (u.respond p 0x51 tag .ok).entry ch = u.entry ch := fun _ => rfl
  have freed := State.returnToNormal_entry ((s.beginRequest p 0x51 tag).setSafety s.safety.cleared) ch
  have watcher := State.returnToNormal_tells_watcher (s := (s.beginRequest p 0x51 tag).setSafety s.safety.cleared) (ch := ch) (q := q)
  rw [entry] at freed watcher
  refine ⟨after.safety.trans (State.returnToNormal_safety _), (responded _).trans freed, fun safed watches =>
    after.told _ _ (watcher safed watches), after.told _ _ (State.returnToNormal_tells_all _ q), ?_, ?_, ?_⟩
  · rw [State.respond, State.port_setPort_self]; rfl
  · rw [State.respond, State.port_setPort_self]; rfl
  · exact State.respond_frame (State.returnToNormal_frame _)

/-- Settles O45: each command by the cause it brings, the loss by the command that brings it. -/
theorem causesDuringAStopAndAck : Obligations.CausesDuringAStopAndAck := by
  unfold Obligations.CausesDuringAStopAndAck
  intro s p q tag ch c rest n i entry ty
  refine ⟨fun ready => ⟨exec_safetyStop_refused ready tag, exec_safetyStop_listed ready tag, exec_safetyStop_added ready tag⟩,
    exec_estopAsserted_already, exec_estopAsserted_listed, exec_estopAsserted_added, rfl, exec_intrusion_pending,
    exec_intrusion_edge, exec_intrusion_added, fun sense standing command => ?_, fun ready => ⟨fun right => ?_,
      fun right state => ?_, fun right stopped => ⟨fun left => ?_, fun none => ?_⟩⟩⟩
  · obtain ⟨t, next, loss⟩ : ∃ t, exec i s = .next t ∧ SensorLoss s t := by
      rcases command with ⟨rfl, updating, loses⟩ | ⟨rfl, counts, present, third⟩ |
        ⟨rfl, ready, right, mode, idle, keeps, parsed, other, online⟩
      · exact exec_busy_loses sense standing updating loses
      · exact exec_badCheck_loses sense standing counts present third
      · exact exec_configWrite_loses sense standing ready right mode idle keeps parsed other online
    refine ⟨t, next, loss.standing, loss.wind, loss.listed, fun absent stop => ?_, fun absent normal => ?_⟩
    · obtain ⟨causes, state, first, further⟩ := loss.added absent stop
      exact ⟨causes, state, first, further, loss.addedTold absent stop q⟩
    · obtain ⟨causes, state, first, further⟩ := loss.entered absent normal
      obtain ⟨run, entries⟩ := loss.stopped absent normal
      exact ⟨causes, state, first, further, loss.enteredTold absent normal q, run, entries ch⟩
  · rw [exec_safetyAck, State.request_refuse ready 0x51 tag (st := .noRight) rfl (safetyAckAction_noRight right)]
    rfl
  · rw [exec_safetyAck, State.request_refuse ready 0x51 tag (st := .wrongState) rfl (safetyAckAction_wrongState right state)]
    rfl
  · have kept := safetyAckAction_left (s := s.beginRequest p 0x51 tag) right stopped (c := c) (rest := rest)
      (by rw [State.safety_beginRequest, Supervisor.acknowledged_eq]; exact left)
    rw [exec_safetyAck, State.request_refused (t := s.setSafety s.safety.acknowledged) ready 0x51 tag (st := .wrongState) rfl kept,
      Supervisor.acknowledged_eq, left]
  · have clear : s.safety.acknowledged.causes = [] := by
      rw [Supervisor.acknowledged_eq]
      exact List.filter_eq_nil_iff.mpr fun k mem => by rw [decide_eq_true_eq]; exact none k mem
    exact exec_safetyAck_clear ready tag right stopped clear

end Sys2Proof.Machine

/-!
# A reading of the SENSE node, and the hold timer (08 R137 to R140)
-/

namespace Sys2Proof.Machine

/-! ## The hold timer's expiry (R137) -/

section Hold

variable {s : State}

theorem State.expireHold_none (h : s.safety.holdDeadline = none) : s.expireHold = s := by
  rw [State.expireHold, h]

theorem State.expireHold_some {d : Nat} (h : s.safety.holdDeadline = some d) :
    s.expireHold = if d ≤ s.now then s.setSafety { s.safety with holdDeadline := none } else s := by
  rw [State.expireHold, h]

theorem exec_holdTimerExpiry (s : State) : exec .holdTimerExpiry s = .next s.expireHold := rfl

end Hold

/-! ## The record after a reading -/

section Reading

variable (s : State) (w : Nat) (low : Bool)

/-- The record at a reading, before a LOW level adds its cause (R137, R138, R140). -/
def State.reading : Supervisor :=
  { s.gustTaken w with wind := (s.gustTaken w).windNext s.config.global, levelLow := low }

theorem State.gustTaken_standing : (s.gustTaken w).standing = s.safety.standing := by
  unfold State.gustTaken; split_ifs <;> rfl

theorem State.gustTaken_wind : (s.gustTaken w).wind = s.safety.wind := by
  unfold State.gustTaken; split_ifs <;> rfl

theorem State.gustTaken_stop : (s.gustTaken w).state = s.safety.state ∧ (s.gustTaken w).causes = s.safety.causes := by
  unfold State.gustTaken; split_ifs <;> exact ⟨rfl, rfl⟩

/-- The state in which a reading's level is taken. -/
def State.windRead : State := (s.takeGust w).evalWind

theorem State.windRead_safety : (s.windRead w).safety =
    { s.gustTaken w with wind := (s.gustTaken w).windNext s.config.global } := by
  rw [State.windRead, State.evalWind_safety, State.takeGust_eq]
  rfl

theorem State.takeReading_safety : (s.takeReading w low).safety =
    if low then (s.reading w low).withCause .level else s.reading w low := by
  have same : ({ (s.windRead w).safety with levelLow := low } : Supervisor) = s.reading w low := by
    rw [State.windRead_safety]; rfl
  have read : s.takeReading w low = (s.windRead w).takeLevel low := rfl
  rw [read, State.takeLevel_safety, same]

theorem State.windRead_clock : (s.windRead w).clock = s.clock := by
  rw [State.windRead, State.evalWind_eq, State.setWind_clock, State.takeGust_eq]
  rfl

theorem State.takeReading_tells_wind (change : (s.gustTaken w).windNext s.config.global ≠ s.safety.wind) (q : Port) :
    (s.takeReading w low).told q (windNotice ((s.gustTaken w).windNext s.config.global) s.clock.value) := by
  have told := State.setWind_told (s := s.setSafety (s.gustTaken w)) (w := (s.gustTaken w).windNext s.config.global)
    (by rw [State.setSafety_safety, State.gustTaken_wind]; exact change) q
  have read : s.windRead w = (s.setSafety (s.gustTaken w)).setWind ((s.gustTaken w).windNext s.config.global) := by
    rw [State.windRead, State.evalWind_eq, State.takeGust_eq]
    rfl
  have all : s.takeReading w low = (s.windRead w).takeLevel low := rfl
  rw [all, read]
  exact (told_kept q _).field.takeLevel _ low told

omit w in
theorem State.takeLevel_told (absent : Cause.level ∉ s.safety.causes) (q : Port) : (s.takeLevel true).told q
    ⟨.safetyState, 255, if s.safety.state = .normal then 3 else 8, s.clock.value, .none⟩ :=
  State.addCauseOnce_told (s := s.setSafety { s.safety with levelLow := true }) (c := .level) absent q

theorem State.takeReading_tells_level (absent : Cause.level ∉ s.safety.causes) (q : Port) : (s.takeReading w true).told q
    ⟨.safetyState, 255, if s.safety.state = .normal then 3 else 8, s.clock.value, .none⟩ := by
  obtain ⟨state, causes⟩ := s.gustTaken_stop w
  have stop : (s.windRead w).safety.state = s.safety.state := by rw [State.windRead_safety]; exact state
  have list : (s.windRead w).safety.causes = s.safety.causes := by rw [State.windRead_safety]; exact causes
  have told := (s.windRead w).takeLevel_told (by rw [list]; exact absent) q
  rw [State.windRead_clock, stop] at told
  exact told

/-- The gust value and the hold timer by the size of the reading (R137). -/
theorem State.gustTaken_rises (h : s.safety.gust ≤ w) :
    (s.gustTaken w).gust = w ∧ (s.gustTaken w).holdDeadline = s.holdStart := by
  rw [State.gustTaken, if_pos h]; exact ⟨rfl, rfl⟩

theorem State.gustTaken_holds (h : w < s.safety.gust) {d : Nat} (running : s.safety.holdDeadline = some d) :
    (s.gustTaken w).gust = s.safety.gust ∧ (s.gustTaken w).holdDeadline = some d := by
  rw [State.gustTaken, if_neg (Nat.not_le.mpr h), if_neg (by rw [running]; exact Option.some_ne_none d)]
  exact ⟨rfl, running⟩

theorem State.gustTaken_falls (h : w < s.safety.gust) (expired : s.safety.holdDeadline = none) :
    (s.gustTaken w).gust = w ∧ (s.gustTaken w).holdDeadline = none := by
  rw [State.gustTaken, if_neg (Nat.not_le.mpr h), if_pos expired]
  exact ⟨rfl, expired⟩

theorem State.gustTaken_windNext : (s.gustTaken w).windNext s.config.global =
    if s.safety.standing = .missing then .windStop else windOf s.config.global s.safety.wind (s.gustTaken w).gust := by
  rw [Supervisor.windNext, State.gustTaken_standing, State.gustTaken_wind]

end Reading

/-! ### What a cause added leaves of a reading -/

theorem Supervisor.withCause_reading (r : Supervisor) (c : Cause) : (r.withCause c).gust = r.gust
    ∧ (r.withCause c).holdDeadline = r.holdDeadline ∧ (r.withCause c).levelLow = r.levelLow := by
  unfold Supervisor.withCause
  split_ifs <;> exact ⟨rfl, rfl, rfl⟩

/-- The sensor's part of the record after a reading. -/
structure ReadTaken (s : State) (w : Nat) (low : Bool) (r : Supervisor) : Prop where
  gust : r.gust = (s.gustTaken w).gust
  hold : r.holdDeadline = (s.gustTaken w).holdDeadline
  level : r.levelLow = low
  standing : r.standing = s.safety.standing
  wind : r.wind = (s.gustTaken w).windNext s.config.global

theorem State.takeReading_taken (s : State) (w : Nat) (low : Bool) : ReadTaken s w low (s.takeReading w low).safety := by
  have read : ReadTaken s w low (s.reading w low) := ⟨rfl, rfl, rfl, s.gustTaken_standing w, rfl⟩
  rw [State.takeReading_safety]
  split_ifs
  · obtain ⟨gust, hold, level⟩ := (s.reading w low).withCause_reading .level
    exact ⟨gust.trans read.gust, hold.trans read.hold, level.trans read.level,
      ((s.reading w low).withCause_standing .level).trans read.standing, ((s.reading w low).withCause_wind .level).trans read.wind⟩
  · exact read

/-! ## The ACK of the SENSE node (R139) -/

section Ack

variable (s : State) (n : Fin 32) (body : AckBody)

/-- The state in which the reading of the SENSE node's ACK is taken: its presence is told first (R139). -/
def State.sensed : State :=
  if (s.node n).state = .online then s.setNode n ((s.node n).acked body) else (s.setNode n ((s.node n).acked body)).sensorOnline

theorem State.ackNode_sense (wind : U16) (low : Bool) :
    s.ackNode n (.sense wind low) = (s.sensed n (.sense wind low)).takeReading wind low := rfl

theorem State.setWind_outside (s : State) (w : Wind) : (s.setWind w).config = s.config ∧ (s.setWind w).now = s.now
    ∧ (s.setWind w).clock = s.clock := by
  unfold State.setWind
  split_ifs <;> exact ⟨rfl, rfl, rfl⟩

theorem State.sensorOnline_outside (s : State) : s.sensorOnline.config = s.config ∧ s.sensorOnline.now = s.now
    ∧ s.sensorOnline.clock = s.clock := by
  unfold State.sensorOnline
  split_ifs
  · exact ⟨rfl, rfl, rfl⟩
  · rw [State.evalWind_eq]
    exact State.setWind_outside (s.setSafety { s.safety with standing := .present }) _

theorem State.sensed_outside : (s.sensed n body).config = s.config ∧ (s.sensed n body).now = s.now
    ∧ (s.sensed n body).clock = s.clock := by
  unfold State.sensed
  split_ifs
  · exact ⟨rfl, rfl, rfl⟩
  · exact State.sensorOnline_outside _

theorem State.sensed_safety : (s.sensed n body).safety =
    if (s.node n).state = .online ∨ s.safety.standing = .present then s.safety
    else { s.safety with standing := .present, wind := windOf s.config.global s.safety.wind s.safety.gust } := by
  unfold State.sensed
  split_ifs with online both
  · rfl
  · exact absurd (.inl online) both
  · rename_i both
    rw [State.sensorOnline_safety]
    exact if_pos (both.resolve_left online)
  · rename_i both
    rw [State.sensorOnline_safety]
    exact if_neg fun present => both (.inr present)

/-- Presence leaves the gust value, the hold timer and the stop as they were. -/
theorem State.sensed_same : (s.sensed n body).safety.gust = s.safety.gust
    ∧ (s.sensed n body).safety.holdDeadline = s.safety.holdDeadline ∧ (s.sensed n body).safety.state = s.safety.state
    ∧ (s.sensed n body).safety.causes = s.safety.causes := by
  rw [State.sensed_safety]
  split_ifs <;> exact ⟨rfl, rfl, rfl, rfl⟩

theorem State.sensed_told (away : (s.node n).state ≠ .online) (standing : s.safety.standing ≠ .present)
    (change : windOf s.config.global s.safety.wind s.safety.gust ≠ s.safety.wind) (q : Port) :
    (s.sensed n body).told q (windNotice (windOf s.config.global s.safety.wind s.safety.gust) s.clock.value) := by
  rw [State.sensed, if_neg away, State.sensorOnline, if_neg (by exact standing), State.evalWind_eq]
  exact State.setWind_told (by exact change) q

end Ack

theorem State.takeReading_listed (s : State) (w : Nat) {low : Bool} (h : low = false ∨ Cause.level ∈ s.safety.causes) :
    (s.takeReading w low).safety.causes = s.safety.causes ∧ (s.takeReading w low).safety.state = s.safety.state := by
  obtain ⟨state, causes⟩ := s.gustTaken_stop w
  have read : s.reading w low = (s.reading w low).withCause .level ∨ low = false := by
    refine h.symm.imp (fun listed => (if_pos ?_).symm) id
    rw [State.reading]
    dsimp only
    rw [causes]
    exact listed
  have plain : (s.takeReading w low).safety = s.reading w low := by
    rw [State.takeReading_safety]
    split_ifs with islow
    · exact (read.resolve_right (by rw [islow]; decide)).symm
    · rfl
  rw [plain]
  exact ⟨causes, state⟩

theorem State.takeReading_added (s : State) (w : Nat) (absent : Cause.level ∉ s.safety.causes) :
    (s.safety.state = .normal → (s.takeReading w true).safety.causes = [.level] ∧ (s.takeReading w true).safety.state = .stopping
      ∧ (s.takeReading w true).safety.first = some .level)
    ∧ (s.safety.state ≠ .normal → (s.takeReading w true).safety.causes = s.safety.causes ++ [.level]
      ∧ (s.takeReading w true).safety.state = s.safety.state ∧ (s.takeReading w true).safety.further = true) := by
  obtain ⟨state, causes⟩ := s.gustTaken_stop w
  have list : (s.reading w true).causes = s.safety.causes := causes
  have stop : (s.reading w true).state = s.safety.state := state
  rw [State.takeReading_safety, if_pos rfl, Supervisor.withCause, if_neg (by rw [list]; exact absent), stop]
  refine ⟨fun normal => ?_, fun stopped => ?_⟩
  · rw [if_pos normal]; exact ⟨rfl, rfl, rfl⟩
  · rw [if_neg stopped]
    dsimp only
    rw [list]
    exact ⟨rfl, rfl, rfl⟩

section Sensed

variable {s : State} {n : Fin 32} {wind : U16} {low : Bool} {t : State}
  (after : LinkEnd s ((s.sensed n (.sense wind low)).takeReading wind low) t n)
include after

/-- The sensor's part of the record after the ACK. -/
theorem LinkEnd.taken : ReadTaken (s.sensed n (.sense wind low)) wind low t.safety := by
  rw [after.safety]
  exact State.takeReading_taken _ _ _

theorem LinkEnd.gust : (s.safety.gust ≤ wind → t.safety.gust = wind
      ∧ t.safety.holdDeadline = if s.config.global.gustHold = 0 then none else some (s.now + s.config.global.gustHold))
    ∧ (wind < s.safety.gust →
      (∀ d, s.safety.holdDeadline = some d → t.safety.gust = s.safety.gust ∧ t.safety.holdDeadline = some d)
      ∧ (s.safety.holdDeadline = none → t.safety.gust = wind ∧ t.safety.holdDeadline = none)) := by
  obtain ⟨config, now, -⟩ := s.sensed_outside n (.sense wind low)
  obtain ⟨gust, hold, -, -⟩ := s.sensed_same n (.sense wind low)
  have start : (s.sensed n (.sense wind low)).holdStart = s.holdStart := by unfold State.holdStart; rw [config, now]
  rw [after.taken.gust, after.taken.hold]
  refine ⟨fun rises => ?_, fun falls => ⟨fun d running => ?_, fun expired => ?_⟩⟩
  · obtain ⟨value, deadline⟩ := State.gustTaken_rises (s.sensed n (.sense wind low)) wind (by rw [gust]; exact rises)
    exact ⟨value, deadline.trans start⟩
  · rw [← gust]
    exact State.gustTaken_holds _ wind (by rw [gust]; exact falls) (by rw [hold]; exact running)
  · exact State.gustTaken_falls _ wind (by rw [gust]; exact falls) (by rw [hold]; exact expired)

/-- The wind state after the ACK, by the presence and the wind state before its reading. -/
theorem LinkEnd.wind_eq : t.safety.wind = if (s.sensed n (.sense wind low)).safety.standing = .missing then .windStop
    else windOf s.config.global (s.sensed n (.sense wind low)).safety.wind t.safety.gust := by
  rw [after.taken.wind, State.gustTaken_windNext, ← after.taken.gust, (s.sensed_outside n _).1]

theorem LinkEnd.wind_told {b : Wind} (before : (s.sensed n (.sense wind low)).safety.wind = b) (change : t.safety.wind ≠ b) (q : Port) :
    t.told q (windNotice t.safety.wind s.clock.value) := by
  have told := (s.sensed n (.sense wind low)).takeReading_tells_wind wind low
    (by rw [before, ← after.taken.wind]; exact change) q
  rw [← after.taken.wind, (s.sensed_outside n _).2.2] at told
  exact after.told told

theorem LinkEnd.wind_standing (standing : (s.sensed n (.sense wind low)).safety.standing ≠ .missing) {b : Wind}
    (before : (s.sensed n (.sense wind low)).safety.wind = b) (q : Port) :
    t.safety.wind = windOf s.config.global b t.safety.gust
      ∧ (t.safety.wind ≠ b → t.told q (windNotice t.safety.wind s.clock.value)) := by
  refine ⟨?_, fun change => after.wind_told before change q⟩
  rw [after.wind_eq, if_neg standing, before]

theorem LinkEnd.level_added (islow : low = true) (absent : Cause.level ∉ s.safety.causes) (q : Port) :
    (s.safety.state = .normal → t.safety.causes = [.level] ∧ t.safety.state = .stopping ∧ t.safety.first = some .level
      ∧ t.told q ⟨.safetyState, 255, 3, s.clock.value, .none⟩)
    ∧ (s.safety.state ≠ .normal → t.safety.causes = s.safety.causes ++ [.level] ∧ t.safety.state = s.safety.state
      ∧ t.safety.further = true ∧ t.told q ⟨.safetyState, 255, 8, s.clock.value, .none⟩) := by
  subst islow
  obtain ⟨-, -, state, causes⟩ := s.sensed_same n (.sense wind true)
  obtain ⟨entered, added⟩ := (s.sensed n (.sense wind true)).takeReading_added wind (by rw [causes]; exact absent)
  have told := after.told ((s.sensed n (.sense wind true)).takeReading_tells_level wind (by rw [causes]; exact absent) q)
  rw [state, (s.sensed_outside n _).2.2] at told
  rw [state, causes] at added
  rw [state] at entered
  rw [after.safety]
  refine ⟨fun normal => ?_, fun stopped => ?_⟩
  · rw [if_pos normal] at told
    obtain ⟨list, stop, first⟩ := entered normal
    exact ⟨list, stop, first, told⟩
  · rw [if_neg stopped] at told
    obtain ⟨list, stop, further⟩ := added stopped
    exact ⟨list, stop, further, told⟩

end Sensed

/-- Settles O50: the hold timer by its deadline, the reading by the presence before it. -/
theorem readingAndHoldTimer : Obligations.ReadingAndHoldTimer := by
  unfold Obligations.ReadingAndHoldTimer
  intro s n q wind low d w
  refine ⟨fun none => ?_, fun running => ⟨fun early => ?_, fun due => ?_⟩, fun updating type => ?_⟩
  · rw [exec_holdTimerExpiry, State.expireHold_none none]
  · rw [exec_holdTimerExpiry, State.expireHold_some running, if_neg (Nat.not_le.mpr early)]
  · rw [exec_holdTimerExpiry, State.expireHold_some running, if_pos due]
  · obtain ⟨t, next, after, -⟩ := State.ack_suits updating (body := .sense wind low) (by rw [type]; rfl)
    rw [State.ackNode_sense] at after
    have record := s.sensed_safety n (.sense wind low)
    obtain ⟨rises, falls⟩ := after.gust
    refine ⟨t, next, rises, fun lower => ⟨(falls lower).1 d, (falls lower).2⟩, after.taken.level, fun away => ?_,
      fun online missing => ?_, fun settled => ?_, fun away standing before => ?_, fun islow absent normal => ?_,
      fun islow absent stopped => ?_, fun listed => ?_⟩
    · rw [after.taken.standing, record]
      split_ifs with present
      · exact present.resolve_left away
      · rfl
    · rw [if_pos (.inl online)] at record
      rw [after.wind_eq, record, if_pos missing]
    · have present : (s.node n).state = .online ∨ s.safety.standing = .present := settled.imp (·.1) (·.2)
      rw [if_pos present] at record
      refine after.wind_standing ?_ (by rw [record]) q
      rw [record]
      exact settled.elim (·.2) fun h e => Standing.noConfusion (h.2.symm.trans e)
    · rw [if_neg (not_or.mpr ⟨away, standing⟩)] at record
      obtain ⟨wind_eq, told⟩ := after.wind_standing (b := w) (by rw [record]; exact Standing.noConfusion)
        (by rw [record, before]) q
      refine ⟨wind_eq, fun change => ?_, told⟩
      rw [before] at change ⊢
      exact after.told ((told_kept q _).field.takeReading _ _ _ (s.sensed_told n _ away standing change q))
    · exact (after.level_added islow absent q).1 normal
    · exact (after.level_added islow absent q).2 stopped
    · obtain ⟨-, -, state, causes⟩ := s.sensed_same n (.sense wind low)
      obtain ⟨list, stop⟩ := (s.sensed n (.sense wind low)).takeReading_listed wind (low := low) (by rw [causes]; exact listed)
      rw [after.safety]
      exact ⟨list.trans causes, stop.trans state⟩

end Sys2Proof.Machine

/-!
# A freeze and its thaw at a frame event (03 R63, 04 R79, R82, 08 R151)
-/

namespace Sys2Proof.Machine

/-! ## The rest of the frame event -/

/-- What has been told where the Shaper's part ends has been told after the frame event. -/
theorem KeptByPosting.shape_after {P : State → Prop} (k : KeptByPosting P) {s : State} (shaped : P s.frameBegun.shape) :
    P s.frame := by
  have evaluated : ∀ u : State, P u → P u.evalIdle := fun u hu => k.elsewhere u _ (by rw [State.evalIdle_only]) hu
  have settled : ∀ u : State, P u → P u.reachStopped := fun u hu => by
    unfold State.reachStopped
    split
    · exact k.tellSafety _ _ (k.elsewhere u (u.setSafety _) rfl hu)
    · exact hu
  have mixed : ∀ u : State, P u → P u.mix := fun u hu => k.elsewhere u _ rfl hu
  rw [State.frame_parts]
  exact k.field.sweep _ _ (State.giveSweep_only _) (mixed _ (settled _ (evaluated _ shaped)))

/-- What has been told where the Shaper's part begins has been told after the frame event. -/
theorem KeptByPosting.frame_after {P : State → Prop} (k : KeptByPosting P) {s : State} (h : P s.frameBegun) : P s.frame := by
  have slewed : ∀ u : State, P u → P u.slewed := fun u hu => k.elsewhere u _ rfl hu
  have rest : ∀ u : State, P u → P u.settleRest := fun u hu => k.elsewhere u _ rfl hu
  exact k.shape_after (rest _ (k.tellHeaders _ _ (slewed _ h)))

theorem State.frame_freeze (s : State) : s.frame.safety.freeze = s.frameBegun.safety.freeze := by
  rw [State.frame_safety_parts, State.mixBegun_safety]
  split_ifs <;> rfl

/-- What a frame event makes of the freeze record, the tracks and the clock is what its first part makes. -/
theorem State.frame_of_begun (s : State) : s.frame.tracks = s.frameBegun.tracks ∧ s.frame.clock = s.frameBegun.clock :=
  ⟨s.frame_tracks, s.frame_clock⟩

/-! ## The freeze -/

section Freeze

variable (s : State) (f : Port)

/-- The freeze record and its notice, before the tracks. -/
def State.freezeTold : State := (s.setFreeze (.inEffect f)).post f .frozen noSubject 0

def State.thawTold : State := (s.setFreeze .none).post f .thawed noSubject 0

variable {s f}

theorem State.changeFreeze_none (h : s.safety.freeze = .none ∨ s.safety.freeze = .inEffect f) : s.changeFreeze = s := by
  unfold State.changeFreeze
  rcases h with e | e <;> rw [e]

theorem State.changeFreeze_requested (h : s.safety.freeze = .requested f) : s.changeFreeze =
    ((s.freezeTold f).eachTrack State.freezeTrack).setClock ((s.freezeTold f).eachTrack State.freezeTrack).clock.freezeIn := by
  unfold State.changeFreeze
  rw [h]
  rfl

theorem State.changeFreeze_thaw (h : s.safety.freeze = .thawRequested f) :
    s.changeFreeze = ((s.thawTold f).eachTrack State.thawTrack).clockThaw := by
  unfold State.changeFreeze
  rw [h]
  rfl

variable (s f)

theorem State.freezeTold_tells : (s.freezeTold f).told f ⟨.frozen, 255, 0, s.clock.value, .none⟩ :=
  (s.setFreeze (.inEffect f)).post_told f .frozen 255 0

theorem State.thawTold_tells : (s.thawTold f).told f ⟨.thawed, 255, 0, s.clock.value, .none⟩ :=
  (s.setFreeze .none).post_told f .thawed 255 0

end Freeze

/-! ## The tracks that a freeze finds (03 R63) -/

theorem State.freezeTrack_tells {s : State} {t : Fin 4} {b : TrackBody} {due at_ : Nat} (track : s.track t = some b)
    (phase : b.phase = .running due at_) : (s.freezeTrack t).told b.owner ⟨.trackState, t, 4, s.clock.value, .none⟩ := by
  unfold State.freezeTrack
  rw [track]
  dsimp only
  rw [phase]
  exact State.deliver_told _ _ _

theorem State.frozen_tells {s : State} {t : Fin 4} {b : TrackBody} {due at_ : Nat} (track : s.track t = some b)
    (phase : b.phase = .running due at_) :
    (s.eachTrack State.freezeTrack).told b.owner ⟨.trackState, t, 4, s.clock.value, .none⟩ := by
  refine State.eachTrack_told (t := t) (Q := fun u => u.track t = some b ∧ u.clock = s.clock)
    (fun u j told => (told_kept _ _).freezeTrack u j told) (fun u j ne same => ?_) (fun u same => ?_) ⟨track, rfl⟩
  · obtain ⟨stands, clock⟩ := same
    exact ⟨by rw [State.freezeTrack_track, if_neg ne.symm, stands], by rw [(State.freezeTrack_only u j).clock_eq, clock]⟩
  · obtain ⟨stands, clock⟩ := same
    rw [← clock]
    exact State.freezeTrack_tells stands phase

theorem State.thawTrack_tells {s : State} {t : Fin 4} {b : TrackBody} {n : Nat} (track : s.track t = some b)
    (phase : b.phase = .paused n) (free : ({ b.reasons with freeze := false } : PauseReasons).isEmpty = true) :
    (s.thawTrack t).told b.owner ⟨.trackState, t, 2, s.clock.value, .none⟩ := by
  unfold State.thawTrack
  rw [track]
  dsimp only
  rw [phase]
  dsimp only
  rw [if_pos free]
  exact State.deliver_told _ _ _

theorem State.thawed_tells {s : State} {t : Fin 4} {b : TrackBody} {n : Nat} (track : s.track t = some b)
    (phase : b.phase = .paused n) (free : ({ b.reasons with freeze := false } : PauseReasons).isEmpty = true) :
    (s.eachTrack State.thawTrack).told b.owner ⟨.trackState, t, 2, s.clock.value, .none⟩ := by
  refine State.eachTrack_told (t := t) (Q := fun u => u.track t = some b ∧ u.clock = s.clock)
    (fun u j told => (told_kept _ _).thawTrack u j told) (fun u j ne same => ?_) (fun u same => ?_) ⟨track, rfl⟩
  · obtain ⟨stands, clock⟩ := same
    exact ⟨by rw [State.thawTrack_track, if_neg ne.symm, stands], by rw [(State.thawTrack_only u j).clock_eq, clock]⟩
  · obtain ⟨stands, clock⟩ := same
    rw [← clock]
    exact State.thawTrack_tells stands phase free

/-! ## The two changes, whole -/

section Changes

variable {s : State} {f : Port}

theorem State.freezeTold_clock : ((s.freezeTold f).eachTrack State.freezeTrack).clock = s.clock :=
  ((s.freezeTold f).eachTrack_only State.freezeTrack_only).clock_eq

theorem State.thawTold_only : OnlyTracks (s.thawTold f) ((s.thawTold f).eachTrack State.thawTrack) :=
  (s.thawTold f).eachTrack_only State.thawTrack_only

/-- The state after the tracks have been handed the thaw, before the clock (log 22). -/
def State.thawedTracks (s : State) (f : Port) : State := (s.thawTold f).eachTrack State.thawTrack

theorem State.thawedTracks_outside : (s.thawedTracks f).clock = s.clock ∧ (s.thawedTracks f).config = s.config
    ∧ (s.thawedTracks f).directory = s.directory := by
  have only := State.thawTold_only (s := s) (f := f)
  exact ⟨only.clock_eq, only.show.config_eq, (s.thawTold f).eachTrack_directory State.thawTrack_directory⟩

section Requested

variable (h : s.safety.freeze = .requested f)
include h

theorem State.freeze_safety : s.changeFreeze.safety.freeze = .inEffect f := by
  rw [State.changeFreeze_safety, h]

theorem State.freeze_clock : s.changeFreeze.clock = s.clock.freezeIn := by
  rw [State.changeFreeze_clock, h]

theorem State.freeze_track (t : Fin 4) : s.changeFreeze.track t = (s.track t).map s.frozenBody := by
  have set : ∀ (u : State) c, (u.setClock c).track t = u.track t := fun _ _ => rfl
  rw [State.changeFreeze_requested h, set, State.frozen_tracks]
  rfl

theorem State.freeze_told {p : Port} {n : Notice} (told : ((s.freezeTold f).eachTrack State.freezeTrack).told p n) :
    s.changeFreeze.told p n := by
  have set : ∀ (u : State) c, (u.setClock c).ports = u.ports := fun _ _ => rfl
  rw [State.changeFreeze_requested h]
  exact (told_kept p n).elsewhere _ _ (set _ _) told

theorem State.freeze_tells : s.changeFreeze.told f ⟨.frozen, 255, 0, s.clock.value, .none⟩ :=
  State.freeze_told h (State.eachTrack_keeps (P := fun u => u.told f ⟨.frozen, 255, 0, s.clock.value, .none⟩)
    (fun u t told => (told_kept _ _).freezeTrack u t told) (s.freezeTold_tells f))

theorem State.freeze_tells_owner {t : Fin 4} {b : TrackBody} {due at_ : Nat} (track : s.track t = some b)
    (phase : b.phase = .running due at_) : s.changeFreeze.told b.owner ⟨.trackState, t, 4, s.clock.value, .none⟩ :=
  State.freeze_told h (State.frozen_tells (s := s.freezeTold f) track phase)

end Requested

section Thaw

variable (h : s.safety.freeze = .thawRequested f)
include h

theorem State.thaw_eq : s.changeFreeze = (s.thawedTracks f).clockThaw := State.changeFreeze_thaw h

theorem State.thaw_safety : s.changeFreeze.safety.freeze = .none := by
  rw [State.changeFreeze_safety, h]

theorem State.thaw_clock : s.changeFreeze.clock = s.clock.thawed s.config.global.policy := by
  rw [State.changeFreeze_clock, h]

theorem State.thaw_track (t : Fin 4) : s.changeFreeze.track t = (s.track t).map s.thawedBody := by
  rw [State.thaw_eq h, State.track, State.clockThaw_tracks]
  exact State.thawed_tracks (s.thawTold f) t

theorem State.thaw_told {p : Port} {n : Notice} (told : (s.thawedTracks f).told p n) : s.changeFreeze.told p n := by
  rw [State.thaw_eq h]
  exact (told_kept p n).play.clockThaw _ told

theorem State.thaw_tells : s.changeFreeze.told f ⟨.thawed, 255, 0, s.clock.value, .none⟩ :=
  State.thaw_told h (State.eachTrack_keeps (P := fun u => u.told f ⟨.thawed, 255, 0, s.clock.value, .none⟩)
    (fun u t told => (told_kept _ _).thawTrack u t told) (s.thawTold_tells f))

theorem State.thaw_tells_owner {t : Fin 4} {b : TrackBody} {n : Nat} (track : s.track t = some b) (phase : b.phase = .paused n)
    (free : ({ b.reasons with freeze := false } : PauseReasons).isEmpty = true) :
    s.changeFreeze.told b.owner ⟨.trackState, t, 2, s.clock.value, .none⟩ :=
  State.thaw_told h (State.thawed_tells (s := s.thawTold f) track phase free)

end Thaw

end Changes

/-! ## The clock at a thaw (04 R79, R82) -/

section Thawed

variable {c : ClockUnit} (policy : Policy)

theorem ClockUnit.thawed_stopped (h : c.run = .stopped) : c.thawed policy = { c with freeze := false } := by
  unfold ClockUnit.thawed
  rw [h, if_neg (by decide)]
  cases c
  cases h
  rfl

variable (stalled : c.run = .stalled)
include stalled

theorem ClockUnit.thawed_underrun (h : c.underrun = true) : c.thawed policy = { c with freeze := false } := by
  unfold ClockUnit.thawed
  rw [stalled, h, if_pos rfl]
  cases c
  cases h
  cases stalled
  rfl

/-- A clock that only the freeze stalled, before what it meets. -/
theorem ClockUnit.thawed_runs (h : c.underrun = false) :
    c.thawed policy = ({ c with freeze := false, run := .running } : ClockUnit).met policy := by
  unfold ClockUnit.thawed
  rw [stalled, h, if_pos rfl]
  rfl

end Thawed

theorem ClockUnit.met_plays {c : ClockUnit} (policy : Policy) (h : c.source = .internal
    ∨ (c.position < 4294967295 ∧ (c.queue ≠ [] ∨ c.coasting = true))) : c.met policy = c := by
  unfold ClockUnit.met
  split_ifs with audio last empty
  · rcases h with source | ⟨before, -⟩
    · exact absurd (source.symm.trans audio.2) (by decide)
    · exact absurd last before.ne
  · rcases h with source | ⟨-, queue | coasting⟩
    · exact absurd (source.symm.trans audio.2) (by decide)
    · exact absurd (List.isEmpty_iff.mp empty.1) queue
    · exact absurd (coasting.symm.trans empty.2) (by decide)
  · rfl
  · rfl

theorem ClockUnit.met_last {c : ClockUnit} (policy : Policy) (run : c.run = .running) (source : c.source = .audio)
    (last : c.position = 4294967295) : c.met policy = c.heldUp := by
  have last' : c.position = Config.lastPosition := last
  rw [ClockUnit.met, if_pos ⟨run, source⟩, if_pos last']

theorem ClockUnit.met_empty {c : ClockUnit} (policy : Policy) (run : c.run = .running) (source : c.source = .audio)
    (before : c.position < 4294967295) (empty : c.queue = []) (coasting : c.coasting = false) : c.met policy = c.underrunBy policy := by
  have before' : c.position ≠ Config.lastPosition := before.ne
  rw [ClockUnit.met, if_pos ⟨run, source⟩, if_neg before', if_pos ⟨by rw [empty]; rfl, coasting⟩]

/-- A clock that the freeze stalled is held up again by its underrun under STALL. -/
theorem ClockUnit.underrunBy_stall {c : ClockUnit} (stalled : c.run = .stalled) :
    ({ c with freeze := false, run := .running } : ClockUnit).underrunBy .stall = { c with freeze := false, underrun := true } := by
  cases c
  cases stalled
  rfl

section ThawedMeets

variable {c : ClockUnit} (policy : Policy) (stalled : c.run = .stalled) (clear : c.underrun = false) (source : c.source = .audio)
include stalled clear source

theorem ClockUnit.thawed_last (last : c.position = 4294967295) :
    c.thawed policy = { c with freeze := false, underrun := true, coasting := false } := by
  rw [ClockUnit.thawed_runs policy stalled clear, ClockUnit.met_last (c := { c with freeze := false, run := .running }) policy rfl
    source last]
  cases c
  cases stalled
  rfl

theorem ClockUnit.thawed_empty (before : c.position < 4294967295) (empty : c.queue = []) (coasting : c.coasting = false) :
    c.thawed policy = ({ c with freeze := false, run := .running } : ClockUnit).underrunBy policy := by
  rw [ClockUnit.thawed_runs policy stalled clear, ClockUnit.met_empty (c := { c with freeze := false, run := .running }) policy rfl
    source before empty coasting]

end ThawedMeets

/-- The clock as a thaw starts it. -/
def State.restarted (u : State) : State := u.setClock { u.clock with freeze := false, run := .running }

theorem State.clockThaw_runs {u : State} (stalled : u.clock.run = .stalled) (clear : u.clock.underrun = false) :
    u.clockThaw = u.restarted.meetStart := by
  unfold State.clockThaw
  rw [stalled, clear]
  rfl

theorem State.postAud_told {s : State} {q : Port} (holder : s.audHolder = some q) (k : NoticeKind) (detail : Nat) :
    (s.postAud k detail).told q ⟨k, 176, detail, s.clock.value, .none⟩ := by
  rw [State.postAud_of_holder holder]
  exact s.post_told q k 176 detail

section Meets

variable {u : State} {q : Port} (stalled : u.clock.run = .stalled) (clear : u.clock.underrun = false)
  (source : u.clock.source = .audio) (holder : u.audHolder = some q)
include stalled clear source holder

theorem State.clockThaw_tells_last (last : u.clock.position = 4294967295) :
    u.clockThaw.told q ⟨.underrun, 176, 2, u.clock.value, .none⟩ := by
  rw [State.clockThaw_runs stalled clear, State.meetStart_last (s := u.restarted) rfl source last, State.rangeEnd_eq]
  exact State.postAud_told (s := u.restarted.setClock u.restarted.clock.heldUp) holder .underrun 2

theorem State.clockThaw_tells_empty (before : u.clock.position < 4294967295) (empty : u.clock.queue = [])
    (coasting : u.clock.coasting = false) :
    u.clockThaw.told q ⟨.underrun, 176, policyCode u.config.global.policy, u.clock.value, .none⟩ := by
  rw [State.clockThaw_runs stalled clear, State.meetStart_empty (s := u.restarted) rfl source before.ne empty coasting,
    State.meetUnderrun_eq]
  have told := State.postAud_told (s := u.restarted.setClock (u.restarted.clock.underrunBy u.restarted.config.global.policy)) holder
    .underrun (policyCode u.restarted.config.global.policy)
  rw [State.setClock_clock, ClockUnit.underrunBy_value] at told
  exact told

end Meets

/-! ## At the frame event -/

section Frame

variable (s : State)

theorem State.frame_track (t : Fin 4) : s.frame.track t = s.frameBegun.track t := by
  rw [State.track, State.track, s.frame_of_begun.1]

/-- The clause of O48 for a freeze that comes into effect. -/
theorem State.frame_freezes {s : State} {f : Port} (h : s.safety.freeze = .requested f) : s.frame.safety.freeze = .inEffect f
    ∧ s.frame.told f ⟨.frozen, 255, 0, s.clock.value, .none⟩ ∧ s.frame.clock = s.clock.freezeIn
    ∧ ∀ t, s.frame.track t = (s.track t).map s.frozenBody := by
  have freeze := State.freeze_safety (s := s.reloadFrame) h
  have tells := State.freeze_tells (s := s.reloadFrame) h
  have clock := State.freeze_clock (s := s.reloadFrame) h
  refine ⟨s.frame_freeze.trans freeze, (told_kept _ _).frame_after tells, s.frame_clock.trans clock, fun t => ?_⟩
  rw [s.frame_track]
  exact State.freeze_track (s := s.reloadFrame) h t

theorem State.frame_freeze_tells {s : State} {f : Port} (h : s.safety.freeze = .requested f) {t : Fin 4} {b : TrackBody}
    {due at_ : Nat} (track : s.track t = some b) (phase : b.phase = .running due at_) :
    s.frame.told b.owner ⟨.trackState, t, 4, s.clock.value, .none⟩ :=
  (told_kept _ _).frame_after (State.freeze_tells_owner (s := s.reloadFrame) h track phase)

variable {s} {f : Port} (h : s.safety.freeze = .thawRequested f)
include h

theorem State.frame_thaws : s.frame.safety.freeze = .none ∧ s.frame.told f ⟨.thawed, 255, 0, s.clock.value, .none⟩
    ∧ s.frame.clock = s.clock.thawed s.config.global.policy ∧ ∀ t, s.frame.track t = (s.track t).map s.thawedBody := by
  have freeze := State.thaw_safety (s := s.reloadFrame) h
  have tells := State.thaw_tells (s := s.reloadFrame) h
  have clock := State.thaw_clock (s := s.reloadFrame) h
  refine ⟨s.frame_freeze.trans freeze, (told_kept _ _).frame_after tells, s.frame_clock.trans clock, fun t => ?_⟩
  rw [s.frame_track]
  exact State.thaw_track (s := s.reloadFrame) h t

theorem State.frame_thaw_tells {t : Fin 4} {b : TrackBody} {n : Nat} (track : s.track t = some b) (phase : b.phase = .paused n)
    (free : ({ b.reasons with freeze := false } : PauseReasons).isEmpty = true) :
    s.frame.told b.owner ⟨.trackState, t, 2, s.clock.value, .none⟩ :=
  (told_kept _ _).frame_after (State.thaw_tells_owner (s := s.reloadFrame) h track phase free)

section Meets

variable {q : Port} (stalled : s.clock.run = .stalled) (clear : s.clock.underrun = false) (source : s.clock.source = .audio)
  (holder : s.audHolder = some q)
include stalled clear source holder

/-- What the clock meets at a thaw is told at the frame event. -/
theorem State.frame_thaw_tells_last (last : s.clock.position = 4294967295) :
    s.frame.told q ⟨.underrun, 176, 2, s.clock.value, .none⟩ := by
  obtain ⟨clock, -, directory⟩ := State.thawedTracks_outside (s := s.reloadFrame) (f := f)
  have same : (s.reloadFrame.thawedTracks f).clock = s.clock := clock
  have holder : (s.reloadFrame.thawedTracks f).audHolder = some q := by
    rw [State.audHolder, State.entry_of_directory directory]; exact holder
  have told := State.clockThaw_tells_last (u := s.reloadFrame.thawedTracks f) (by rw [same]; exact stalled)
    (by rw [same]; exact clear) (by rw [same]; exact source) holder (by rw [same]; exact last)
  rw [same, ← State.thaw_eq (s := s.reloadFrame) h] at told
  exact (told_kept _ _).frame_after told

theorem State.frame_thaw_tells_empty (before : s.clock.position < 4294967295) (empty : s.clock.queue = [])
    (coasting : s.clock.coasting = false) :
    s.frame.told q ⟨.underrun, 176, policyCode s.config.global.policy, s.clock.value, .none⟩ := by
  obtain ⟨clock, config, directory⟩ := State.thawedTracks_outside (s := s.reloadFrame) (f := f)
  have same : (s.reloadFrame.thawedTracks f).clock = s.clock := clock
  have tables : (s.reloadFrame.thawedTracks f).config = s.config := config
  have holder : (s.reloadFrame.thawedTracks f).audHolder = some q := by
    rw [State.audHolder, State.entry_of_directory directory]; exact holder
  have told := State.clockThaw_tells_empty (u := s.reloadFrame.thawedTracks f) (by rw [same]; exact stalled)
    (by rw [same]; exact clear) (by rw [same]; exact source) holder (by rw [same]; exact before) (by rw [same]; exact empty)
    (by rw [same]; exact coasting)
  rw [same, tables, ← State.thaw_eq (s := s.reloadFrame) h] at told
  exact (told_kept _ _).frame_after told

end Meets

end Frame

theorem State.runningAt_eq (s : State) (n : Nat) : s.runningAt (s.clock.value + n) =
    .running (s.clock.value + n) (s.clock.value + if s.clock.run = .running then n else max n 1) := by
  unfold State.runningAt State.dueThreshold
  split_ifs
  · rfl
  · rw [Nat.add_max_add_left]

/-- Settles O48, by the freeze record the frame event finds. -/
theorem freezeAtFrameEvent : Obligations.FreezeAtFrameEvent := by
  unfold Obligations.FreezeAtFrameEvent
  intro s f q t b due at_ n frameDue
  refine ⟨s.frame, by rw [exec_frameEvent, State.frameEvent_due frameDue], fun calm => ?_, fun requested => ?_, fun lifted => ?_⟩
  · have begun : s.frameBegun = s.reloadFrame := State.changeFreeze_none (s := s.reloadFrame) (f := f) calm
    obtain ⟨tracks, clock⟩ := s.frame_of_begun
    rw [s.frame_freeze, tracks, clock, begun]
    exact ⟨rfl, rfl, rfl⟩
  · obtain ⟨freeze, told, clock, tracks⟩ := State.frame_freezes requested
    refine ⟨freeze, told, clock, fun track => ⟨fun phase => ⟨?_, State.frame_freeze_tells requested track phase⟩, fun name => ?_,
      fun name => ?_⟩, fun idle => by rw [tracks, idle]; rfl⟩
    · rw [tracks, track, Option.map_some, State.frozenBody, phase]
    · rw [tracks, track, Option.map_some, State.frozenBody]
      cases phase : b.phase <;> simp_all [trackName]
    · rw [tracks, track, Option.map_some, State.frozenBody]
      cases phase : b.phase <;> simp_all [trackName]
  · obtain ⟨freeze, told, clock, tracks⟩ := State.frame_thaws lifted
    refine ⟨freeze, told, fun stopped => ?_, fun stalled => ⟨fun underrun => ?_, fun clear plays => ?_, fun clear source =>
      ⟨fun last => ⟨?_, fun holder => State.frame_thaw_tells_last lifted stalled clear source holder last⟩,
        fun before empty coasting => ⟨fun coast => ?_, fun stall => ?_⟩⟩⟩, fun track phase => ⟨fun owner safety => ?_, fun held => ?_⟩,
      fun track name => ?_, fun idle => by rw [tracks, idle]; rfl⟩
    · rw [clock, ClockUnit.thawed_stopped _ stopped]
    · rw [clock, ClockUnit.thawed_underrun _ stalled underrun]
    · rw [clock, ClockUnit.thawed_runs _ stalled clear]
      exact ClockUnit.met_plays _ plays
    · rw [clock, ClockUnit.thawed_last _ stalled clear source last]
    · rw [clock, ClockUnit.thawed_empty _ stalled clear source before empty coasting, coast]
      refine ⟨rfl, fun holder => ?_⟩
      have told := State.frame_thaw_tells_empty lifted stalled clear source holder before empty coasting
      rw [coast] at told
      exact told
    · rw [clock, ClockUnit.thawed_empty _ stalled clear source before empty coasting, stall]
      refine ⟨?_, fun holder => ?_⟩
      · exact ClockUnit.underrunBy_stall stalled
      · have told := State.frame_thaw_tells_empty lifted stalled clear source holder before empty coasting
        rw [stall] at told
        exact told
    · have free : ({ b.reasons with freeze := false } : PauseReasons).isEmpty = true := by
        rw [PauseReasons.isEmpty, owner, safety]; rfl
      refine ⟨?_, State.frame_thaw_tells lifted track phase free⟩
      rw [tracks, track, Option.map_some, State.thawedBody, phase]
      dsimp only
      rw [if_pos free, State.runningAt_eq]
      rfl
    · have kept : ¬ ({ b.reasons with freeze := false } : PauseReasons).isEmpty = true := by
        rw [Bool.not_eq_true, PauseReasons.isEmpty_eq_false]
        exact held.imp id fun h => .inr h
      rw [tracks, track, Option.map_some, State.thawedBody, phase]
      dsimp only
      rw [if_neg kept]
    · rw [tracks, track, Option.map_some, State.thawedBody]
      cases phase : b.phase <;> simp_all [trackName]

end Sys2Proof.Machine

/-!
# The parts of a frame event: what each touches (05 R86, R103, 07 R121, 08 R146)
-/

namespace Sys2Proof.Machine

/-! ## The first part: the timer and the freeze record -/

theorem State.meetStart_range (s : State) : s.meetStart.range = s.range := by
  have posted : ∀ (v : State) k d, (v.postAud k d).range = v.range := fun v k d => by
    unfold State.postAud; split <;> rfl
  unfold State.meetStart
  rw [State.rangeEnd_eq, State.meetUnderrun_eq]
  split_ifs
  · rw [posted]; rfl
  · rw [posted]; rfl
  · rfl
  · rfl

theorem State.clockThaw_range (s : State) : s.clockThaw.range = s.range := by
  have set : ∀ (u : State) c, (u.setClock c).range = u.range := fun _ _ => rfl
  unfold State.clockThaw
  dsimp only
  split
  · rw [State.meetStart_range, set]
  · rw [set]

theorem OnlyTracks.now_eq {s t : State} (h : OnlyTracks s t) : t.now = s.now := by
  unfold OnlyTracks at h; rw [h]

theorem State.changeFreeze_range (s : State) : s.changeFreeze.range = s.range := by
  have set : ∀ (u : State) c, (u.setClock c).range = u.range := fun _ _ => rfl
  rcases freeze : s.safety.freeze with _ | f | f | f
  · rw [State.changeFreeze_none (f := .a) (.inl freeze)]
  · rw [State.changeFreeze_requested freeze, set, ((s.freezeTold f).eachTrack_only State.freezeTrack_only).range_eq]
    rfl
  · rw [State.changeFreeze_none (.inr freeze)]
  · rw [State.changeFreeze_thaw freeze, State.clockThaw_range, ((s.thawTold f).eachTrack_only State.thawTrack_only).range_eq]
    rfl

/-- What the first part of a frame event leaves alone. -/
theorem State.frameBegun_stands (s : State) : s.frameBegun.now = s.now ∧ s.frameBegun.range = s.range
    ∧ s.frameBegun.nodes = s.nodes ∧ s.frameBegun.shaper = { s.shaper with frameDue := s.now + s.config.global.framePeriod } := by
  have range := s.reloadFrame.changeFreeze_range
  have only := s.reloadFrame.changeFreeze_only
  have now : s.frameBegun.now = s.reloadFrame.now := by unfold OnlySafety at only; rw [State.frameBegun, only]
  have shaper : s.frameBegun.shaper = s.reloadFrame.shaper := by unfold OnlySafety at only; rw [State.frameBegun, only]
  exact ⟨now, range, s.frameBegun_link.nodes, shaper⟩

/-- The freeze apart, the Supervisor's record is as the frame event found it. -/
theorem State.frameBegun_safety (s : State) :
    s.frameBegun.safety = { s.safety with freeze := s.frameBegun.safety.freeze } := by
  have changed := s.reloadFrame.changeFreeze_safety
  have same : s.reloadFrame.safety = s.safety := rfl
  rw [same] at changed
  rw [State.frameBegun, changed]
  cases s.safety.freeze <;> rfl

/-! ## The Directory (R94, R110) -/

theorem State.commitHeights_entry (s : State) (ch : Fin 177) : s.commitHeights.entry ch =
    if ch.val < 128 ∧ (s.heightToCommit ch).isSome = true then { s.entry ch with slot := none } else s.entry ch :=
  Table.get_build _ ch

theorem State.mix_entry (s : State) (ch : Fin 177) : s.mix.entry ch =
    if 128 ≤ ch.val ∧ ch.val < 176 ∧ (s.colourToCommit ch).isSome = true then { s.entry ch with slot := none } else s.entry ch :=
  Table.get_build _ ch

theorem State.shape_directory (s : State) : s.shape.directory = s.commitHeights.directory := by
  rw [State.shape_eq, State.settleRest_directory, (State.tellHeaders_only _ _).directory_eq, State.slewed_directory]

theorem State.mixBegun_directory (s : State) : s.mixBegun.directory = s.frameBegun.commitHeights.directory :=
  s.mixBegun_settled.directory.trans (State.shape_directory _)

theorem State.frame_directory (s : State) : s.frame.directory = s.mixBegun.mix.directory :=
  (State.giveSweep_only s.mixBegun.mix).directory_eq

/-- A jet's entry after the frame event: its slot emptied where its height was taken. -/
theorem State.frame_entry_jet (s : State) {ch : Fin 177} (jet : ch.val < 128) : s.frame.entry ch =
    if (s.frameBegun.heightToCommit ch).isSome = true then { s.entry ch with slot := none } else s.entry ch := by
  rw [State.entry_of_directory s.frame_directory, State.mix_entry, if_neg (by omega),
    State.entry_of_directory s.mixBegun_directory, State.commitHeights_entry, s.frameBegun_entry]
  simp only [jet, true_and]

theorem State.mixBegun_entry (s : State) {ch : Fin 177} (later : 128 ≤ ch.val) : s.mixBegun.entry ch = s.entry ch := by
  rw [State.entry_of_directory s.mixBegun_directory, State.commitHeights_entry, s.frameBegun_entry, if_neg (by omega)]

/-- A fixture's entry after the frame event: its slot emptied where its colour was taken. -/
theorem State.frame_entry_fixture (s : State) {ch : Fin 177} (later : 128 ≤ ch.val) (fixture : ch.val < 176) : s.frame.entry ch =
    if (s.mixBegun.colourToCommit ch).isSome = true then { s.entry ch with slot := none } else s.entry ch := by
  rw [State.entry_of_directory s.frame_directory, State.mix_entry, s.mixBegun_entry later]
  simp only [later, fixture, true_and]

theorem State.frame_entry_aud (s : State) : s.frame.entry audChannel = s.entry audChannel := by
  rw [State.entry_of_directory s.frame_directory, State.mix_entry, if_neg fun h => absurd h.2.1 (by decide), s.mixBegun_entry (by decide)]

theorem State.frame_entry (s : State) (ch : Fin 177) :
    s.frame.entry ch = ⟨(s.entry ch).hold, (s.entry ch).watchers, (s.frame.entry ch).slot⟩ := by
  by_cases jet : ch.val < 128
  · rw [s.frame_entry_jet jet]; split_ifs <;> rfl
  · by_cases fixture : ch.val < 176
    · rw [s.frame_entry_fixture (Nat.le_of_not_lt jet) fixture]; split_ifs <;> rfl
    · have aud : ch = audChannel := Fin.ext (by have := ch.isLt; have last : audChannel.val = 176 := rfl; omega)
      rw [aud, s.frame_entry_aud]

theorem State.frame_queue (s : State) : s.frame.directory.waiters = s.directory.waiters
    ∧ s.frame.directory.arrivals = s.directory.arrivals := by
  have committed : ∀ u : State, u.commitHeights.directory.waiters = u.directory.waiters
    ∧ u.commitHeights.directory.arrivals = u.directory.arrivals := fun _ => ⟨rfl, rfl⟩
  have mixed : ∀ u : State, u.mix.directory.waiters = u.directory.waiters
    ∧ u.mix.directory.arrivals = u.directory.arrivals := fun _ => ⟨rfl, rfl⟩
  rw [s.frame_directory, (mixed _).1, (mixed _).2, s.mixBegun_directory, (committed _).1, (committed _).2, s.frameBegun_directory]
  exact ⟨rfl, rfl⟩

/-! ## The rest of the state -/

theorem OnlyShaper.stands {s t : State} (h : OnlyShaper s t) : t.now = s.now ∧ t.range = s.range := by
  unfold OnlyShaper at h; rw [h]; exact ⟨rfl, rfl⟩

theorem OnlyMixer.stands {s t : State} (h : OnlyMixer s t) : t.now = s.now ∧ t.range = s.range := by
  unfold OnlyMixer at h; rw [h]; exact ⟨rfl, rfl⟩

theorem OnlySweep.stands {s t : State} (h : OnlySweep s t) : t.now = s.now ∧ t.range = s.range := by
  unfold OnlySweep at h; rw [h]; exact ⟨rfl, rfl⟩

theorem State.mixBegun_stands (s : State) : s.mixBegun.now = s.now ∧ s.mixBegun.range = s.range := by
  have evaluated : ∀ u : State, u.evalIdle.now = u.now ∧ u.evalIdle.range = u.range := fun u => by
    rw [State.evalIdle_only]; exact ⟨rfl, rfl⟩
  have settled : ∀ u : State, u.reachStopped.now = u.now ∧ u.reachStopped.range = u.range := fun u => by
    unfold State.reachStopped; split_ifs <;> exact ⟨rfl, rfl⟩
  obtain ⟨now, range⟩ := (State.shape_only s.frameBegun).stands
  obtain ⟨begun, operation, -⟩ := s.frameBegun_stands
  rw [State.mixBegun, (settled _).1, (settled _).2, (evaluated _).1, (evaluated _).2, now, range]
  exact ⟨begun, operation⟩

theorem State.frame_stands (s : State) : s.frame.now = s.now ∧ s.frame.range = s.range := by
  obtain ⟨now, range⟩ := (State.giveSweep_only s.mixBegun.mix).stands
  obtain ⟨mixed, kept⟩ := (State.mix_only s.mixBegun).stands
  rw [State.frame_parts, now, range, mixed, kept]
  exact s.mixBegun_stands

theorem State.frame_hears (s : State) : Hears s s.frame :=
  KeptByPosting.frame (P := fun u => Hears s u) (fun _ _ heard before q => (before q).trans (heard q)) s fun _ => .refl _

theorem State.frame_shaper (s : State) : s.frame.shaper = { s.shaper with
    frameDue := s.now + s.config.global.framePeriod, outputsAtRest := s.frameBegun.shape.outputsRest
    pumpsAtRest := s.frameBegun.shape.pumpsRest, jetsStill := s.frameBegun.shape.jetsRest } := by
  obtain ⟨-, -, -, shaper⟩ := s.frameBegun_stands
  rw [s.frame_records.2.2.1, State.shape_shaper, shaper]

/-! ## The rest indications, and STOPPED (R103, 08 R146) -/

/-- The tables and the node records are the same before the Shaper's part and after it. -/
theorem State.shaped_link (s : State) : SameLink s s.frameBegun.shape := s.frameBegun_link.trans (State.shape_only _).link

theorem State.frame_outputsAtRest (s : State) : s.frame.shaper.outputsAtRest = true ↔ (∀ j : Fin 128, (s.frame.jets.get j).valve = 0)
    ∧ ∀ h : Fin 16, (s.config.headers.get h).enabled = true → (s.frame.headers.get h).commanded = 0 := by
  rw [s.frame_shaper, s.frame_records.1, s.frame_records.2.1]
  dsimp only
  rw [State.outputsRest_iff, s.shaped_link.config]
  rfl

theorem State.frame_pumpsAtRest (s : State) : s.frame.shaper.pumpsAtRest = true ↔ ∀ h : Fin 16,
    (s.config.headers.get h).enabled = true →
      (s.frame.headers.get h).actual = 0 ∨ (s.node (s.config.headers.get h).driveNode).state ≠ .online := by
  have node : ∀ n, s.frameBegun.shape.node n = s.node n := s.shaped_link.node
  rw [s.frame_shaper, s.frame_records.2.1]
  dsimp only
  rw [State.pumpsRest_iff, s.shaped_link.config]
  simp only [node]

theorem State.frame_safety_eq (s : State) : s.frame.safety = { s.safety with
    state := if s.safety.state = .stopping ∧ s.frame.shaper.atRest = true then .stopped else s.safety.state
    freeze := s.frame.safety.freeze } := by
  have record := s.frameBegun_safety
  have shaper := s.frame_records.2.2.1
  rw [s.frame_freeze, s.frame_safety_parts, State.mixBegun_safety, shaper]
  split_ifs
  · rw [record]
  · exact record

theorem State.reachStopped_tells {s : State} (stopping : s.safety.state = .stopping) (rest : s.shaper.atRest = true) (p : Port) :
    s.reachStopped.told p ⟨.safetyState, 255, 5, s.clock.value, .none⟩ := by
  rw [State.reachStopped, if_pos ⟨stopping, rest⟩]
  exact State.postAll_told (s.setSafety { s.safety with state := .stopped }) p .safetyState 255 5

/-- The frame event that finds both indications tells STOPPED. -/
theorem State.frame_tells_stopped {s : State} (stopping : s.safety.state = .stopping) (rest : s.frame.shaper.atRest = true)
    (p : Port) : s.frame.told p ⟨.safetyState, 255, 5, s.frame.clock.value, .none⟩ := by
  have settled := State.evalIdle_settled s.frameBegun.shape
  have shaper : s.frameBegun.shape.evalIdle.shaper = s.frame.shaper := settled.shaper.trans s.frame_records.2.2.1.symm
  have state : s.frameBegun.shape.evalIdle.safety.state = .stopping := by
    rw [State.evalIdle_safety, (State.shape_only _).safety_eq, s.frameBegun_state]; exact stopping
  have clock : s.frameBegun.shape.evalIdle.clock = s.frame.clock := by
    rw [settled.clock, (State.shape_only _).clock_eq]; exact s.frame_clock.symm
  have told := State.reachStopped_tells state (by rw [shaper]; exact rest) p
  have mixed : ∀ u : State, u.mix.ports = u.ports := fun _ => rfl
  have after := (told_kept p _).elsewhere s.mixBegun s.mixBegun.mix (mixed _) told
  have swept := (told_kept p _).field.sweep s.mixBegun.mix s.mixBegun.mix.giveSweep (State.giveSweep_only _) after
  rw [clock, ← State.frame_parts] at swept
  exact swept

/-! ## The sweep of a frame event that finds one running (07 R121) -/

theorem State.giveSweep_running {s : State} {r : RunningSweep} (running : s.sweep.running = some r) : s.giveSweep =
    s.setSweep (if s.sweep.pending then { s.sweep with overrun := true } else { s.sweep with pending := true }) := by
  rw [State.giveSweep, running]
  dsimp only
  split_ifs <;> rfl

theorem State.frame_sweep_running {s : State} {r : RunningSweep} (running : s.sweep.running = some r) : s.frame.nodes = s.nodes
    ∧ s.frame.sweep = if s.sweep.pending then { s.sweep with overrun := true } else { s.sweep with pending := true } := by
  have link := s.mixed_link
  have nodes : ∀ (u : State) w, (u.setSweep w).nodes = u.nodes := fun _ _ => rfl
  have given := State.giveSweep_running (s := s.mixBegun.mix) (r := r) (by rw [link.sweep]; exact running)
  rw [State.frame_parts, given, State.setSweep_sweep, nodes, link.sweep, link.nodes]
  exact ⟨rfl, rfl⟩

/-- Settles O33: each clause by the part of the frame event it speaks of. -/
theorem frameEventTouchesOwnParts : Obligations.FrameEventTouchesOwnParts := by
  unfold Obligations.FrameEventTouchesOwnParts
  intro s p ch r
  refine ⟨fun early => ?_, fun due => ?_⟩
  · rw [exec_frameEvent, State.frameEvent, if_neg (Nat.not_le.mpr early)]
  · have fixed := s.frame_fixed
    have record := s.frame_safety_eq
    obtain ⟨now, range⟩ := s.frame_stands
    refine ⟨s.frame, by rw [exec_frameEvent, State.frameEvent_due due], by rw [s.frame_shaper],
      ⟨now, s.frame_pending, range, fixed.cues, fixed.config, fixed.image⟩, ⟨fixed.mode, fixed.saving, fixed.outcome⟩,
      s.frame_queue, s.frame_entry ch, fun aud => by rw [aud, s.frame_entry_aud],
      ⟨(s.frame_hears p).state, (s.frame_hears p).error, (s.frame_hears p).resetHeld⟩, ?_, s.frame_outputsAtRest,
      s.frame_pumpsAtRest, fun calm => ?_, fun stopping => ⟨fun outputs pumps => ⟨?_, ?_⟩, fun moving => ?_⟩,
      State.frame_sweep_running⟩
    · rw [record]
    · rw [record]
      exact if_neg fun h => calm h.1
    · rw [record]
      exact if_pos ⟨stopping, by rw [Shaper.atRest, outputs, pumps]; rfl⟩
    · exact State.frame_tells_stopped stopping (by rw [Shaper.atRest, outputs, pumps]; rfl) p
    · rw [record]
      refine (if_neg fun h => ?_).trans stopping
      rw [Shaper.atRest, Bool.and_eq_true] at h
      exact moving.elim (fun e => Bool.false_ne_true (e.symm.trans h.2.1)) fun e => Bool.false_ne_true (e.symm.trans h.2.2)

end Sys2Proof.Machine

/-!
# The jets at a frame event (05 R94 to R96, R99, R101, R102)
-/

namespace Sys2Proof.Machine

/-! ## The functions of the computation -/

theorem slew_eq (v goal up down : Nat) : slew v goal up down = movedToward v goal up down := by
  unfold slew movedToward
  split_ifs <;> omega

theorem curvePoint_castSucc (curve : Table Nat 9) (k : Fin 8) : curvePoint curve k.val = curve.get k.castSucc := by
  rw [curvePoint]
  congr 1
  exact Fin.ext (Nat.mod_eq_of_lt (by omega))

theorem curvePoint_succ (curve : Table Nat 9) (k : Fin 8) : curvePoint curve (k.val + 1) = curve.get k.succ := by
  rw [curvePoint]
  congr 1
  exact Fin.ext (Nat.mod_eq_of_lt (by omega))

theorem curvePoint_last (curve : Table Nat 9) : curvePoint curve 8 = curve.get 8 := rfl

/-- The last point of a curve, at the greatest height (R96). -/
theorem interpolate_full (curve : Table Nat 9) {hMax : Nat} (pos : 0 < hMax) : interpolate curve hMax hMax = curve.get 8 := by
  have eight : hMax * 8 / hMax = 8 := Nat.mul_div_cancel_left 8 pos
  unfold interpolate
  dsimp only
  rw [if_neg pos.ne', eight]
  rfl

/-- A straight line between two points of a curve (R96). -/
theorem interpolate_between (curve : Table Nat 9) {hMax t : Nat} (k : Fin 8) (pos : 0 < t) (low : k.val * hMax ≤ t * 8)
    (high : t * 8 < (k.val + 1) * hMax) : interpolate curve hMax t = curve.get k.castSucc
      + (curve.get k.succ - curve.get k.castSucc) * (t * 8 - k.val * hMax) / hMax := by
  have point : t * 8 / hMax = k.val := Nat.div_eq_of_lt_le low high
  unfold interpolate
  dsimp only
  rw [if_neg pos.ne', point, if_neg (Nat.not_le.mpr k.isLt), curvePoint_castSucc, curvePoint_succ]

/-! ## The state the Shaper's part computes from -/

section Begun

variable (s : State)

theorem State.frameBegun_frozen : s.frameBegun.frozen = s.frame.frozen := by
  rw [State.frozen, State.frozen, s.frame_freeze]

theorem State.frameBegun_heightToCommit (ch : Fin 177) : s.frameBegun.heightToCommit ch =
    if s.unit.mode = .live ∧ s.frame.frozen = false ∧ (s.entry ch).hold ≠ .safed then
      match (s.entry ch).slot with
      | some (.height cm) => some cm
      | some (.colour _ _) => none
      | some (.gain _) => none
      | none => none
    else none := by
  unfold State.heightToCommit
  rw [s.frameBegun_outside.1, s.frameBegun_frozen, s.frameBegun_entry] <;> rfl

theorem State.frameBegun_committedHeight (j : Fin 128) : s.frameBegun.committedHeight j =
    if (s.entry (jetChannel j)).hold = .safed then 0
    else (s.frameBegun.heightToCommit (jetChannel j)).getD (s.jets.get j).commanded := by
  rw [State.committedHeight, s.frameBegun_entry, s.frameBegun_outside.2.2.1]

/-- A jet's target at the frame event (R95). -/
theorem State.frameBegun_jetTarget (j : Fin 128) : s.frameBegun.commitHeights.jetTarget j =
    if (s.safety.wind = .windStop ∧ 0 < (s.config.jets.get j).exposure) ∨ (s.entry (jetChannel j)).hold = .safed then 0
    else min (if s.unit.mode = .live then s.frameBegun.committedHeight j else 0)
      (windHeight (s.config.jets.get j).hMax (windDerate (s.config.jets.get j).exposure s.safety.gust s.config.global.wCalm)) := by
  have safety : s.frameBegun.commitHeights.safety = s.frameBegun.safety := rfl
  have config : s.frameBegun.commitHeights.config = s.frameBegun.config := rfl
  have unit : s.frameBegun.commitHeights.unit = s.frameBegun.unit := rfl
  have wind : s.frameBegun.safety.wind = s.safety.wind := by rw [s.frameBegun_safety]
  have gust : s.frameBegun.safety.gust = s.safety.gust := by rw [s.frameBegun_safety]
  obtain ⟨mode, tables, -⟩ := s.frameBegun_outside
  unfold State.jetTarget State.effectiveHeight
  dsimp only
  rw [safety, config, unit, wind, gust, mode, tables, (s.frameBegun.commitHeights_restaged.2 _).1, s.frameBegun_entry,
    State.commitHeights_jet]

end Begun

/-! ## The jet's record after the frame event -/

/-- The state in which the valves are slewed. -/
def State.computed (s : State) : State := s.frameBegun.shaping.computeHeaders

theorem State.computed_outside (s : State) : s.computed.config = s.config ∧ s.computed.jets = s.frameBegun.shaping.jets := by
  have config : s.computed.config = s.frameBegun.config := rfl
  rw [config, s.frameBegun_outside.2.1]
  exact ⟨rfl, rfl⟩

theorem State.computed_scale (s : State) (h : Fin 16) : s.computed.headers.get h = s.frame.headers.get h := by
  rw [s.frame_header, State.shape_header]
  exact State.computeHeaders_header _ h

theorem State.frame_jet_slewed (s : State) (j : Fin 128) : s.frame.jets.get j = s.computed.slewedJet j := by
  rw [s.frame_jet, State.shape_jet]
  rfl

theorem State.computed_jet (s : State) (j : Fin 128) : s.computed.jets.get j = s.frameBegun.commitHeights.shapedJet j := by
  rw [s.computed_outside.2, State.shaping_jet]

section Jet

variable (s : State) (j : Fin 128)

theorem State.shapedJet_disabled (off : (s.config.jets.get j).enabled = false) :
    s.shapedJet j = { s.jets.get j with target := 0, opening := 0, flow := 0 } := by
  unfold State.shapedJet
  dsimp only
  rw [off]
  rfl

theorem State.shapedJet_enabled (on : (s.config.jets.get j).enabled = true) : s.shapedJet j = { s.jets.get j with
    target := s.jetTarget j
    opening := interpolate (s.config.jets.get j).openings (s.config.jets.get j).hMax (s.jetTarget j)
    flow := interpolate (s.config.jets.get j).flows (s.config.jets.get j).hMax (s.jetTarget j) } := if_pos on

theorem State.shapedJet_commanded : (s.shapedJet j).commanded = (s.jets.get j).commanded := by
  cases on : (s.config.jets.get j).enabled
  · rw [State.shapedJet_disabled s j on]
  · rw [State.shapedJet_enabled s j on]

theorem State.slewedJet_disabled (off : (s.config.jets.get j).enabled = false) :
    s.slewedJet j = { s.jets.get j with scaled := 0, granted := 0, valve := 0, follow := 0 } := by
  unfold State.slewedJet
  dsimp only
  rw [off]
  rfl

theorem State.slewedJet_shaped : (s.slewedJet j).commanded = (s.jets.get j).commanded ∧ (s.slewedJet j).target = (s.jets.get j).target
    ∧ (s.slewedJet j).opening = (s.jets.get j).opening ∧ (s.slewedJet j).flow = (s.jets.get j).flow := by
  unfold State.slewedJet
  dsimp only
  split <;> exact ⟨rfl, rfl, rfl, rfl⟩

theorem State.slewedJet_enabled (on : (s.config.jets.get j).enabled = true) :
    (s.slewedJet j).scaled = (s.slewedJet j).opening * (s.headers.get (s.config.jets.get j).header).scale / 4096
    ∧ (s.slewedJet j).granted = (s.slewedJet j).flow * (s.headers.get (s.config.jets.get j).header).scale / 4096
    ∧ (s.slewedJet j).valve = movedToward (s.jets.get j).valve (s.slewedJet j).scaled (s.config.jets.get j).up
      (s.config.jets.get j).down
    ∧ (0 < (s.config.jets.get j).openings.get 8 → (s.slewedJet j).follow
      = min ((s.slewedJet j).valve * 256 / (s.config.jets.get j).openings.get 8) 256) := by
  obtain ⟨-, -, opening, flow⟩ := s.slewedJet_shaped j
  rw [opening, flow]
  unfold State.slewedJet
  dsimp only
  rw [if_pos on]
  refine ⟨rfl, rfl, slew_eq _ _ _ _, fun pos => ?_⟩
  dsimp only
  rw [followLevel, curvePoint_last, if_neg pos.ne']

end Jet

section Frame

variable (s : State) (j : Fin 128)

theorem State.frame_jet_shaped : (s.frame.jets.get j).commanded = s.frameBegun.committedHeight j
    ∧ (s.frame.jets.get j).target = (s.frameBegun.commitHeights.shapedJet j).target
    ∧ (s.frame.jets.get j).opening = (s.frameBegun.commitHeights.shapedJet j).opening
    ∧ (s.frame.jets.get j).flow = (s.frameBegun.commitHeights.shapedJet j).flow := by
  obtain ⟨commanded, target, opening, flow⟩ := s.computed.slewedJet_shaped j
  rw [s.frame_jet_slewed, commanded, target, opening, flow, s.computed_jet]
  refine ⟨?_, rfl, rfl, rfl⟩
  rw [State.shapedJet_commanded, State.commitHeights_jet]

theorem State.commitHeights_config : s.frameBegun.commitHeights.config = s.config := s.frameBegun_outside.2.1

theorem State.frame_jet_disabled (off : (s.config.jets.get j).enabled = false) :
    s.frame.jets.get j = ⟨(s.frame.jets.get j).commanded, 0, 0, 0, 0, 0, 0, 0⟩ := by
  obtain ⟨commanded, -⟩ := s.frame_jet_shaped j
  rw [commanded, s.frame_jet_slewed, State.slewedJet_disabled _ j (by rw [s.computed_outside.1]; exact off), s.computed_jet,
    State.shapedJet_disabled _ j (by rw [s.commitHeights_config]; exact off), State.commitHeights_jet]

theorem State.frame_jet_enabled (on : (s.config.jets.get j).enabled = true) :
    (s.frame.jets.get j).target = s.frameBegun.commitHeights.jetTarget j
    ∧ (s.frame.jets.get j).opening =
      interpolate (s.config.jets.get j).openings (s.config.jets.get j).hMax (s.frame.jets.get j).target
    ∧ (s.frame.jets.get j).flow =
      interpolate (s.config.jets.get j).flows (s.config.jets.get j).hMax (s.frame.jets.get j).target := by
  obtain ⟨-, target, opening, flow⟩ := s.frame_jet_shaped j
  rw [target, opening, flow, State.shapedJet_enabled _ j (by rw [s.commitHeights_config]; exact on), s.commitHeights_config]
  exact ⟨rfl, rfl, rfl⟩

theorem State.frame_jet_valve (on : (s.config.jets.get j).enabled = true) :
    (s.frame.jets.get j).scaled = (s.frame.jets.get j).opening * (s.frame.headers.get (s.config.jets.get j).header).scale / 4096
    ∧ (s.frame.jets.get j).granted = (s.frame.jets.get j).flow * (s.frame.headers.get (s.config.jets.get j).header).scale / 4096
    ∧ (s.frame.jets.get j).valve = movedToward (s.jets.get j).valve (s.frame.jets.get j).scaled (s.config.jets.get j).up
      (s.config.jets.get j).down
    ∧ (0 < (s.config.jets.get j).openings.get 8 → (s.frame.jets.get j).follow
      = min ((s.frame.jets.get j).valve * 256 / (s.config.jets.get j).openings.get 8) 256) := by
  have before : (s.computed.jets.get j).valve = (s.jets.get j).valve := by
    rw [s.computed_outside.2, State.shaping_valve, s.frameBegun_outside.2.2.1]
  have slewed := s.computed.slewedJet_enabled j (by rw [s.computed_outside.1]; exact on)
  rw [s.computed_outside.1, s.computed_scale, before, ← s.frame_jet_slewed] at slewed
  exact slewed

/-! ## The commit (R94) -/

theorem State.frame_commanded_safed (safed : (s.entry (jetChannel j)).hold = .safed) : (s.frame.jets.get j).commanded = 0 := by
  rw [(s.frame_jet_shaped j).1, s.frameBegun_committedHeight, if_pos safed]

variable {s j} (free : (s.entry (jetChannel j)).hold ≠ .safed)
include free

theorem State.frame_commit_taken (live : s.unit.mode = .live) (thawed : s.frame.frozen = false) {cm : Nat}
    (slot : (s.entry (jetChannel j)).slot = some (.height cm)) :
    (s.frame.jets.get j).commanded = cm ∧ (s.frame.entry (jetChannel j)).slot = none := by
  have taken : s.frameBegun.heightToCommit (jetChannel j) = some cm := by
    rw [s.frameBegun_heightToCommit, if_pos ⟨live, thawed, free⟩, slot]
  refine ⟨?_, ?_⟩
  · rw [(s.frame_jet_shaped j).1, s.frameBegun_committedHeight, if_neg free, taken]; rfl
  · rw [s.frame_entry_jet (ch := jetChannel j) j.isLt, taken]; rfl

theorem State.frame_commit_none (calm : s.unit.mode ≠ .live ∨ s.frame.frozen = true ∨ (s.entry (jetChannel j)).slot = none) :
    (s.frame.jets.get j).commanded = (s.jets.get j).commanded ∧ s.frame.entry (jetChannel j) = s.entry (jetChannel j) := by
  have kept : s.frameBegun.heightToCommit (jetChannel j) = none := by
    rw [s.frameBegun_heightToCommit]
    split_ifs with open_
    · obtain ⟨live, thawed, -⟩ := open_
      rw [(calm.resolve_left (not_not.mpr live)).resolve_left (by rw [thawed]; decide)]
    · rfl
  refine ⟨?_, ?_⟩
  · rw [(s.frame_jet_shaped j).1, s.frameBegun_committedHeight, if_neg free, kept]; rfl
  · rw [s.frame_entry_jet (ch := jetChannel j) j.isLt, kept]; rfl

end Frame

/-- Settles O34: the commit, then the target, the curve, and the valve of an enabled jet. -/
theorem frameEventJets : Obligations.FrameEventJets := by
  unfold Obligations.FrameEventJets
  intro s j cm due
  refine ⟨s.frame, by rw [exec_frameEvent, State.frameEvent_due due], s.frame_commanded_safed j,
    fun free => ⟨fun live thawed slot => State.frame_commit_taken free live thawed slot, State.frame_commit_none free⟩, s.frame_jet_disabled j, fun on => ?_⟩
  obtain ⟨target, opening, flow⟩ := s.frame_jet_enabled j on
  have goal := s.frameBegun_jetTarget j
  rw [← target] at goal
  refine ⟨fun closed => ?_, fun free calm live => ?_, fun zero => ?_, fun pos full => ?_, fun k pos low high => ?_,
    s.frame_jet_valve j on⟩
  · rw [goal]
    split_ifs with shut live
    · rfl
    · rcases closed with safed | wind | mode
      · exact absurd (.inr safed) shut
      · exact absurd (.inl wind) shut
      · exact absurd live mode
    · exact Nat.zero_min _
  · have open_ : ¬ ((s.safety.wind = .windStop ∧ 0 < (s.config.jets.get j).exposure)
        ∨ (s.entry (jetChannel j)).hold = .safed) := fun h =>
      h.elim (fun w => calm.elim (· w.1) fun none => absurd w.2 (by rw [none]; exact lt_irrefl 0)) free
    rw [goal, if_neg open_, if_pos live, (s.frame_jet_shaped j).1]
    rfl
  · rw [opening, flow, zero, interpolate_zero, interpolate_zero]
    exact ⟨rfl, rfl⟩
  · have most : 0 < (s.config.jets.get j).hMax := full ▸ pos
    rw [opening, flow, full, interpolate_full _ most, interpolate_full _ most]
    exact ⟨rfl, rfl⟩
  · rw [opening, flow]
    exact ⟨interpolate_between _ k pos low high, interpolate_between _ k pos low high⟩

end Sys2Proof.Machine

/-!
# The headers and the fixtures at a frame event (05 R97 to R100, 06 R110 to R113)
-/

namespace Sys2Proof.Machine

/-! ## Sums over a header's jets -/

theorem sum_scaled_le {α : Type} (l : List α) (f : α → Nat) (g : Nat) :
    (l.map fun x => f x * g / 4096).sum ≤ (l.map f).sum * g / 4096 := by
  induction l with
  | nil => exact Nat.zero_le _
  | cons x rest ih =>
    rw [List.map_cons, List.map_cons, List.sum_cons, List.sum_cons, Nat.add_mul]
    exact (Nat.add_le_add_left ih _).trans (Nat.div_add_div_le_add_div)

/-- What a scale grants of a demand lies within the available flow (R99). -/
theorem flowScale_le (demand available : Nat) : demand * flowScale demand available / 4096 ≤ available := by
  unfold flowScale
  split_ifs with short
  · refine Nat.div_le_of_le_mul ?_
    rw [Nat.mul_comm 4096 available]
    exact Nat.mul_div_le _ _
  · rw [Nat.mul_div_cancel _ (by decide : 0 < 4096)]
    exact Nat.le_of_not_lt short

theorem flowScale_eq (demand available : Nat) :
    flowScale demand available = if available < demand then available * 4096 / demand else 4096 := rfl

/-! ## The header's record -/

section Header

variable (s : State) (h : Fin 16)

theorem State.frame_flow (j : Fin 128) : (s.frame.jets.get j).flow = (s.frameBegun.shaping.jets.get j).flow := by
  rw [(s.frame_jet_shaped j).2.2.2, State.shaping_jet]

theorem State.shaping_config : s.frameBegun.shaping.config = s.config := s.frameBegun_outside.2.1

theorem State.shaping_node (n : Fin 32) : s.frameBegun.shaping.node n = s.node n := s.frameBegun_link.node n

theorem State.frame_jetsOf : s.frameBegun.shaping.jetsOf h = (Table.indices 128).filter fun j =>
    (s.config.jets.get j).enabled && (s.config.jets.get j).header == h := by
  rw [State.jetsOf, s.shaping_config]

theorem State.frame_header_computed : s.frame.headers.get h = s.frameBegun.shaping.computedHeader h := by
  rw [s.frame_header, State.shape_header]

theorem State.computedHeader_enabled (on : (s.config.headers.get h).enabled = true) :
    (s.computedHeader h).demand = s.headerDemand h
    ∧ (s.computedHeader h).target = s.pumpTarget h (s.computedHeader h).demand
    ∧ (s.computedHeader h).commanded = slew (s.headers.get h).commanded (s.computedHeader h).target
      (s.config.headers.get h).rampUp (s.config.headers.get h).rampDown
    ∧ (s.computedHeader h).actual = s.actualSpeed h
    ∧ (s.computedHeader h).available = (s.config.headers.get h).qMax * (s.computedHeader h).actual / 1000
    ∧ (s.computedHeader h).scale = flowScale (s.computedHeader h).demand (s.computedHeader h).available
    ∧ (s.computedHeader h).granted = ((s.jetsOf h).map fun j => (s.jets.get j).flow * (s.computedHeader h).scale / 4096).sum
    ∧ (s.computedHeader h).state = headerStateOf (s.driveOnline h) (s.computedHeader h).scale := by
  unfold State.computedHeader
  dsimp only
  rw [if_pos on]
  exact ⟨rfl, rfl, rfl, rfl, rfl, rfl, rfl, rfl⟩

theorem State.computedHeader_disabled (off : (s.config.headers.get h).enabled = false) : s.computedHeader h = s.headers.get h := by
  unfold State.computedHeader
  dsimp only
  rw [off]
  rfl

/-- The granted flow never exceeds the available flow (R99). -/
theorem State.computedHeader_granted_le (on : (s.config.headers.get h).enabled = true) :
    (s.computedHeader h).granted ≤ (s.computedHeader h).available := by
  obtain ⟨demand, -, -, -, -, scale, granted, -⟩ := s.computedHeader_enabled h on
  rw [granted]
  refine (sum_scaled_le _ _ _).trans ?_
  have total : ((s.jetsOf h).map fun j => (s.jets.get j).flow).sum = (s.computedHeader h).demand := demand.symm
  rw [total, scale]
  exact flowScale_le _ _

/-! ## The drive (R97, R98, R100) -/

theorem State.driveOnline_eq : s.driveOnline h = decide ((s.node (s.config.headers.get h).driveNode).state = .online) := by
  rw [State.driveOnline]
  exact Bool.beq_eq_decide_eq _ _

theorem State.frame_driveOnline : s.frameBegun.shaping.driveOnline h =
    decide ((s.node (s.config.headers.get h).driveNode).state = .online) := by
  rw [State.driveOnline_eq, s.shaping_config, s.shaping_node]

theorem State.frame_pumpTarget (demand : Nat) : s.frameBegun.shaping.pumpTarget h demand =
    if s.safety.state ≠ .normal ∨ (s.node (s.config.headers.get h).driveNode).state ≠ .online ∨ demand = 0 then 0
    else min (max ((demand * 1000 + (s.config.headers.get h).qMax - 1) / (s.config.headers.get h).qMax)
      (s.config.headers.get h).sMin) 1000 := by
  have state : s.frameBegun.shaping.safety.state = s.safety.state := s.frameBegun_state
  unfold State.pumpTarget
  dsimp only
  rw [state, s.frame_driveOnline, s.shaping_config]
  by_cases normal : s.safety.state = .normal
  · by_cases online : (s.node (s.config.headers.get h).driveNode).state = .online
    · by_cases dry : demand = 0
      · simp [normal, online, dry]
      · simp [normal, online, dry, ceilDiv]
    · simp [normal, online]
  · simp [normal]

theorem State.frame_actualSpeed : (s.node (s.config.headers.get h).driveNode).state ≠ .online →
    s.frameBegun.shaping.actualSpeed h = 0 := fun away => by
  unfold State.actualSpeed
  dsimp only
  rw [s.shaping_config, s.shaping_node, if_neg away]

theorem State.frame_actualSpeed_reported {fb : DriveFeedback}
    (online : (s.node (s.config.headers.get h).driveNode).state = .online)
    (reported : (s.node (s.config.headers.get h).driveNode).drive = some fb) :
    s.frameBegun.shaping.actualSpeed h = if fb.fault then 0 else min fb.speed 1000 := by
  unfold State.actualSpeed
  dsimp only
  rw [s.shaping_config, s.shaping_node, if_pos online, reported]

end Header

/-! ## HEADER_STATE (R100) -/

section Tell

theorem OnlyPorts.config_eq {s t : State} (h : OnlyPorts s t) : t.config = s.config := by
  unfold OnlyPorts at h; rw [h]

variable {s : State} {h : Fin 16} {j : Fin 128} {p : Port}

theorem State.holdersOf_get (mine : j ∈ s.jetsOf h) (holder : (s.entry (jetChannel j)).hold.holder = some p) :
    (s.holdersOf h).get p = true := by
  have held : ((s.jetsOf h).any fun j => (s.entry (jetChannel j)).hold.holder == some p) = true :=
    List.any_eq_true.mpr ⟨j, mine, by rw [holder]; exact beq_self_eq_true _⟩
  cases p <;> exact held

theorem State.tellHeader_tells {before : Table HeaderRecord 16} (on : (s.config.headers.get h).enabled = true)
    (change : (s.headers.get h).state ≠ (before.get h).state) (mine : j ∈ s.jetsOf h)
    (holder : (s.entry (jetChannel j)).hold.holder = some p) :
    (s.tellHeader before h).told p ⟨.headerState, h, headerCode (s.headers.get h).state, s.clock.value, .none⟩ := by
  rw [State.tellHeader, if_pos ⟨on, change⟩]
  exact State.postTo_told s (State.holdersOf_get mine holder) .headerState h (headerCode (s.headers.get h).state)

theorem State.tellHeaders_tells {before : Table HeaderRecord 16} (on : (s.config.headers.get h).enabled = true)
    (change : (s.headers.get h).state ≠ (before.get h).state) (mine : j ∈ s.jetsOf h)
    (holder : (s.entry (jetChannel j)).hold.holder = some p) :
    (s.tellHeaders before).told p ⟨.headerState, h, headerCode (s.headers.get h).state, s.clock.value, .none⟩ := by
  refine foldl_reaches (P := fun u => u.told p ⟨.headerState, h, headerCode (s.headers.get h).state, s.clock.value, .none⟩) (Q := fun u => u.headers = s.headers ∧ u.config = s.config
    ∧ u.directory = s.directory ∧ u.clock = s.clock) (fun u x told => ?_) (fun u x _ same => ?_) (fun u same => ?_)
    (Table.mem_indices h) ⟨rfl, rfl, rfl, rfl⟩
  · unfold State.tellHeader
    split
    · exact (told_kept p _).postTo u _ _ _ _ told
    · exact told
  · have only := u.tellHeader_only before x
    obtain ⟨headers, config, directory, clock⟩ := same
    obtain ⟨-, sameHeaders, -, sameDirectory⟩ := only.records
    exact ⟨sameHeaders.trans headers, only.config_eq.trans config, sameDirectory.trans directory, only.clock_eq.trans clock⟩
  · obtain ⟨headers, config, directory, clock⟩ := same
    have jets : u.jetsOf h = s.jetsOf h := by rw [State.jetsOf, State.jetsOf, config]
    have told := State.tellHeader_tells (s := u) (before := before) (h := h) (j := j) (p := p) (by rw [config]; exact on)
      (by rw [headers]; exact change) (by rw [jets]; exact mine) (by rw [State.entry_of_directory directory]; exact holder)
    rw [headers, clock] at told
    exact told

end Tell

section FrameTell

variable {s : State} {h : Fin 16} {j : Fin 128} {p : Port}

theorem State.frame_tells_header (on : (s.config.headers.get h).enabled = true)
    (change : (s.frame.headers.get h).state ≠ (s.headers.get h).state) (enabled : (s.config.jets.get j).enabled = true)
    (mine : (s.config.jets.get j).header = h) (holder : (s.entry (jetChannel j)).hold.holder = some p) :
    s.frame.told p ⟨.headerState, h, headerCode (s.frame.headers.get h).state, s.frame.clock.value, .none⟩ := by
  have config : s.frameBegun.slewed.config = s.config := s.frameBegun_outside.2.1
  have clock : s.frameBegun.slewed.clock = s.frame.clock := s.frame_clock.symm
  have record : s.frameBegun.slewed.headers.get h = s.frame.headers.get h := by
    rw [s.frame_header, State.shape_header]
    exact State.computeHeaders_header _ h
  have hold : (s.frameBegun.slewed.entry (jetChannel j)).hold = (s.entry (jetChannel j)).hold := by
    rw [State.entry_of_directory s.frameBegun.slewed_directory, (s.frameBegun.commitHeights_restaged.2 _).1, s.frameBegun_entry]
  have before : s.frameBegun.headers = s.headers := s.frameBegun_outside.2.2.2.1
  have told := State.tellHeaders_tells (s := s.frameBegun.slewed) (before := s.frameBegun.headers) (h := h) (j := j) (p := p)
    (by rw [config]; exact on) (by rw [record, before]; exact change)
    (by rw [State.jetsOf, config]; exact List.mem_filter.mpr ⟨Table.mem_indices j, by rw [enabled, mine]; exact beq_self_eq_true h⟩)
    (by rw [hold]; exact holder)
  rw [record, clock] at told
  have settled : ∀ u : State, u.settleRest.ports = u.ports := fun _ => rfl
  have rest := (told_kept p _).elsewhere _ _ (settled _) told
  rw [← State.shape_eq] at rest
  exact (told_kept p _).shape_after rest

end FrameTell

theorem headerCode_eq (state : HeaderState) : headerCode state = if state = .normal then 0 else if state = .saturated then 1 else 2 := by
  cases state <;> rfl

theorem headerStateOf_lost (scale : Nat) : headerStateOf false scale = .pumpLost := rfl

theorem headerStateOf_online (scale : Nat) : headerStateOf true scale = if scale < 4096 then .saturated else .normal := rfl

/-- The record of an enabled header after the frame event, by what the Shaper computed it from. -/
theorem State.frame_header_enabled (s : State) (h : Fin 16) (on : (s.config.headers.get h).enabled = true) :
    (s.frame.headers.get h).demand = (((Table.indices 128).filter fun j =>
      (s.config.jets.get j).enabled && (s.config.jets.get j).header == h).map fun j => (s.frame.jets.get j).flow).sum
    ∧ (s.frame.headers.get h).target = s.frameBegun.shaping.pumpTarget h (s.frame.headers.get h).demand
    ∧ (s.frame.headers.get h).commanded = movedToward (s.headers.get h).commanded (s.frame.headers.get h).target
      (s.config.headers.get h).rampUp (s.config.headers.get h).rampDown
    ∧ (s.frame.headers.get h).actual = s.frameBegun.shaping.actualSpeed h
    ∧ (s.frame.headers.get h).available = (s.config.headers.get h).qMax * (s.frame.headers.get h).actual / 1000
    ∧ (s.frame.headers.get h).scale = flowScale (s.frame.headers.get h).demand (s.frame.headers.get h).available
    ∧ (s.frame.headers.get h).granted = (((Table.indices 128).filter fun j =>
      (s.config.jets.get j).enabled && (s.config.jets.get j).header == h).map fun j =>
        (s.frame.jets.get j).flow * (s.frame.headers.get h).scale / 4096).sum
    ∧ (s.frame.headers.get h).state = headerStateOf
      (decide ((s.node (s.config.headers.get h).driveNode).state = .online)) (s.frame.headers.get h).scale := by
  have before : s.frameBegun.shaping.headers = s.headers := s.frameBegun_outside.2.2.2.1
  have flows : ∀ j, (s.frameBegun.shaping.jets.get j).flow = (s.frame.jets.get j).flow := fun j => (s.frame_flow j).symm
  have computed := s.frameBegun.shaping.computedHeader_enabled h (by rw [s.shaping_config]; exact on)
  rw [← s.frame_header_computed, State.headerDemand, s.frame_jetsOf, s.shaping_config, s.frame_driveOnline, before, slew_eq] at computed
  simp only [flows] at computed
  exact computed

/-- Settles O35: the header's record clause by clause, and its notice. -/
theorem frameEventHeaders : Obligations.FrameEventHeaders := by
  unfold Obligations.FrameEventHeaders
  intro s h j p fb due
  refine ⟨s.frame, by rw [exec_frameEvent, State.frameEvent_due due], fun off => ?_, fun on => ?_⟩
  · rw [s.frame_header_computed, State.computedHeader_disabled _ h (by rw [s.shaping_config]; exact off)]
    exact congrArg (fun r => Table.get r h) s.frameBegun_outside.2.2.2.1
  · have within := s.frameBegun.shaping.computedHeader_granted_le h (by rw [s.shaping_config]; exact on)
    rw [← s.frame_header_computed] at within
    obtain ⟨demand, target, commanded, actual, available, scale, granted, state⟩ := s.frame_header_enabled h on
    rw [s.frame_pumpTarget] at target
    refine ⟨demand, fun off => ?_, fun normal online wet => ?_, commanded, fun away => ⟨?_, ?_⟩,
      fun online => ⟨fun reported => ?_, ?_⟩, available, scale, granted, within, fun change enabled mine holder => ?_⟩
    · rw [target, if_pos off]
    · rw [target]
      refine if_neg ?_
      rintro (stop | away | dry)
      · exact stop normal
      · exact away online
      · exact wet.ne' dry
    · rw [actual, s.frame_actualSpeed h away]
    · rw [state, decide_eq_false away, headerStateOf_lost]
    · rw [actual, s.frame_actualSpeed_reported h online reported]
    · rw [state, decide_eq_true online, headerStateOf_online]
    · rw [← headerCode_eq]
      exact State.frame_tells_header on change enabled mine holder

end Sys2Proof.Machine

/-!
# The fixtures at a frame event (06 R110 to R113, R117)
-/

namespace Sys2Proof.Machine

/-! ## The fade (R111) -/

theorem fadeLevel_eq (start target i n : Nat) : fadeLevel start target i n = fadePoint start target i n := by
  rw [fadeLevel, fadePoint, Int.fdiv_eq_ediv_of_nonneg _ (Int.natCast_nonneg n)]

theorem fadeColour_eq (start target : Rgbw) (i n : Nat) : fadeColour start target i n = fadePointOf start target i n := by
  rw [fadeColour, fadePointOf, fadeLevel_eq, fadeLevel_eq, fadeLevel_eq, fadeLevel_eq]

/-- The colour part of a fixture's record, its output apart. -/
theorem FixtureRecord.of_fade {r : FixtureRecord} {a b c : Rgbw} {n i : Nat} (start : r.start = a) (target : r.target = b)
    (colour : r.colour = c) (length : r.length = n) (step : r.step = i) :
    r = { r with start := a, target := b, colour := c, length := n, step := i } := by
  subst start target colour length step
  rfl

/-- The record after the commit and the fade step (R110, R111). -/
def State.fadedFixture (s : State) (f : Fin 48) : FixtureRecord := s.fadeStep (s.committedFixture f)

theorem State.mixedFixture_fade (s : State) (f : Fin 48) : (s.mixedFixture f).start = (s.fadedFixture f).start
    ∧ (s.mixedFixture f).target = (s.fadedFixture f).target ∧ (s.mixedFixture f).colour = (s.fadedFixture f).colour
    ∧ (s.mixedFixture f).length = (s.fadedFixture f).length ∧ (s.mixedFixture f).step = (s.fadedFixture f).step :=
  ⟨rfl, rfl, rfl, rfl, rfl⟩

theorem State.mixedFixture_output (s : State) (f : Fin 48) :
    ((s.mixedFixture f).output, (s.mixedFixture f).basis) = s.fixtureOutput (s.config.fixtures.get f).enabled
      ((s.config.fixtures.get f).followJet.map fun j => (s.jets.get j).follow) (s.mixedFixture f).colour
    ∧ (s.mixedFixture f).followLevel = (s.config.fixtures.get f).followJet.map fun j => (s.jets.get j).follow := ⟨rfl, rfl⟩

section Faded

variable {s : State} {f : Fin 48}

theorem State.fadedFixture_safed (safed : (s.entry (fixtureChannel f)).hold = .safed) : s.fadedFixture f =
    { s.fixtures.get f with start := Rgbw.black, target := Rgbw.black, colour := Rgbw.black, length := 0, step := 0 } := by
  rw [State.fadedFixture, State.committedFixture]
  dsimp only
  rw [if_pos safed, State.fadeStep]
  exact if_neg fun h => Nat.not_lt_zero 0 h.1

variable (free : (s.entry (fixtureChannel f)).hold ≠ .safed)
include free

theorem State.fadedFixture_kept (calm : s.unit.mode ≠ .live ∨ s.frozen = true) : s.colourToCommit (fixtureChannel f) = none
    ∧ s.fadedFixture f = s.fixtures.get f := by
  have closed : ¬ (s.unit.mode = .live ∧ s.frozen = false) := fun h => calm.elim (· h.1) fun e =>
    Bool.false_ne_true (h.2.symm.trans e)
  have nothing : s.colourToCommit (fixtureChannel f) = none := if_neg fun h => closed ⟨h.1, h.2.1⟩
  refine ⟨nothing, ?_⟩
  rw [State.fadedFixture, State.committedFixture, if_neg free, nothing]
  exact if_neg fun h => closed h.2

variable (live : s.unit.mode = .live) (thawed : s.frozen = false)
include live thawed

theorem State.fadedFixture_running (slot : (s.entry (fixtureChannel f)).slot = none) : s.fadedFixture f =
    if (s.fixtures.get f).step < (s.fixtures.get f).length then { s.fixtures.get f with
      step := (s.fixtures.get f).step + 1
      colour := fadePointOf (s.fixtures.get f).start (s.fixtures.get f).target ((s.fixtures.get f).step + 1)
        (s.fixtures.get f).length }
    else s.fixtures.get f := by
  have nothing : s.colourToCommit (fixtureChannel f) = none := by
    rw [State.colourToCommit, slot]
    split_ifs <;> rfl
  rw [State.fadedFixture, State.committedFixture]
  dsimp only
  rw [if_neg free, nothing, State.fadeStep, fadeColour_eq]
  simp only [live, thawed, and_self, and_true]

theorem State.fadedFixture_taken {levels : Rgbw} {n : Nat} (slot : (s.entry (fixtureChannel f)).slot = some (.colour levels n)) :
    s.colourToCommit (fixtureChannel f) = some (levels, n)
    ∧ (n = 0 → s.fadedFixture f = { s.fixtures.get f with
        start := (s.fixtures.get f).colour, target := levels, colour := levels, length := 0, step := 0 })
    ∧ (0 < n → s.fadedFixture f = { s.fixtures.get f with
        start := (s.fixtures.get f).colour, target := levels, length := n, step := 1
        colour := fadePointOf (s.fixtures.get f).colour levels 1 n }) := by
  have taken : s.colourToCommit (fixtureChannel f) = some (levels, n) := by
    rw [State.colourToCommit, if_pos ⟨live, thawed, free⟩, slot]
  have committed : s.committedFixture f = { s.fixtures.get f with
      start := (s.fixtures.get f).colour, target := levels, length := n, step := 0
      colour := if n = 0 then levels else (s.fixtures.get f).colour } := by
    rw [State.committedFixture]
    dsimp only
    rw [if_neg free, taken]
  rw [State.fadedFixture, committed, State.fadeStep]
  refine ⟨taken, fun zero => ?_, fun pos => ?_⟩
  · subst zero
    exact if_neg fun h => Nat.not_lt_zero 0 h.1
  · rw [if_pos ⟨pos, live, thawed⟩, fadeColour_eq]

end Faded

/-! ## The output (R113) -/

section Output

variable {s : State} {on : Bool} {level : Option Nat} {colour : Rgbw}

theorem State.fixtureOutput_setup (setup : s.unit.mode = .setup) : s.fixtureOutput on level colour = (Rgbw.black, .mode) := if_pos setup

variable (out : s.unit.mode ≠ .setup)
include out

theorem State.fixtureOutput_disabled : s.fixtureOutput false level colour = (Rgbw.black, .disabled) := by
  rw [State.fixtureOutput.eq_def, if_neg out]
  exact if_pos rfl

theorem State.fixtureOutput_level (low : Cause.level ∈ s.safety.causes) :
    s.fixtureOutput true level colour = (Rgbw.black, .level) := by
  rw [State.fixtureOutput.eq_def, if_neg out, if_neg (by decide)]
  exact if_pos (List.contains_iff_mem.mpr low)

variable (full : Cause.level ∉ s.safety.causes)
include full

theorem State.fixtureOutput_stop (stop : s.safety.state ≠ .normal) :
    s.fixtureOutput true level colour = (whiteOf s.config.global.whiteLevel, .white) := by
  rw [State.fixtureOutput.eq_def, if_neg out, if_neg (by decide), if_neg fun h => full (List.contains_iff_mem.mp h)]
  exact if_pos stop

variable (normal : s.safety.state = .normal)
include normal

theorem State.fixtureOutput_normal : s.fixtureOutput true level colour =
    if s.unit.mode = .dark then (Rgbw.black, .mode)
    else match level with
      | some f => (followColour f colour, .follow)
      | none => (colour, .colour) := by
  rw [State.fixtureOutput.eq_def, if_neg out, if_neg (by decide), if_neg fun h => full (List.contains_iff_mem.mp h),
    if_neg (not_not.mpr normal)] <;> rfl

end Output

/-! ## The state in which the Mixer's part begins -/

theorem State.mixBegun_mixer (s : State) : s.mixBegun.fixtures = s.fixtures ∧ s.mixBegun.config = s.config
    ∧ s.mixBegun.unit.mode = s.unit.mode ∧ s.mixBegun.jets = s.frame.jets ∧ s.mixBegun.frozen = s.frame.frozen := by
  have settled := s.mixBegun_settled
  have shaped := State.shape_only s.frameBegun
  have fixtures : s.frameBegun.shape.fixtures = s.frameBegun.fixtures := by unfold OnlyShaper at shaped; rw [shaped]
  have mode : s.frameBegun.shape.unit = s.frameBegun.unit := by unfold OnlyShaper at shaped; rw [shaped]
  obtain ⟨unit, -, -, -, mixer⟩ := s.frameBegun_outside
  exact ⟨settled.fixtures.trans (fixtures.trans mixer), settled.config.trans s.shaped_link.config,
    settled.mode.trans (congrArg ModeUnit.mode (mode.trans unit)), settled.jets.trans s.frame_records.1.symm,
    by rw [State.frozen, State.frozen, s.frame_safety_parts]⟩

theorem State.mixBegun_causes (s : State) : s.mixBegun.safety.causes = s.safety.causes
    ∧ (s.mixBegun.safety.state = .normal ↔ s.safety.state = .normal) := by
  rw [← s.frame_safety_parts, s.frame_safety_eq]
  refine ⟨rfl, ?_⟩
  dsimp only
  split_ifs with stopped
  · rw [stopped.1]
    decide
  · exact Iff.rfl

theorem State.frame_fixtures (s : State) : s.frame.fixtures = Table.build s.mixBegun.mixedFixture
    ∧ s.frame.fixtureReport = s.frame.fixtures := by
  have swept : ∀ u : State, u.giveSweep.fixtures = u.fixtures ∧ u.giveSweep.fixtureReport = u.fixtureReport := fun u => by
    have only := u.giveSweep_only
    unfold OnlySweep at only
    rw [only]
    exact ⟨rfl, rfl⟩
  rw [State.frame_parts, (swept _).1, (swept _).2]
  exact ⟨rfl, rfl⟩

theorem State.frame_fixture (s : State) (f : Fin 48) : s.frame.fixtures.get f = s.mixBegun.mixedFixture f := by
  rw [s.frame_fixtures.1, Table.get_build]

section Frame

variable (s : State) (f : Fin 48)

theorem State.mixBegun_fixtureEntry : s.mixBegun.entry (fixtureChannel f) = s.entry (fixtureChannel f) :=
  s.mixBegun_entry (Nat.le_add_right 128 f.val)

theorem State.frame_entry_of_fixture : s.frame.entry (fixtureChannel f) =
    if (s.mixBegun.colourToCommit (fixtureChannel f)).isSome = true then { s.entry (fixtureChannel f) with slot := none }
    else s.entry (fixtureChannel f) :=
  s.frame_entry_fixture (Nat.le_add_right 128 f.val) (by have := f.isLt; show 128 + f.val < 176; omega)

/-- The colour part of a fixture's record after the frame event is that of the fade step. -/
theorem State.frame_fixture_fade {r : FixtureRecord} (faded : s.mixBegun.fadedFixture f = r) : s.frame.fixtures.get f =
    { s.frame.fixtures.get f with
      start := r.start, target := r.target, colour := r.colour, length := r.length, step := r.step } := by
  obtain ⟨start, target, colour, length, step⟩ := s.mixBegun.mixedFixture_fade f
  rw [← s.frame_fixture, faded] at start target colour length step
  exact FixtureRecord.of_fade start target colour length step

/-- The output of a fixture after the frame event (R112, R113). -/
theorem State.frame_fixture_output : ((s.frame.fixtures.get f).output, (s.frame.fixtures.get f).basis)
      = s.mixBegun.fixtureOutput (s.config.fixtures.get f).enabled
        ((s.config.fixtures.get f).followJet.map fun j => (s.frame.jets.get j).follow) (s.frame.fixtures.get f).colour
    ∧ (s.frame.fixtures.get f).followLevel = (s.config.fixtures.get f).followJet.map fun j => (s.frame.jets.get j).follow := by
  obtain ⟨-, config, -, jets, -⟩ := s.mixBegun_mixer
  have output := s.mixBegun.mixedFixture_output f
  rw [← s.frame_fixture, config, jets] at output
  exact output

end Frame

/-- Settles O36: the colour part by the commit and the fade step, then the output case by case. -/
theorem frameEventFixtures : Obligations.FrameEventFixtures := by
  unfold Obligations.FrameEventFixtures
  intro s f j levels n due
  obtain ⟨fixtures, config, mode, jets, frozen⟩ := s.mixBegun_mixer
  obtain ⟨causes, state⟩ := s.mixBegun_causes
  have entry := s.mixBegun_fixtureEntry f
  refine ⟨s.frame, by rw [exec_frameEvent, State.frameEvent_due due], s.frame_fixtures.2, fun safed => ?_,
    fun free => ⟨fun live thawed slot => ?_, fun live thawed slot => ?_, fun calm => ?_⟩, fun setup => ?_, fun out => ⟨fun off => ?_,
      fun on => ⟨fun low => ?_, fun full => ⟨fun stop => ?_, fun normal => ⟨fun dark => ?_, fun live => ⟨fun own => ?_, fun follow => ?_⟩⟩⟩⟩⟩⟩
  · exact s.frame_fixture_fade f (State.fadedFixture_safed (by rw [entry]; exact safed))
  · obtain ⟨taken, at_once, fading⟩ := State.fadedFixture_taken (s := s.mixBegun) (f := f) (levels := levels) (n := n)
      (by rw [entry]; exact free) (by rw [mode]; exact live) (by rw [frozen]; exact thawed) (by rw [entry]; exact slot)
    rw [fixtures] at at_once fading
    refine ⟨?_, fun zero => s.frame_fixture_fade f (at_once zero), fun pos => s.frame_fixture_fade f (fading pos)⟩
    rw [s.frame_entry_of_fixture, taken]
    rfl
  · have running := State.fadedFixture_running (s := s.mixBegun) (f := f) (by rw [entry]; exact free) (by rw [mode]; exact live)
      (by rw [frozen]; exact thawed) (by rw [entry]; exact slot)
    rw [fixtures] at running
    by_cases more : (s.fixtures.get f).step < (s.fixtures.get f).length
    · rw [if_pos more] at running ⊢
      rw [if_pos more]
      exact s.frame_fixture_fade f running
    · rw [if_neg more] at running ⊢
      rw [if_neg more]
      exact s.frame_fixture_fade f running
  · obtain ⟨nothing, kept⟩ := State.fadedFixture_kept (s := s.mixBegun) (f := f) (by rw [entry]; exact free)
      (by rw [mode, frozen]; exact calm)
    rw [fixtures] at kept
    refine ⟨?_, s.frame_fixture_fade f kept⟩
    rw [s.frame_entry_of_fixture, nothing]
    rfl
  all_goals obtain ⟨output, level⟩ := s.frame_fixture_output f
  · rw [State.fixtureOutput_setup (mode.trans setup)] at output
    exact Prod.mk.inj output
  all_goals have outside : s.mixBegun.unit.mode ≠ .setup := fun h => out (mode.symm.trans h)
  · rw [off, State.fixtureOutput_disabled outside] at output
    exact Prod.mk.inj output
  all_goals rw [on] at output
  · rw [State.fixtureOutput_level outside (by rw [causes]; exact low)] at output
    exact Prod.mk.inj output
  all_goals have none_low : Cause.level ∉ s.mixBegun.safety.causes := fun h => full (causes ▸ h)
  · rw [State.fixtureOutput_stop outside none_low fun h => stop (state.mp h), config] at output
    exact Prod.mk.inj output
  all_goals rw [State.fixtureOutput_normal outside none_low (state.mpr normal), mode] at output
  · rw [if_pos dark] at output
    exact Prod.mk.inj output
  · rw [live, if_neg (by decide), own] at output
    exact Prod.mk.inj output
  · rw [live, if_neg (by decide), follow] at output
    rw [follow] at level
    exact ⟨(Prod.mk.inj output).1, level, (Prod.mk.inj output).2⟩

end Sys2Proof.Machine

/-!
# CONFIG_SAVE and the end of its write (09 R166, 10 R169, R178)
-/

namespace Sys2Proof

theorem Table.rows_eq_range {α : Type} {n : Nat} [NeZero n] (t : Table α n) :
    t.rows = (List.range n).map fun i => t.get (Fin.ofNat n i) := by
  refine List.ext_getElem (by rw [t.size, List.length_map, List.length_range]) fun i h _ => ?_
  rw [List.getElem_map, List.getElem_range, Table.get]
  congr 1
  exact (Nat.mod_eq_of_lt (t.size ▸ h)).symm

theorem Table.range_flatMap {α β : Type} {n : Nat} [NeZero n] (t : Table α n) (f : α → List β) :
    ((List.range n).flatMap fun i => f (t.get (Fin.ofNat n i))) = t.rows.flatMap f := by
  rw [t.rows_eq_range, List.flatMap_map]

end Sys2Proof

namespace Sys2Proof.Machine

/-! ## The bytes of the tables (R156, R166) -/

theorem Tables.bytes_eq (g : Tables) : g.bytes = [g.rights.a, g.rights.b, g.rights.c].flatMap PortRights.bytes
    ++ (g.jets.rows.flatMap JetConfig.bytes ++ (g.headers.rows.flatMap HeaderConfig.bytes
    ++ (g.fixtures.rows.flatMap FixtureConfig.bytes ++ ((g.nodes.rows.flatMap fun e => [byteOf (nodeTypeCode e)])
    ++ g.global.bytes)))) := by
  have global : ((List.range 1).flatMap fun index => (g.entry 6 index).bytes) = g.global.bytes := List.append_nil _
  rw [← g.jets.range_flatMap, ← g.headers.range_flatMap, ← g.fixtures.range_flatMap, ← g.nodes.range_flatMap, ← global]
  unfold Tables.bytes
  rw [List.flatMap_cons, List.flatMap_cons, List.flatMap_cons, List.flatMap_cons, List.flatMap_cons, List.flatMap_cons,
    List.flatMap_nil, List.append_nil]
  rfl

/-! ## CONFIG_SAVE (R166) -/

theorem State.respond_refuse (s : State) (p : Port) (kind tag : Nat) {st : Status} (refusal : st.isRefusal = true) :
    s.respond p kind tag (.refuse st) = s.setPort p { s.port p with
      state := .answering kind tag ⟨st, .empty⟩, error := some ⟨st, kind, 0, 0, 0⟩ } := by
  simp only [State.respond, Answer.responseBody_refuse, nextErrorDetail_refuse refusal]
  rfl

theorem State.respond_ok (s : State) (p : Port) (tag : Nat) : s.respond p 0x62 tag .ok = s.setPort p { s.port p with
    state := .answering 0x62 tag ⟨.ok, .empty⟩, error := none } := rfl

section Save

variable {s : State} {p : Port} (ready : s.portReady p) (tag : U8)
include ready

theorem State.configSave_ready : s.configSave p tag =
    if (s.rights p).config = false then s.refused p 0x62 tag .noRight
    else if s.unit.mode ≠ .setup then s.refused p 0x62 tag .wrongMode
    else if s.unit.saving.isSome then s.refused p 0x62 tag .busy
    else (s.setPort p { s.port p with state := .working 0x62 tag }).setUnit { s.unit with saving := some p } := by
  unfold State.configSave configSaveKind
  rw [if_pos (State.takesFrame_of_portReady ready)]
  dsimp only
  rw [State.respond_beginRequest, State.respond_beginRequest, State.respond_beginRequest, State.respond_refuse s p _ _ rfl,
    State.respond_refuse s p _ _ rfl, State.respond_refuse s p _ _ rfl]
  rfl

end Save

/-! ## The end of the write (R166, R178) -/

/-- The state in which the saving port is answered. -/
def State.saveEnded (s : State) (written : Bool) : State :=
  { s with image := s.savedImage written, unit := { s.unit with saving := none } }

theorem State.saveEnd_eq {s : State} {p : Port} (saving : s.unit.saving = some p) (written : Bool) : s.saveEnd written =
    match (s.port p).state with
    | .working kind tag =>
      if kind = configSaveKind then
        (s.saveEnded written).respond p configSaveKind tag (if written then .ok else .refuse .wrongState)
      else s.saveEnded written
    | .ready => s.saveEnded written
    | .answering _ _ _ => s.saveEnded written := by
  unfold State.saveEnd
  rw [saving] <;> rfl

theorem State.saveEnd_answered {s : State} {p : Port} {tag : Nat} (saving : s.unit.saving = some p)
    (working : (s.port p).state = .working 0x62 tag) (written : Bool) : s.saveEnd written =
    (s.saveEnded written).respond p configSaveKind tag (if written then .ok else .refuse .wrongState) := by
  rw [State.saveEnd_eq saving, working]
  exact if_pos rfl

theorem State.saveEnd_unanswered {s : State} {p : Port} {k n : Nat} {r : Response} (saving : s.unit.saving = some p)
    (gone : (s.port p).state = .ready ∨ (s.port p).state = .answering k n r) (written : Bool) :
    s.saveEnd written = s.saveEnded written := by
  rw [State.saveEnd_eq saving]
  rcases gone with state | state <;> rw [state]

theorem exec_configSave (p : Port) (tag : U8) (s : State) : exec (.configSave p tag) s = .next (s.configSave p tag) := rfl

theorem exec_saveEnd (written : Bool) (s : State) : exec (.saveEnd written) s = .next (s.saveEnd written) := rfl

/-- Settles O52: the save by its checks, and the end of the write by the port's state. -/
theorem configSave : Obligations.ConfigSave := by
  unfold Obligations.ConfigSave
  intro s p tag tg k n r
  refine ⟨Tables.bytes_eq, fun ready => ?_, fun idle => ?_, fun saving => ⟨fun working => ?_, fun gone => ?_⟩⟩
  · rw [exec_configSave, State.configSave_ready ready]
    refine ⟨fun right => ?_, fun right mode => ?_, fun right mode saving => ?_, fun right mode idle => ?_⟩
    · rw [if_pos right]
    · rw [if_neg (by rw [right]; decide), if_pos mode]
    · rw [if_neg (by rw [right]; decide), if_neg (not_not.mpr mode), if_pos (Option.isSome_iff_ne_none.mpr saving)]
    · rw [if_neg (by rw [right]; decide), if_neg (not_not.mpr mode), if_neg (by rw [idle]; decide)]
  · rw [exec_saveEnd, exec_saveEnd, State.saveEnd, State.saveEnd, idle]
    exact ⟨rfl, rfl⟩
  · rw [exec_saveEnd, exec_saveEnd, State.saveEnd_answered saving working, State.saveEnd_answered saving working]
    refine ⟨rfl, ?_⟩
    rw [if_neg (by decide), State.respond_refuse _ p _ _ rfl]
    rfl
  · rw [exec_saveEnd, exec_saveEnd, State.saveEnd_unanswered saving gone, State.saveEnd_unanswered saving gone]
    exact ⟨rfl, rfl⟩

end Sys2Proof.Machine

/-!
# The idle condition and its evaluation (09 R165)
-/

namespace Sys2Proof.Machine

theorem trackMoves_eq_false {t : Track} : trackMoves t = false ↔ trackName t ≠ .running ∧ trackName t ≠ .waiting := by
  unfold trackMoves
  cases trackName t <;> simp

theorem State.idleCondition_iff (s : State) : s.idleCondition = true ↔ s.unit.mode = .live
    ∧ (∀ t : Fin 4, trackName (s.track t) ≠ .running ∧ trackName (s.track t) ≠ .waiting) ∧ s.clock.run = .stopped
    ∧ s.shaper.jetsStill = true := by
  simp only [State.idleCondition_eq_true, State.anyTrackMoves_eq_false, trackMoves_eq_false]

theorem State.idleCondition_congr {s t : State} (unit : t.unit = s.unit) (tracks : t.tracks = s.tracks) (clock : t.clock = s.clock)
    (shaper : t.shaper = s.shaper) : t.idleCondition = s.idleCondition := by
  unfold State.idleCondition State.anyTrackMoves
  rw [unit, tracks, clock, shaper]

/-! ## The timer (R165) -/

section Timer

variable {s : State}

theorem State.evalIdle_off (off : s.unit.idleDeadline = none) : s.evalIdle =
    if s.idleCondition = true ∧ s.config.global.idleTime ≠ 0 then
      s.setUnit { s.unit with idleDeadline := some (s.now + s.config.global.idleTime * 60000) }
    else s := by
  unfold State.evalIdle
  rw [off]
  simp only [Bool.and_eq_true, bne_iff_ne]

theorem State.evalIdle_set (on : s.unit.idleDeadline ≠ none) : s.evalIdle =
    if s.idleCondition then s else s.setUnit { s.unit with idleDeadline := none } := by
  obtain ⟨d, on⟩ := Option.ne_none_iff_exists'.mp on
  unfold State.evalIdle
  rw [on]

/-- The idle timer after an evaluation, by what the evaluation reads. -/
theorem State.evalIdle_unit_congr {t : State} (unit : t.unit = s.unit) (condition : t.idleCondition = s.idleCondition)
    (time : t.config.global.idleTime = s.config.global.idleTime) (now : t.now = s.now) : t.evalIdle.unit = s.evalIdle.unit := by
  have set : ∀ (u : State) v, (u.setUnit v).unit = v := fun _ _ => rfl
  by_cases off : s.unit.idleDeadline = none
  · rw [State.evalIdle_off off, State.evalIdle_off (by rw [unit]; exact off), condition, time, now]
    split_ifs
    · rw [set, set, unit]
    · exact unit
  · rw [State.evalIdle_set off, State.evalIdle_set (by rw [unit]; exact off), condition]
    split_ifs
    · exact unit
    · rw [set, set, unit]

end Timer

/-! ## When it is evaluated (R165) -/

theorem names_of_rows {s u : State} (same : s.tracks.rows.map trackName = u.tracks.rows.map trackName) (t : Fin 4) :
    trackName (u.track t) = trackName (s.track t) := by
  have at_ : ∀ v : State, (v.tracks.rows.map trackName)[t.val]? = some (trackName (v.track t)) := fun v => by
    rw [List.getElem?_map, List.getElem?_eq_getElem (by rw [v.tracks.size]; exact t.isLt)]
    rfl
  exact Option.some.inj ((at_ u).symm.trans ((congrArg (·[t.val]?) same.symm).trans (at_ s)))

theorem settleIdle_of_change {s u : State} (change : (∃ t : Fin 4, trackName (u.track t) ≠ trackName (s.track t))
    ∨ u.clock.run ≠ s.clock.run ∨ u.unit.mode ≠ s.unit.mode) : settleIdle s u = u.evalIdle := by
  refine if_pos ?_
  unfold idleMatters
  rw [Bool.or_eq_true, Bool.or_eq_true, bne_iff_ne, bne_iff_ne, bne_iff_ne]
  rcases change with ⟨t, name⟩ | run | mode
  · exact .inl (.inl fun same => name (names_of_rows same t))
  · exact .inl (.inr (Ne.symm run))
  · exact .inr (Ne.symm mode)

/-! ## At a frame event (R165) -/

theorem State.shape_evaluated (s : State) : s.frameBegun.shape.unit = s.unit ∧ s.frameBegun.shape.tracks = s.frame.tracks
    ∧ s.frameBegun.shape.clock = s.frame.clock ∧ s.frameBegun.shape.shaper = s.frame.shaper
    ∧ s.frameBegun.shape.config = s.frame.config ∧ s.frameBegun.shape.now = s.frame.now := by
  have shaped := State.shape_only s.frameBegun
  have unit : s.frameBegun.shape.unit = s.frameBegun.unit := by unfold OnlyShaper at shaped; rw [shaped]
  have tracks : s.frameBegun.shape.tracks = s.frameBegun.tracks := by unfold OnlyShaper at shaped; rw [shaped]
  exact ⟨unit.trans s.frameBegun_outside.1, tracks.trans s.frame_of_begun.1.symm, shaped.clock_eq.trans s.frame_of_begun.2.symm,
    s.frame_records.2.2.1.symm, s.shaped_link.config.trans s.frame_records.2.2.2.symm,
    (shaped.stands.1.trans s.frameBegun_stands.1).trans s.frame_stands.1.symm⟩

theorem State.frame_unit (s : State) : s.frame.unit = s.frameBegun.shape.evalIdle.unit := by
  have settled : ∀ u : State, u.reachStopped.unit = u.unit := fun u => by unfold State.reachStopped; split_ifs <;> rfl
  have mixed : ∀ u : State, u.mix.unit = u.unit := fun _ => rfl
  have swept := (State.giveSweep_only s.mixBegun.mix).field.outside
  rw [State.frame_parts, swept.unit, mixed, State.mixBegun, settled]

theorem State.frame_evaluated (s : State) : s.frame.unit = (State.evalIdle { s.frame with unit := s.unit }).unit := by
  obtain ⟨unit, tracks, clock, shaper, config, now⟩ := s.shape_evaluated
  have put : ∀ u : State, (State.setUnit u s.unit).unit = s.unit ∧ (u.setUnit s.unit).tracks = u.tracks
    ∧ (u.setUnit s.unit).clock = u.clock ∧ (u.setUnit s.unit).shaper = u.shaper ∧ (u.setUnit s.unit).config = u.config
    ∧ (u.setUnit s.unit).now = u.now := fun _ => ⟨rfl, rfl, rfl, rfl, rfl, rfl⟩
  obtain ⟨putUnit, putTracks, putClock, putShaper, putConfig, putNow⟩ := put s.frame
  have evaluated := State.evalIdle_unit_congr (s := s.frame.setUnit s.unit) (t := s.frameBegun.shape)
    (unit.trans putUnit.symm) (State.idleCondition_congr (unit.trans putUnit.symm) (tracks.trans putTracks.symm)
      (clock.trans putClock.symm) (shaper.trans putShaper.symm))
    (congrArg (·.global.idleTime) (config.trans putConfig.symm)) (now.trans putNow.symm)
  exact s.frame_unit.trans evaluated

theorem State.frame_jetsStill (s : State) : s.frame.shaper.jetsStill = true ↔
    ∀ j : Fin 128, (s.frame.jets.get j).commanded = 0 ∧ (s.frame.jets.get j).valve = 0 := by
  have still : s.frame.shaper.jetsStill = s.frameBegun.shape.jetsRest := by rw [s.frame_shaper]
  rw [still, s.frame_records.1, State.jetsRest, Table.all_rows]
  simp only [Bool.and_eq_true, beq_iff_eq]

/-- Settles O55: the condition, the timer by it, and the two places where it is evaluated. -/
theorem idleEvaluation : Obligations.IdleEvaluation := by
  unfold Obligations.IdleEvaluation
  intro s u
  refine ⟨s.idleCondition_iff, fun off idle set => ?_, fun off busy => ?_, fun on idle => ?_, fun on busy => ?_,
    settleIdle_of_change, settleIdle_of_names, fun due frame => ?_⟩
  · rw [State.evalIdle_off off, if_pos ⟨idle, set⟩]
  · rw [State.evalIdle_off off, if_neg]
    exact fun h => busy.elim (fun e => Bool.false_ne_true (e.symm.trans h.1)) h.2
  · rw [State.evalIdle_set on, if_pos idle]
  · rw [State.evalIdle_set on, if_neg (by rw [busy]; decide)]
  · rw [exec_frameEvent, State.frameEvent_due due] at frame
    injection frame with frame
    rw [← frame]
    exact ⟨s.frame_evaluated, s.frame_jetsStill⟩

end Sys2Proof.Machine

/-!
# Entry to SETUP: what it takes and whom it tells (09 R163, 01 R27, 02 R40, 03 R65)
-/

namespace Sys2Proof.Machine

/-! ## One channel (01 R27) -/

/-- A channel's entry after entry to SETUP (R27). -/
def ChannelEntry.releasedForSetup (e : ChannelEntry) : ChannelEntry :=
  if e.hold.holder = none then e else ⟨.free, e.watchers, none⟩

theorem ChannelEntry.releasedForSetup_twice (e : ChannelEntry) : e.releasedForSetup.releasedForSetup = e.releasedForSetup := by
  by_cases free : e.hold.holder = none
  · have same : e.releasedForSetup = e := if_pos free
    rw [same, same]
  · have released : e.releasedForSetup = ⟨.free, e.watchers, none⟩ := if_neg free
    rw [released]
    rfl

theorem State.releaseForSetup_entry_eq (s : State) (ch : Fin 177) :
    (s.releaseForSetup ch).entry ch = (s.entry ch).releasedForSetup := s.releaseForSetup_entry ch

theorem State.releaseForSetup_waiters (s : State) (ch : Fin 177) :
    (s.releaseForSetup ch).directory.waiters = s.directory.waiters.filter fun w => !(w.channel == ch) := by
  unfold State.releaseForSetup
  split
  · next p _ =>
    have told := State.tellWatchers_directory (((s.post p .lost ch.val 3).dropWaiters ch 3).setEntry ch
      { ((s.post p .lost ch.val 3).dropWaiters ch 3).entry ch with hold := .free, slot := none }) ch 0
    exact (congrArg Directory.waiters told).trans ((s.post p .lost ch.val 3).dropWaiters_eq ch 3).2
  · exact (s.dropWaiters_eq ch 3).2

theorem State.releaseForSetup_only (s : State) (ch : Fin 177) : OnlyDirectory s (s.releaseForSetup ch) := by
  unfold State.releaseForSetup
  split
  · exact (((State.post_only _ _ _ _ _ _).directory.trans (State.dropWaiters_only _ _ _)).trans
      (State.setEntry_only _ _ _)).trans (State.tellWatchers_only _ _ _).directory
  · exact State.dropWaiters_only _ _ _

theorem State.releaseForSetup_same (s : State) {ch c : Fin 177} (h : c ≠ ch) : SameAt ch s (s.releaseForSetup c) where
  entry := (s.releaseForSetup_at c).entry ch h.symm
  waiters := by
    unfold State.waitersOf
    rw [s.releaseForSetup_waiters, List.filter_filter]
    refine List.filter_congr fun w _ => ?_
    by_cases own : w.channel = ch <;> simp [own, h.symm]
  clock := (s.releaseForSetup_only c).clock_eq

theorem State.releaseForSetup_tells_holder {s : State} {ch : Fin 177} {p : Port} (holder : (s.entry ch).hold.holder = some p) :
    (s.releaseForSetup ch).told p ⟨.lost, ch, 3, s.clock.value, .none⟩ := by
  have dropped := (told_kept _ _).dropWaiters _ ch 3 (s.post_told p .lost ch.val 3)
  simp only [State.releaseForSetup, holder]
  exact (told_kept _ _).tellWatchers _ ch 0 ((told_kept _ _).setEntry _ ch _ dropped)

theorem State.releaseForSetup_tells_waiter {s : State} {ch : Fin 177} {w : WaitEntry} (waits : w ∈ s.waitersOf ch) :
    (s.releaseForSetup ch).told w.port ⟨.claimDropped, ch, 3, s.clock.value, .none⟩ := by
  unfold State.releaseForSetup
  split
  · next p _ =>
    have dropped := State.dropWaiters_tells (s := s.post p .lost ch.val 3) waits 3
    exact (told_kept _ _).tellWatchers _ ch 0 ((told_kept _ _).setEntry _ ch _ dropped)
  · exact State.dropWaiters_tells waits 3

/-! ## The Directory (01 R27) -/

section DirectoryEntry

variable (s : State) (ch : Fin 177)

theorem State.directorySetupEntry_entry : s.directorySetupEntry.entry ch = (s.entry ch).releasedForSetup := by
  have released : ((Table.indices 177).foldl State.releaseForSetup s).entry ch = (s.entry ch).releasedForSetup :=
    foldl_reaches (P := fun u => u.entry ch = (s.entry ch).releasedForSetup) (Q := fun u => u.entry ch = s.entry ch)
      (fun u c done => by
        by_cases own : c = ch
        · subst own
          rw [u.releaseForSetup_entry_eq, done, ChannelEntry.releasedForSetup_twice]
        · rw [(u.releaseForSetup_same own).entry, done])
      (fun u c ne same => (u.releaseForSetup_same ne).entry.trans same)
      (fun u same => by rw [u.releaseForSetup_entry_eq, same]) (Table.mem_indices ch) rfl
  rw [State.directorySetupEntry, State.entry_setWaiters]
  exact released

theorem State.directorySetupEntry_queue :
    s.directorySetupEntry.directory.waiters = [] ∧ s.directorySetupEntry.directory.arrivals = 1 := by
  have emptied : ∀ u : State, (u.setWaiters []).directory.arrivals = 1 := fun _ => rfl
  refine ⟨s.directorySetupEntry_waiters, ?_⟩
  rw [State.directorySetupEntry, emptied]

theorem State.directorySetupEntry_told {p : Port} {n : Notice} (tell : ∀ u, SameAt ch s u → (u.releaseForSetup ch).told p n) :
    s.directorySetupEntry.told p n := by
  have released : ((Table.indices 177).foldl State.releaseForSetup s).told p n :=
    foldl_reaches (P := fun u => u.told p n) (Q := SameAt ch s) (fun u y told => (told_kept p n).releaseForSetup u y told)
      (fun u _ ne same => same.trans (u.releaseForSetup_same ne)) tell (Table.mem_indices ch) ⟨rfl, rfl, rfl⟩
  have queue : ∀ u : State, (u.setWaiters []).ports = u.ports := fun _ => rfl
  rw [State.directorySetupEntry]
  exact (told_kept p n).elsewhere _ _ (queue _) released

end DirectoryEntry

/-! ## The Range Engine and the tracks (02 R40, 03 R65) -/

theorem State.rangeSetupEntry_range {s : State} {r : RangeRecord} (active : s.range.active = some r) :
    s.rangeSetupEntry.range = ⟨none, some (r.outcome .setup)⟩ := by
  rw [State.rangeSetupEntry, active]
  rfl

theorem State.rangeSetupEntry_ranges (s : State) : OnlyRanges s s.rangeSetupEntry := by
  unfold State.rangeSetupEntry
  split <;> exact rfl

theorem State.idleForSetup_tells {s : State} {t : Fin 4} {b : TrackBody} (track : s.track t = some b) :
    (s.idleForSetup t).told b.owner ⟨.trackState, t, 6, s.clock.value, .none⟩ := by
  rw [State.idleForSetup, track]
  exact State.deliver_told _ _ _

theorem OnlyRanges.tracks_eq {s t : State} (h : OnlyRanges s t) : t.tracks = s.tracks := by
  unfold OnlyRanges at h; rw [h]

/-! ## The whole -/

section EnterSetup

variable (s : State)

/-- The Directory as entry to SETUP leaves it, before the Range Engine's part. -/
def State.releasedForSetup : State := (s.setMode .setup).directorySetupEntry

theorem State.emptiedForSetup_of_released :
    s.emptiedForSetup = s.releasedForSetup.rangeSetupEntry.eachTrack State.idleForSetup := rfl

theorem State.releasedForSetup_outside : s.releasedForSetup.range = s.range ∧ s.releasedForSetup.tracks = s.tracks
    ∧ s.releasedForSetup.clock = s.clock := by
  have only := (s.setMode .setup).directorySetupEntry_only
  unfold OnlyDirectory at only
  rw [State.releasedForSetup, only]
  exact ⟨rfl, rfl, rfl⟩

theorem State.enterSetup_tells {p : Port} {n : Notice} (h : s.emptiedForSetup.told p n) : s.enterSetup.told p n := by
  have clock : ∀ u : State, u.clockSetupEntry.ports = u.ports := fun _ => rfl
  have jets : ∀ u : State, u.shaperSetupEntry.ports = u.ports := fun _ => rfl
  have fixtures : ∀ u : State, u.mixerSetupEntry.ports = u.ports := fun _ => rfl
  rw [State.enterSetup_eq]
  exact (told_kept p n).tellMode _ 0 ((told_kept p n).elsewhere _ _ (fixtures _)
    ((told_kept p n).elsewhere _ _ (jets _) ((told_kept p n).elsewhere _ _ (clock _) h)))

theorem State.enterSetup_tells_of_directory {p : Port} {n : Notice} (h : s.releasedForSetup.told p n) : s.enterSetup.told p n :=
  s.enterSetup_tells (State.eachTrack_keeps (P := fun u => u.told p n) (fun u t told => (told_kept p n).idleForSetup u t told)
    ((told_kept p n).rangeSetupEntry _ h))

theorem State.enterSetup_tells_holder {ch : Fin 177} {x : Port} (holder : (s.entry ch).hold.holder = some x) :
    s.enterSetup.told x ⟨.lost, ch, 3, s.clock.value, .none⟩ :=
  s.enterSetup_tells_of_directory (State.directorySetupEntry_told _ ch fun u same => by
    have value : u.clock.value = s.clock.value := by rw [same.clock]; rfl
    rw [← value]
    exact State.releaseForSetup_tells_holder (by rw [same.entry]; exact holder))

theorem State.enterSetup_tells_waiter {ch : Fin 177} {x : Port} (waits : s.waitsFor x ch) :
    s.enterSetup.told x ⟨.claimDropped, ch, 3, s.clock.value, .none⟩ := by
  obtain ⟨w, hw, rfl, channel⟩ := waits
  refine s.enterSetup_tells_of_directory (State.directorySetupEntry_told _ ch fun u same => ?_)
  have value : u.clock.value = s.clock.value := by rw [same.clock]; rfl
  rw [← value]
  refine State.releaseForSetup_tells_waiter ?_
  rw [same.waiters]
  exact List.mem_filter.mpr ⟨hw, decide_eq_true channel⟩

theorem State.enterSetup_tells_owner {t : Fin 4} {b : TrackBody} (track : s.track t = some b) :
    s.enterSetup.told b.owner ⟨.trackState, t, 6, s.clock.value, .none⟩ := by
  obtain ⟨-, tracks, clock⟩ := s.releasedForSetup_outside
  have ranges : OnlyRanges s.releasedForSetup s.releasedForSetup.rangeSetupEntry := State.rangeSetupEntry_ranges _
  have sameTracks : s.releasedForSetup.rangeSetupEntry.tracks = s.tracks :=
    ranges.tracks_eq.trans tracks
  refine s.enterSetup_tells ?_
  rw [s.emptiedForSetup_of_released]
  refine State.eachTrack_told (t := t) (Q := fun u => u.track t = some b ∧ u.clock = s.clock)
    (fun u k told => (told_kept _ _).idleForSetup u k told) (fun u k ne same => ?_) (fun u same => ?_)
    ⟨by rw [State.track, sameTracks]; exact track, ranges.clock_eq.trans clock⟩
  · obtain ⟨stands, same⟩ := same
    exact ⟨by rw [State.idleForSetup_track, if_neg ne.symm, stands], by rw [(State.idleForSetup_only u k).clock_eq, same]⟩
  · obtain ⟨stands, same⟩ := same
    rw [← same]
    exact State.idleForSetup_tells stands

theorem State.enterSetup_tells_all (q : Port) : s.enterSetup.told q ⟨.modeChanged, 255, 0, s.clock.value, .none⟩ := by
  have posted : ∀ u : State, (u.tellMode 0).told q ⟨.modeChanged, 255, 0, (u.tellMode 0).clock.value, .none⟩ := fun u =>
    u.postAll_told q .modeChanged noSubject 0
  have clock : s.enterSetup.clock.value = s.clock.value := by rw [s.enterSetup_clock]
  rw [← clock, State.enterSetup_eq]
  exact posted _

theorem State.enterSetup_entry (ch : Fin 177) : s.enterSetup.entry ch = (s.entry ch).releasedForSetup := by
  rw [State.entry_of_directory (s.enterSetup_directory.trans s.emptiedForSetup_directory), State.directorySetupEntry_entry]
  rfl

theorem State.enterSetup_range {r : RangeRecord} (active : s.range.active = some r) :
    s.enterSetup.range = ⟨none, some (r.outcome .setup)⟩ := by
  obtain ⟨range, -⟩ := s.releasedForSetup_outside
  have clock : ∀ t : State, t.clockSetupEntry.range = t.range := fun _ => rfl
  have jets : ∀ t : State, t.shaperSetupEntry.range = t.range := fun _ => rfl
  have fixtures : ∀ t : State, t.mixerSetupEntry.range = t.range := fun _ => rfl
  have told : ∀ t : State, (t.tellMode 0).range = t.range := fun _ => rfl
  have idled : OnlyTracks s.releasedForSetup.rangeSetupEntry s.emptiedForSetup := State.eachTrack_only _ State.idleForSetup_only
  rw [State.enterSetup_eq, told, fixtures, jets, clock, idled.range_eq]
  exact State.rangeSetupEntry_range (by rw [range]; exact active)

theorem State.enterSetup_outputs : (∀ j : Fin 128, s.enterSetup.jets.get j = { s.jets.get j with commanded := 0 })
    ∧ ∀ f : Fin 48, s.enterSetup.fixtures.get f = (s.fixtures.get f).clear := by
  have told : ∀ t : State, (t.tellMode 0).jets = t.jets ∧ (t.tellMode 0).fixtures = t.fixtures := fun _ => ⟨rfl, rfl⟩
  have fixtures : ∀ t : State, t.mixerSetupEntry.jets = t.jets ∧ ∀ f, t.mixerSetupEntry.fixtures.get f = (t.fixtures.get f).clear :=
    fun _ => ⟨rfl, fun f => Table.get_build _ f⟩
  have jets : ∀ t : State, (∀ j, t.shaperSetupEntry.jets.get j = { t.jets.get j with commanded := 0 })
      ∧ t.shaperSetupEntry.fixtures = t.fixtures := fun _ => ⟨fun j => Table.get_build _ j, rfl⟩
  have clock : ∀ t : State, t.clockSetupEntry.jets = t.jets ∧ t.clockSetupEntry.fixtures = t.fixtures := fun _ => ⟨rfl, rfl⟩
  have emptied := s.emptiedForSetup_only.field.outside
  refine ⟨fun j => ?_, fun f => ?_⟩
  · rw [State.enterSetup_eq, (told _).1, (fixtures _).1, (jets _).1, (clock _).1, emptied.jets]
    rfl
  · rw [State.enterSetup_eq, (told _).2, (fixtures _).2, (jets _).2, (clock _).2, emptied.fixtures]
    rfl

theorem State.enterSetup_stands : s.enterSetup.headers = s.headers ∧ s.enterSetup.nodes = s.nodes ∧ s.enterSetup.cues = s.cues
    ∧ s.enterSetup.config = s.config := by
  have told : ∀ t : State, (t.tellMode 0).nodes = t.nodes ∧ (t.tellMode 0).cues = t.cues ∧ (t.tellMode 0).config = t.config :=
    fun _ => ⟨rfl, rfl, rfl⟩
  have fixtures : ∀ t : State, t.mixerSetupEntry.nodes = t.nodes ∧ t.mixerSetupEntry.cues = t.cues
    ∧ t.mixerSetupEntry.config = t.config := fun _ => ⟨rfl, rfl, rfl⟩
  have jets : ∀ t : State, t.shaperSetupEntry.nodes = t.nodes ∧ t.shaperSetupEntry.cues = t.cues
    ∧ t.shaperSetupEntry.config = t.config := fun _ => ⟨rfl, rfl, rfl⟩
  have clock : ∀ t : State, t.clockSetupEntry.nodes = t.nodes ∧ t.clockSetupEntry.cues = t.cues
    ∧ t.clockSetupEntry.config = t.config := fun _ => ⟨rfl, rfl, rfl⟩
  have emptied := s.emptiedForSetup_only
  unfold OnlyShow at emptied
  refine ⟨s.enterSetup_headers, ?_, ?_, ?_⟩
  · rw [State.enterSetup_eq, (told _).1, (fixtures _).1, (jets _).1, (clock _).1, emptied]; rfl
  · rw [State.enterSetup_eq, (told _).2.1, (fixtures _).2.1, (jets _).2.1, (clock _).2.1, emptied]; rfl
  · rw [State.enterSetup_eq, (told _).2.2, (fixtures _).2.2, (jets _).2.2, (clock _).2.2, emptied]; rfl

theorem State.enterSetup_queue : s.enterSetup.directory.waiters = [] ∧ s.enterSetup.directory.arrivals = 1 := by
  rw [s.enterSetup_directory, s.emptiedForSetup_directory]
  exact State.directorySetupEntry_queue _

end EnterSetup

end Sys2Proof.Machine

/-!
# MODE and the idle timer's expiry (09 R162 to R165)
-/

namespace Sys2Proof.Machine

theorem exec_mode (p : Port) (tag target : U8) (s : State) :
    exec (.mode p tag target) s = .next (s.request p 0x63 tag (settled (modeAction p target))) := rfl

theorem exec_idleTimerExpiry (s : State) : exec .idleTimerExpiry s = .next s.idleExpiry := rfl

/-! ## The checks of MODE (10 R171, R162) -/

theorem modeOf_none {n : Nat} (h : n = 0 ∨ 3 < n) : modeOf n = none := by
  rcases h with rfl | h
  · rfl
  · obtain ⟨k, rfl⟩ := Nat.exists_eq_add_of_le h
    rw [Nat.add_comm]
    rfl

section Action

variable (p : Port) (s : State)

theorem modeAction_unknown {target : U8} (h : target.val = 0 ∨ 3 < target.val) :
    modeAction p target s = (s, .refuse .outOfRange 1) := by
  rw [modeAction, modeOf_none h]

theorem modeAction_setup : modeAction p 1 s = match s.unit.mode with
    | .setup => (s, .ok)
    | .live => (s, .refuse .wrongState)
    | .dark =>
      if (s.rights p).config = false then (s, .refuse .noRight)
      else if s.shaper.outputsAtRest = false then (s, .refuse .busy)
      else (s.enterSetup, .ok) := by
  have target : modeOf (1 : U8).val = some .setup := rfl
  rw [modeAction, target]
  cases s.unit.mode <;> rfl

theorem modeAction_dark : modeAction p 2 s = match s.unit.mode with
    | .dark => (s, .ok)
    | .setup =>
      if (s.rights p).config = false then (s, .refuse .noRight)
      else if s.unit.saving.isSome then (s, .refuse .busy)
      else
        match s.config.validate with
        | some f => (s, { status := .configInvalid, field := f.table, index := f.index, residual := f.check })
        | none => (s.leaveSetup, .ok)
    | .live =>
      if (s.rights p).showRight = false then (s, .refuse .noRight)
      else if s.anyTrackMoves = true ∨ s.clock.run ≠ .stopped then (s, .refuse .busy)
      else (s.goDark 1, .ok) := by
  have target : modeOf (2 : U8).val = some .dark := rfl
  rw [modeAction, target]
  cases s.unit.mode <;> rfl

theorem modeAction_live : modeAction p 3 s = match s.unit.mode with
    | .live => (s, .ok)
    | .setup => (s, .refuse .wrongState)
    | .dark => if (s.rights p).showRight = false then (s, .refuse .noRight) else (s.goLive, .ok) := by
  have target : modeOf (3 : U8).val = some .live := rfl
  rw [modeAction, target]
  cases s.unit.mode <;> rfl

end Action

/-! ## The changes that leave SETUP, LIVE or DARK (R164) -/

section Changed

variable (s : State) (p : Port) (kind tag : Nat)

theorem State.leaveSetup_beginRequest : (s.beginRequest p kind tag).leaveSetup = s.leaveSetup.beginRequest p kind tag :=
  (s.setMode .dark).postTo_beginRequest p kind tag everyPort _ _ _

theorem State.goLive_beginRequest : (s.beginRequest p kind tag).goLive = s.goLive.beginRequest p kind tag :=
  (s.setMode .live).postTo_beginRequest p kind tag everyPort _ _ _

theorem State.goDark_beginRequest (detail : Nat) :
    (s.beginRequest p kind tag).goDark detail = (s.goDark detail).beginRequest p kind tag :=
  (s.setUnit { s.unit with mode := .dark, idleDeadline := none }).postTo_beginRequest p kind tag everyPort _ _ _

/-- Out of LIVE with the idle timer OFF, its evaluation leaves it OFF. -/
theorem State.goDark_settled (u : State) (detail : Nat) : settleIdle u (s.goDark detail) = s.goDark detail := by
  have mode : ∀ (u : State) d, (u.goDark d).unit.mode = .dark ∧ (u.goDark d).unit.idleDeadline = none := fun _ _ => ⟨rfl, rfl⟩
  obtain ⟨dark, off⟩ := mode s detail
  have still : (s.goDark detail).evalIdle = s.goDark detail := by
    rw [State.evalIdle_off off]
    refine if_neg fun h => ?_
    have live := (State.idleCondition_eq_true.mp h.1).1
    rw [dark] at live
    cases live
  unfold settleIdle
  split_ifs
  · exact still
  · rfl

end Changed

/-! ## The expiry (R165) -/

section Expiry

variable {s : State}

theorem State.idleExpiry_off (off : s.unit.idleDeadline = none) : s.idleExpiry = s := by
  rw [State.idleExpiry, off]

theorem State.idleExpiry_set {d : Nat} (on : s.unit.idleDeadline = some d) :
    s.idleExpiry = if d ≤ s.now ∧ s.unit.mode = .live then s.goDark 3 else s := by
  rw [State.idleExpiry, on]

end Expiry

/-! ## MODE from each mode -/

section FromMode

variable {s : State} {p : Port} (ready : s.portReady p) (tag : U8)
include ready

theorem exec_mode_refused {target : U8} {st : Status} {field : Nat} (refusal : st.isRefusal = true)
    (h : modeAction p target (s.beginRequest p 0x63 tag.val) = (s.beginRequest p 0x63 tag.val, .refuse st field)) :
    exec (.mode p tag target) s = .next (s.refusal p 0x63 tag st field 0 0) :=
  congrArg Host.Outcome.next (State.settledRequest_refused ready tag refusal h)

theorem exec_mode_taken {target : U8} {t : State}
    (h : modeAction p target (s.beginRequest p 0x63 tag.val) = (t.beginRequest p 0x63 tag.val, .ok)) :
    exec (.mode p tag target) s = .next ((settleIdle s t).ok p 0x63 tag) :=
  congrArg Host.Outcome.next (State.settledRequest_taken ready tag (by decide) h)

theorem exec_mode_same {target : U8}
    (h : modeAction p target (s.beginRequest p 0x63 tag.val) = (s.beginRequest p 0x63 tag.val, .ok)) :
    exec (.mode p tag target) s = .next (s.ok p 0x63 tag) := by
  rw [exec_mode_taken ready tag h, settleIdle_self]

theorem exec_mode_invalid {f : Failure} (setup : s.unit.mode = .setup) (right : (s.rights p).config = true)
    (idle : s.unit.saving = none) (invalid : s.config.validate = some f) :
    exec (.mode p tag 2) s = .next (s.refusal p 0x63 tag .configInvalid f.table f.index f.check) := by
  have act : modeAction p 2 (s.beginRequest p 0x63 tag.val) = (s.beginRequest p 0x63 tag.val,
      { status := .configInvalid, field := f.table, index := f.index, residual := f.check }) := by
    have validate : (s.beginRequest p 0x63 tag.val).config.validate = some f := invalid
    rw [modeAction_dark, State.unit_beginRequest, setup, State.rights_beginRequest, right, idle, validate]
    rfl
  exact congrArg Host.Outcome.next (State.request_refused ready 0x63 tag rfl (by rw [settled, act, settleIdle_self]))

/-- MODE from SETUP (R162, R164). -/
theorem mode_from_setup (f : Failure) (setup : s.unit.mode = .setup) :
    exec (.mode p tag 1) s = .next (s.ok p 0x63 tag)
    ∧ exec (.mode p tag 3) s = .next (s.refused p 0x63 tag .wrongState)
    ∧ ((s.rights p).config = false → exec (.mode p tag 2) s = .next (s.refused p 0x63 tag .noRight))
    ∧ ((s.rights p).config = true → s.unit.saving ≠ none → exec (.mode p tag 2) s = .next (s.refused p 0x63 tag .busy))
    ∧ ((s.rights p).config = true → s.unit.saving = none →
      (s.config.validate = some f →
        exec (.mode p tag 2) s = .next (s.refusal p 0x63 tag .configInvalid f.table f.index f.check))
      ∧ (s.config.validate = none → exec (.mode p tag 2) s = .next ((settleIdle s s.leaveSetup).ok p 0x63 tag))) := by
  refine ⟨exec_mode_same ready tag ?_, exec_mode_refused ready tag rfl ?_, fun right => exec_mode_refused ready tag rfl ?_,
    fun right saving => exec_mode_refused ready tag rfl ?_, fun right idle => ⟨exec_mode_invalid ready tag setup right idle,
      fun valid => exec_mode_taken ready tag ?_⟩⟩
  · rw [modeAction_setup, State.unit_beginRequest, setup]
  · rw [modeAction_live, State.unit_beginRequest, setup]
  · rw [modeAction_dark, State.unit_beginRequest, setup, State.rights_beginRequest]
    exact if_pos right
  · rw [modeAction_dark, State.unit_beginRequest, setup, State.rights_beginRequest, right]
    exact if_pos (Option.isSome_iff_ne_none.mpr saving)
  · have validate : (s.beginRequest p 0x63 tag.val).config.validate = none := valid
    rw [modeAction_dark, State.unit_beginRequest, setup, State.rights_beginRequest, right, idle, validate,
      State.leaveSetup_beginRequest]
    rfl

/-- MODE from LIVE (R162, R164). -/
theorem mode_from_live (live : s.unit.mode = .live) :
    exec (.mode p tag 3) s = .next (s.ok p 0x63 tag)
    ∧ exec (.mode p tag 1) s = .next (s.refused p 0x63 tag .wrongState)
    ∧ ((s.rights p).showRight = false → exec (.mode p tag 2) s = .next (s.refused p 0x63 tag .noRight))
    ∧ ((s.rights p).showRight = true → s.anyTrackMoves = true ∨ s.clock.run ≠ .stopped →
      exec (.mode p tag 2) s = .next (s.refused p 0x63 tag .busy))
    ∧ ((s.rights p).showRight = true → s.anyTrackMoves = false → s.clock.run = .stopped →
      exec (.mode p tag 2) s = .next ((s.goDark 1).ok p 0x63 tag)) := by
  have moves : (s.beginRequest p 0x63 tag.val).anyTrackMoves = s.anyTrackMoves := rfl
  refine ⟨exec_mode_same ready tag ?_, exec_mode_refused ready tag rfl ?_, fun right => exec_mode_refused ready tag rfl ?_,
    fun right busy => exec_mode_refused ready tag rfl ?_, fun right still stopped => ?_⟩
  · rw [modeAction_live, State.unit_beginRequest, live]
  · rw [modeAction_setup, State.unit_beginRequest, live]
  · rw [modeAction_dark, State.unit_beginRequest, live, State.rights_beginRequest]
    exact if_pos right
  · rw [modeAction_dark, State.unit_beginRequest, live, State.rights_beginRequest, right]
    exact if_pos busy
  · have open_ : ¬ (s.anyTrackMoves = true ∨ s.clock.run ≠ .stopped) := fun h =>
      h.elim (fun e => Bool.false_ne_true (still.symm.trans e)) (· stopped)
    have taken := exec_mode_taken ready tag (target := 2) (t := s.goDark 1) (by
      rw [modeAction_dark, State.unit_beginRequest, live, State.rights_beginRequest, right, moves, State.clock_beginRequest,
        ← State.goDark_beginRequest]
      exact if_neg open_)
    rw [taken, State.goDark_settled]

/-- MODE from DARK, entry to SETUP apart (R162, R164). -/
theorem mode_from_dark (dark : s.unit.mode = .dark) :
    exec (.mode p tag 2) s = .next (s.ok p 0x63 tag)
    ∧ ((s.rights p).showRight = false → exec (.mode p tag 3) s = .next (s.refused p 0x63 tag .noRight))
    ∧ ((s.rights p).showRight = true → exec (.mode p tag 3) s = .next ((settleIdle s s.goLive).ok p 0x63 tag))
    ∧ ((s.rights p).config = false → exec (.mode p tag 1) s = .next (s.refused p 0x63 tag .noRight))
    ∧ ((s.rights p).config = true → s.shaper.outputsAtRest = false →
      exec (.mode p tag 1) s = .next (s.refused p 0x63 tag .busy)) := by
  refine ⟨exec_mode_same ready tag ?_, fun right => exec_mode_refused ready tag rfl ?_, fun right => exec_mode_taken ready tag ?_,
    fun right => exec_mode_refused ready tag rfl ?_, fun right moving => exec_mode_refused ready tag rfl ?_⟩
  · rw [modeAction_dark, State.unit_beginRequest, dark]
  · rw [modeAction_live, State.unit_beginRequest, dark, State.rights_beginRequest]
    exact if_pos right
  · rw [modeAction_live, State.unit_beginRequest, dark, State.rights_beginRequest, right, State.goLive_beginRequest]
    rfl
  · rw [modeAction_setup, State.unit_beginRequest, dark, State.rights_beginRequest]
    exact if_pos right
  · rw [modeAction_setup, State.unit_beginRequest, dark, State.rights_beginRequest, right]
    exact if_pos moving

/-- MODE from DARK to SETUP: entry to SETUP, and nothing follows but the idle timer and the answer (R163). -/
theorem mode_enters_setup (dark : s.unit.mode = .dark) (right : (s.rights p).config = true)
    (rest : s.shaper.outputsAtRest = true) : ∃ t, exec (.mode p tag 1) s = .next t
      ∧ SameShow (s.beginRequest p 0x63 tag.val).enterSetup t ∧ (t.port p).state = .answering 0x63 tag ⟨.ok, .empty⟩ := by
  have act : modeAction p 1 (s.beginRequest p 0x63 tag.val) = ((s.beginRequest p 0x63 tag.val).enterSetup, .ok) := by
    have shaper : (s.beginRequest p 0x63 tag.val).shaper = s.shaper := rfl
    rw [modeAction_setup, State.unit_beginRequest, dark, State.rights_beginRequest, right, shaper, rest]
    rfl
  have next : s.request p 0x63 tag (settled (modeAction p 1)) = (settleIdle (s.beginRequest p 0x63 tag.val)
      (s.beginRequest p 0x63 tag.val).enterSetup).respond p 0x63 tag .ok := by
    rw [State.request_of_portReady ready, settled, act]
  refine ⟨_, (exec_mode p tag 1 s).trans (congrArg Host.Outcome.next next),
    (settleIdle_sameShow _ _).trans (State.respond_sameShow _ p 0x63 tag.val .ok), ?_⟩
  rw [State.respond, State.port_setPort_self]
  rfl

end FromMode

/-- What two states that are the same beside the idle timer and the ports have in common. -/
theorem SameShow.parts {s u : State} (h : SameShow s u) : u.directory = s.directory ∧ u.range = s.range ∧ u.tracks = s.tracks
    ∧ u.clock = s.clock ∧ u.jets = s.jets ∧ u.fixtures = s.fixtures ∧ u.headers = s.headers ∧ u.nodes = s.nodes
    ∧ u.cues = s.cues ∧ u.config = s.config := by
  rw [h.same]
  exact ⟨rfl, rfl, rfl, rfl, rfl, rfl, rfl, rfl, rfl, rfl⟩

/-- Settles O54: MODE mode by mode, and the expiry by the timer. -/
theorem modeAndIdleTimer : Obligations.ModeAndIdleTimer := by
  unfold Obligations.ModeAndIdleTimer
  intro s p q x tag target f ch d
  refine ⟨fun off => ?_, fun on early => ?_, fun on reached live => ?_, fun ready => ⟨fun unknown => ?_, mode_from_setup ready tag f,
    mode_from_live ready tag, fun dark => ?_⟩⟩
  · rw [exec_idleTimerExpiry, State.idleExpiry_off off]
  · rw [exec_idleTimerExpiry, State.idleExpiry_set on, if_neg]
    exact fun h => early.elim (Nat.not_lt.mpr h.1) (· h.2)
  · rw [exec_idleTimerExpiry, State.idleExpiry_set on, if_pos ⟨reached, live⟩]
    rfl
  · exact exec_mode_refused ready tag rfl (modeAction_unknown p _ unknown)
  · obtain ⟨same, noShow, goes, noConfig, moving⟩ := mode_from_dark ready tag dark
    refine ⟨same, noShow, goes, noConfig, moving, fun right rest => ?_⟩
    obtain ⟨t, next, after, answer⟩ := mode_enters_setup ready tag dark right rest
    have safety := after.safety
    obtain ⟨directory, range, tracks, clock, jets, fixtures, headers, nodes, cues, config⟩ := after.parts
    obtain ⟨jetsOff, fixturesOff⟩ := (s.beginRequest p 0x63 tag.val).enterSetup_outputs
    obtain ⟨sameHeaders, sameNodes, sameCues, sameConfig⟩ := (s.beginRequest p 0x63 tag.val).enterSetup_stands
    obtain ⟨waiters, arrivals⟩ := (s.beginRequest p 0x63 tag.val).enterSetup_queue
    refine ⟨t, next, ?_, after.told _ _ (State.enterSetup_tells_all _ q), ?_,
      fun holder => after.told _ _ (State.enterSetup_tells_holder _ holder),
      fun waits => after.told _ _ (State.enterSetup_tells_waiter _ waits), by rw [directory, waiters], by rw [directory, arrivals],
      fun r active => ?_, ?_, fun k b track => after.told _ _ (State.enterSetup_tells_owner _ (Option.mem_toList.mp track)), ?_, fun j => ?_, fun i => ?_, answer,
      safety.trans (State.enterSetup_safety _), headers.trans sameHeaders, nodes.trans sameNodes, cues.trans sameCues,
      config.trans sameConfig⟩
    · rw [after.mode, (State.enterSetup_outside _).1]
    · rw [State.entry_of_directory directory, State.enterSetup_entry]
      rfl
    · have before : (s.beginRequest p 0x63 tag.val).range.active = some r := Option.mem_toList.mp active
      rw [range, State.enterSetup_range _ before]
      rfl
    · rw [tracks]
      exact Table.ext_get fun k => (State.enterSetup_track _ k).trans (Table.get_fill none k).symm
    · rw [clock, State.enterSetup_clock]
      rfl
    · rw [jets, jetsOff]
      rfl
    · rw [fixtures, fixturesOff]
      rfl

end Sys2Proof.Machine

/-!
# Show reset (09 R168)
-/

namespace Sys2Proof.Machine

/-- Only what a show reset clears differs. -/
def OnlyCleared (s t : State) : Prop :=
  t = { s with tracks := t.tracks, range := t.range, directory := t.directory, clock := t.clock, safety := t.safety
               unit := t.unit, ports := t.ports }

theorem OnlyCleared.trans {s t u : State} (h : OnlyCleared s t) (k : OnlyCleared t u) : OnlyCleared s u := by
  unfold OnlyCleared at *; rw [k, h]

theorem SameShow.cleared {s u : State} (h : SameShow s u) : OnlyCleared s u := by
  have same := h.same
  unfold OnlyCleared
  rw [same]

theorem State.showReset_only (s : State) : OnlyCleared s s.showReset := by
  have cleared : OnlyCleared s s.clearedShow := rfl
  have dark : ∀ (u : State) d, OnlyCleared u (u.goDark d) := fun _ _ => rfl
  rw [State.showReset_eq]
  split_ifs
  · exact cleared.trans (dark _ 4)
  · exact cleared

/-- A port after a show reset: its notices and its lost-notice flag cleared, MODE_CHANGED its one notice where LIVE became
DARK. -/
theorem State.showReset_port (s : State) (q : Port) : s.showReset.port q = ⟨(s.port q).state, (s.port q).error,
    if s.unit.mode = .live then [⟨.modeChanged, 255, 4, 0, .none⟩] else [], false, (s.port q).resetHeld⟩ := by
  have cleared : s.clearedShow.port q = ⟨(s.port q).state, (s.port q).error, [], false, (s.port q).resetHeld⟩ := by
    cases q <;> rfl
  have unit : s.clearedShow.unit = s.unit := rfl
  have dark : ∀ (u : State) d, (u.goDark d).port q = (u.port q).receive ⟨.modeChanged, 255, d, u.clock.value, .none⟩ :=
    fun u d => (State.port_postTo (u.setUnit { u.unit with mode := .dark, idleDeadline := none }) everyPort .modeChanged 255 d q).trans
      (if_pos (by cases q <;> rfl))
  rw [State.showReset_eq, unit]
  split_ifs
  · rw [dark, cleared]
    rfl
  · exact cleared

theorem State.showReset_entry (s : State) (ch : Fin 177) : s.showReset.entry ch =
    ⟨if ch.val < 176 ∧ s.safety.state ≠ .normal then .safed else .free, ⟨false, false, false⟩, none⟩ := by
  rw [State.entry_of_directory s.showReset_directory, State.directoryShowReset_entry]
  simp only [showResetEntry, noPorts, beq_eq_false_iff_ne]

/-- What a show reset makes of a state, with the idle condition evaluated after it. -/
structure ShowCleared (s t : State) : Prop where
  tracks : t.tracks = Table.fill none
  range : t.range = ⟨none, none⟩
  entry : ∀ ch : Fin 177, t.entry ch =
    ⟨if ch.val < 176 ∧ s.safety.state ≠ .normal then .safed else .free, ⟨false, false, false⟩, none⟩
  waiters : t.directory.waiters = []
  arrivals : t.directory.arrivals = 1
  clock : t.clock = ClockUnit.reset
  safety : t.safety = { s.safety with freeze := .none }
  live : s.unit.mode = .live → t.unit = ⟨.dark, none, s.unit.saving, s.unit.outcome⟩
  other : s.unit.mode ≠ .live → t.unit.mode = s.unit.mode ∧ t.unit.saving = s.unit.saving ∧ t.unit.outcome = s.unit.outcome
  notices : ∀ q, (t.port q).notices = if s.unit.mode = .live then [⟨.modeChanged, 255, 4, 0, .none⟩] else []
  lost : ∀ q, (t.port q).lost = false
  resetHeld : ∀ q, (t.port q).resetHeld = (s.port q).resetHeld
  stands : OnlyCleared s t

section ShowCleared

variable (s : State)

theorem State.showReset_settled_unit : (s.unit.mode = .live → (settleIdle s s.showReset).unit = ⟨.dark, none, s.unit.saving, s.unit.outcome⟩)
    ∧ (s.unit.mode ≠ .live → (settleIdle s s.showReset).unit.mode = s.unit.mode
      ∧ (settleIdle s s.showReset).unit.saving = s.unit.saving ∧ (settleIdle s s.showReset).unit.outcome = s.unit.outcome) := by
  have unit := s.showReset_unit
  refine ⟨fun live => ?_, fun other => ?_⟩
  · have reset : s.showReset = s.clearedShow.goDark 4 := by rw [State.showReset_eq]; exact if_pos live
    rw [if_pos live] at unit
    rw [reset, State.goDark_settled, ← reset, unit]
  · rw [if_neg other] at unit
    rw [settleIdle_only, unit]
    exact ⟨rfl, rfl, rfl⟩

theorem State.showReset_cleared : ShowCleared s (settleIdle s s.showReset) := by
  have after := settleIdle_sameShow s s.showReset
  obtain ⟨directory, range, tracks, clock, -⟩ := after.parts
  have ports : ∀ q, (settleIdle s s.showReset).port q = s.showReset.port q := fun q => by rw [settleIdle_only]; rfl
  have emptied : s.directoryShowReset.directory.waiters = [] ∧ s.directoryShowReset.directory.arrivals = 1 := ⟨rfl, rfl⟩
  obtain ⟨live, other⟩ := s.showReset_settled_unit
  exact {
    tracks := by rw [tracks]; exact Table.ext_get fun k => (s.showReset_track k).trans (Table.get_fill none k).symm
    range := by rw [range, s.showReset_range]; rfl
    entry := fun ch => by rw [State.entry_of_directory directory, s.showReset_entry]
    waiters := by rw [directory, s.showReset_directory, emptied.1]
    arrivals := by rw [directory, s.showReset_directory, emptied.2]
    clock := by rw [clock, s.showReset_clock]
    safety := by rw [after.safety, s.showReset_safety]
    live := live
    other := other
    notices := fun q => by rw [ports, s.showReset_port]
    lost := fun q => by rw [ports, s.showReset_port]
    resetHeld := fun q => by rw [ports, s.showReset_port]
    stands := s.showReset_only.trans after.cleared }

/-- A show reset leaves what a port was about, and its error detail. -/
theorem State.showReset_settled_port (q : Port) : ((settleIdle s s.showReset).port q).state = (s.port q).state
    ∧ ((settleIdle s s.showReset).port q).error = (s.port q).error := by
  have ports : (settleIdle s s.showReset).port q = s.showReset.port q := by rw [settleIdle_only]; rfl
  rw [ports, s.showReset_port]
  exact ⟨rfl, rfl⟩

end ShowCleared

/-! ## The request and the line -/

theorem exec_showReset (p : Port) (tag : U8) (s : State) :
    exec (.showReset p tag) s = .next (s.request p 0x64 tag (settled (showResetAction p))) := rfl

theorem exec_showResetLine (s : State) : exec .showResetLine s = .next (settleIdle s s.showReset) := rfl

section Request

variable (s : State) (p : Port) (tag : U8)

/-- A show reset by request, with its answer. -/
def State.showResetAnswered : State :=
  (settleIdle (s.beginRequest p 0x64 tag.val) (s.beginRequest p 0x64 tag.val).showReset).ok p 0x64 tag

theorem exec_showReset_taken {s : State} {p : Port} (ready : s.portReady p) (tag : U8) (right : (s.rights p).safety = true) :
    exec (.showReset p tag) s = .next (s.showResetAnswered p tag) := by
  have answer : ∀ u : State, u.respond p 0x64 tag.val .ok = u.ok p 0x64 tag := fun _ => rfl
  have act : showResetAction p (s.beginRequest p 0x64 tag.val) = ((s.beginRequest p 0x64 tag.val).showReset, .ok) := by
    rw [showResetAction, State.rights_beginRequest, if_pos right]
  rw [exec_showReset, State.request_of_portReady ready, settled, act]
  exact congrArg Host.Outcome.next (answer _)

theorem State.port_ok_self (u : State) : (u.ok p 0x64 tag).port p =
    { u.port p with state := .answering 0x64 tag ⟨.ok, .empty⟩, error := none } := by
  rw [State.ok, State.answered, State.port_setPort_self]

theorem State.port_ok_ne (u : State) {q : Port} (h : q ≠ p) : (u.ok p 0x64 tag).port q = u.port q := by
  rw [State.ok, State.answered, State.port_setPort_ne _ _ h.symm]

/-- The answer leaves the queues. -/
theorem State.queues_ok (u : State) (q : Port) : ((u.ok p 0x64 tag).port q).notices = (u.port q).notices
    ∧ ((u.ok p 0x64 tag).port q).lost = (u.port q).lost ∧ ((u.ok p 0x64 tag).port q).resetHeld = (u.port q).resetHeld := by
  by_cases own : q = p
  · subst own
    rw [State.port_ok_self]
    exact ⟨rfl, rfl, rfl⟩
  · rw [State.port_ok_ne p tag u own]
    exact ⟨rfl, rfl, rfl⟩

theorem State.begun_stands : OnlyCleared s (s.beginRequest p 0x64 tag.val) := rfl

theorem State.ok_stands (u : State) : OnlyCleared u (u.ok p 0x64 tag) := rfl

theorem State.begun_resetHeld (q : Port) : ((s.beginRequest p 0x64 tag.val).port q).resetHeld = (s.port q).resetHeld := by
  by_cases own : q = p
  · subst own
    rw [State.beginRequest, State.port_setPort_self]
  · rw [State.beginRequest, State.port_setPort_ne _ _ (Ne.symm own)]

theorem State.showResetAnswered_cleared : ShowCleared s (s.showResetAnswered p tag) := by
  have cleared := (s.beginRequest p 0x64 tag.val).showReset_cleared
  have queues := State.queues_ok p tag (settleIdle (s.beginRequest p 0x64 tag.val) (s.beginRequest p 0x64 tag.val).showReset)
  exact {
    tracks := cleared.tracks
    range := cleared.range
    entry := cleared.entry
    waiters := cleared.waiters
    arrivals := cleared.arrivals
    clock := cleared.clock
    safety := cleared.safety
    live := cleared.live
    other := cleared.other
    notices := fun q => (queues q).1.trans (cleared.notices q)
    lost := fun q => (queues q).2.1.trans (cleared.lost q)
    resetHeld := fun q => (queues q).2.2.trans ((cleared.resetHeld q).trans (s.begun_resetHeld p tag q))
    stands := ((s.begun_stands p tag).trans cleared.stands).trans (State.ok_stands p tag _) }

theorem State.showResetAnswered_other {q : Port} (h : q ≠ p) : ((s.showResetAnswered p tag).port q).state = (s.port q).state
    ∧ ((s.showResetAnswered p tag).port q).error = (s.port q).error := by
  have begun : (s.beginRequest p 0x64 tag.val).port q = s.port q := State.port_setPort_ne _ _ h.symm
  obtain ⟨state, error⟩ := (s.beginRequest p 0x64 tag.val).showReset_settled_port q
  rw [State.showResetAnswered, State.port_ok_ne p tag _ h, state, error, begun]
  exact ⟨rfl, rfl⟩

end Request

/-- Settles O56: the request and the line clear the same. -/
theorem showReset : Obligations.ShowReset := by
  unfold Obligations.ShowReset
  intro s p q tag c ch
  refine ⟨fun ready right => ?_, fun command => ?_⟩
  · refine congrArg Host.Outcome.next (State.settledRequest_refused ready tag rfl ?_)
    rw [showResetAction, State.rights_beginRequest, right]
    rfl
  · obtain ⟨t, next, cleared, answer, others⟩ : ∃ t, exec c s = .next t ∧ ShowCleared s t
        ∧ (c = .showReset p tag → (t.port p).state = .answering 0x64 tag ⟨.ok, .empty⟩ ∧ (t.port p).error = none)
        ∧ (c = .showResetLine ∨ q ≠ p → (t.port q).state = (s.port q).state ∧ (t.port q).error = (s.port q).error) := by
      rcases command with ⟨rfl, ready, right⟩ | rfl
      · refine ⟨_, exec_showReset_taken ready tag right, s.showResetAnswered_cleared p tag, fun _ => ?_, fun other =>
          s.showResetAnswered_other p tag (other.resolve_left fun e => nomatch e)⟩
        rw [State.showResetAnswered, State.port_ok_self]
        exact ⟨rfl, rfl⟩
      · exact ⟨_, exec_showResetLine s, s.showReset_cleared, fun e => (nomatch e), fun _ => s.showReset_settled_port q⟩
    refine ⟨t, next, cleared.tracks, cleared.range, cleared.entry ch, cleared.waiters, cleared.arrivals, cleared.clock,
      cleared.safety, fun live => ⟨cleared.live live, ?_⟩, fun other => ?_, cleared.lost q, cleared.resetHeld q, answer, others,
      cleared.stands⟩
    · rw [cleared.notices q, if_pos live]
    · obtain ⟨mode, saving, outcome⟩ := cleared.other other
      exact ⟨mode, saving, outcome, by rw [cleared.notices q, if_neg other]⟩

end Sys2Proof.Machine

/-!
# The validation of the tables (09 R161)
-/

namespace Sys2Proof.Machine

/-! ## What a check finds -/

/-- A result that finds nothing exactly where the requirement holds, and otherwise names an index that the check reports. -/
structure CheckSettles (holds : Prop) (reports : Nat → Prop) (result : Option Nat) : Prop where
  none_iff : result = none ↔ holds
  some_reports : ∀ index, result = some index → reports index

theorem find?_indices (n : Nat) (p : Fin n → Bool) : (Table.indices n).find? p = Fin.find? p := by
  rw [indices_eq, Fin.find?_eq_find?_finRange]

theorem findSome?_indices {α : Type} (n : Nat) (f : Fin n → Option α) : (Table.indices n).findSome? f = Fin.findSome? f := by
  rw [indices_eq, Fin.findSome?_eq_findSome?_finRange]

/-- The lowest index at which a requirement of every entry fails. -/
theorem firstBad_settles {n : Nat} {bad : Fin n → Bool} {ok : Fin n → Prop} (means : ∀ i, bad i = true ↔ ¬ ok i) :
    CheckSettles (∀ i, ok i) (fun index => ∃ i : Fin n, i.val = index ∧ ¬ ok i ∧ ∀ k, k < i → ok k) (firstBad bad) := by
  have good : ∀ i, bad i = false ↔ ok i := fun i => by rw [← Bool.not_eq_true, means, not_not]
  refine ⟨?_, fun index found => ?_⟩
  · rw [firstBad, find?_indices, Option.map_eq_none_iff, Fin.find?_eq_none_iff]
    exact forall_congr' good
  · rw [firstBad, find?_indices, Option.map_eq_some_iff] at found
    obtain ⟨i, first, rfl⟩ := found
    obtain ⟨fails, before⟩ := Fin.find?_eq_some_iff.mp first
    exact ⟨i, rfl, (means i).mp fails, fun k lt => (good k).mp (before k lt)⟩

/-- The first pair of entries that clash, by its lower index and then its higher (log 31). -/
theorem firstPair_settles {n : Nat} {clash : Fin n → Fin n → Bool} {C : Fin n → Fin n → Prop}
    (means : ∀ i j, clash i j = true ↔ C i j) : CheckSettles (∀ i j, i < j → ¬ C i j)
      (fun index => ∃ i j : Fin n, i < j ∧ j.val = index ∧ C i j ∧ (∀ k, i < k → k < j → ¬ C i k)
        ∧ ∀ h k, h < i → h < k → ¬ C h k) (firstPair clash) := by
  have free : ∀ i j, (decide (i < j) && clash i j) = false ↔ (i < j → ¬ C i j) := fun i j => by
    rw [Bool.and_eq_false_imp, decide_eq_true_iff, ← Bool.not_eq_true, means]
  have row : ∀ i, Fin.find? (fun j => decide (i < j) && clash i j) = none ↔ ∀ j, i < j → ¬ C i j := fun i =>
    Fin.find?_eq_none_iff.trans (forall_congr' (free i))
  unfold firstPair
  simp only [findSome?_indices, find?_indices]
  refine ⟨?_, fun index found => ?_⟩
  · rw [Option.map_eq_none_iff, Fin.findSome?_eq_none_iff]
    exact forall_congr' row
  · obtain ⟨j, first, rfl⟩ := Option.map_eq_some_iff.mp found
    obtain ⟨i, found, before⟩ := Fin.findSome?_eq_some_iff.mp first
    obtain ⟨hit, between⟩ := Fin.find?_eq_some_iff.mp found
    rw [Bool.and_eq_true, decide_eq_true_iff, means] at hit
    exact ⟨i, j, hit.1, rfl, hit.2, fun k low high => (free i k).mp (between k high) low,
      fun h k low => (row h).mp (before h low) k⟩

theorem CheckSettles.congr {holds holds' : Prop} {reports reports' : Nat → Prop} {result : Option Nat}
    (h : CheckSettles holds reports result) (same : holds ↔ holds') (sameReports : ∀ index, reports index ↔ reports' index) :
    CheckSettles holds' reports' result :=
  ⟨h.none_iff.trans same, fun index found => (sameReports index).mp (h.some_reports index found)⟩

/-! ## The curves of a jet (check 4) -/

theorem rising_iff {l : List Nat} : rising l = true ↔ l.IsChain (· ≤ ·) := by
  induction l with
  | nil => simp [rising]
  | cons a rest ih =>
    cases rest with
    | nil => simp [rising]
    | cons b rest => rw [rising, Bool.and_eq_true, decide_eq_true_iff, ih, List.isChain_cons_cons]

theorem rising_rows (curve : Table Nat 9) : rising curve.rows = true ↔ ∀ k : Fin 8, curve.get k.castSucc ≤ curve.get k.succ := by
  rw [rising_iff, List.isChain_iff_getElem]
  refine ⟨fun h k => h k.val (by rw [curve.size]; omega), fun h i hi => ?_⟩
  rw [curve.size] at hi
  exact h ⟨i, by omega⟩

/-- Check 4 of one jet. -/
theorem JetConfig.curvesOk_iff (e : JetConfig) : e.curvesOk = true ↔
    (∀ k : Fin 8, e.openings.get k.castSucc ≤ e.openings.get k.succ ∧ e.flows.get k.castSucc ≤ e.flows.get k.succ)
    ∧ e.openings.get 0 = 0 ∧ e.flows.get 0 = 0 ∧ 1 ≤ e.openings.get 8 := by
  rw [JetConfig.curvesOk]
  simp only [Bool.and_eq_true, rising_rows, beq_iff_eq, decide_eq_true_iff, forall_and, and_assoc]

/-! ## The SENSE node (check 9) -/

theorem Tables.senseFault_settles (t : Tables) : CheckSettles
    (∃ n : Fin 32, t.nodes.get n = .sense ∧ ∀ m : Fin 32, t.nodes.get m = .sense → m = n)
    (fun index => (index = 0 ∧ ∀ n : Fin 32, t.nodes.get n ≠ .sense)
      ∨ ∃ n m : Fin 32, n < m ∧ m.val = index ∧ t.nodes.get n = .sense ∧ t.nodes.get m = .sense
        ∧ ∀ k, k < m → k ≠ n → t.nodes.get k ≠ .sense) t.senseFault := by
  have listed : ∀ n, n ∈ (Table.indices 32).filter (fun n => t.nodes.get n == .sense) ↔ t.nodes.get n = .sense := fun n => by
    rw [List.mem_filter, beq_iff_eq, and_iff_right (Table.mem_indices n)]
  have sorted : ((Table.indices 32).filter fun n => t.nodes.get n == .sense).Pairwise (· < ·) := (indices_pairwise 32).filter _
  unfold Tables.senseFault
  generalize (Table.indices 32).filter (fun n => t.nodes.get n == .sense) = l at listed sorted
  match l with
  | [] =>
    have none_ : ∀ n, t.nodes.get n ≠ .sense := fun n h => List.not_mem_nil ((listed n).mpr h)
    refine ⟨⟨fun e => (nomatch e), fun ⟨n, sense, _⟩ => absurd sense (none_ n)⟩, fun index found => .inl ⟨?_, none_⟩⟩
    exact (Option.some.inj found).symm
  | [n] =>
    refine ⟨⟨fun _ => ⟨n, (listed n).mp (List.mem_singleton_self n), fun m h => List.mem_singleton.mp ((listed m).mpr h)⟩, fun _ => rfl⟩,
      fun index found => (nomatch found)⟩
  | n :: m :: rest =>
    have first : t.nodes.get n = .sense := (listed n).mp List.mem_cons_self
    have second : t.nodes.get m = .sense := (listed m).mp (List.mem_cons_of_mem _ List.mem_cons_self)
    have lt : n < m := (List.pairwise_cons.mp sorted).1 m List.mem_cons_self
    refine ⟨⟨fun e => (nomatch e), fun ⟨k, _, only⟩ => absurd ((only n first).trans (only m second).symm) lt.ne⟩,
      fun index found => .inr ⟨n, m, lt, Option.some.inj found, first, second, fun k low ne sense => ?_⟩⟩
    rcases List.mem_cons.mp ((listed k).mpr sense) with rfl | later
    · exact ne rfl
    · rcases List.mem_cons.mp later with rfl | later
      · exact lt_irrefl _ low
      · exact lt_asymm low ((List.pairwise_cons.mp (List.pairwise_cons.mp sorted).2).1 k later)

/-! ## The ten checks -/

section Checks

variable (t : Tables)

/-- What the check of a number finds. -/
def Tables.found (k : Nat) : Option Nat := (t.checks[k - 1]?).bind Prod.snd

theorem Tables.headers_settle : CheckSettles (t.requires 1) (t.reports 1) (t.found 1) :=
  firstBad_settles (ok := fun j => (t.jets.get j).enabled = true → (t.headers.get (t.jets.get j).header).enabled = true)
    fun j => by simp

theorem Tables.valves_settle : CheckSettles (t.requires 2) (t.reports 2) (t.found 2) :=
  firstBad_settles (ok := fun j => (t.jets.get j).enabled = true → t.nodes.get (t.jets.get j).node = .valve8) fun j => by simp

theorem Tables.jetSlots_settle : CheckSettles (t.requires 3) (t.reports 3) (t.found 3) :=
  (firstPair_settles (C := fun i j => (t.jets.get i).enabled = true ∧ (t.jets.get j).enabled = true
      ∧ (t.jets.get i).node = (t.jets.get j).node ∧ (t.jets.get i).slot = (t.jets.get j).slot)
    fun i j => by simp only [Bool.and_eq_true, beq_iff_eq, and_assoc]).congr
    ⟨fun h i j ne on on' same => ne.lt_or_gt.elim (fun lt => h i j lt ⟨on, on', same⟩)
        fun lt => h j i lt ⟨on', on, same.1.symm, same.2.symm⟩,
      fun h i j lt ⟨on, on', same⟩ => h i j lt.ne on on' same⟩ fun _ => Iff.rfl

theorem Tables.curves_settle : CheckSettles (t.requires 4) (t.reports 4) (t.found 4) :=
  firstBad_settles (ok := fun j => (t.jets.get j).enabled = true →
    (∀ k : Fin 8, (t.jets.get j).openings.get k.castSucc ≤ (t.jets.get j).openings.get k.succ
      ∧ (t.jets.get j).flows.get k.castSucc ≤ (t.jets.get j).flows.get k.succ)
    ∧ (t.jets.get j).openings.get 0 = 0 ∧ (t.jets.get j).flows.get 0 = 0 ∧ 1 ≤ (t.jets.get j).openings.get 8)
    fun j => by rw [← JetConfig.curvesOk_iff]; simp

theorem Tables.drives_settle : CheckSettles (t.requires 5) (t.reports 5) (t.found 5) :=
  firstBad_settles (ok := fun h => (t.headers.get h).enabled = true → t.nodes.get (t.headers.get h).driveNode = .drive)
    fun h => by simp

theorem Tables.lamps_settle : CheckSettles (t.requires 6) (t.reports 6) (t.found 6) :=
  firstBad_settles (ok := fun f => (t.fixtures.get f).enabled = true → t.nodes.get (t.fixtures.get f).node = .lamp4)
    fun f => by simp

theorem Tables.fixtureSlots_settle : CheckSettles (t.requires 7) (t.reports 7) (t.found 7) :=
  (firstPair_settles (C := fun i j => (t.fixtures.get i).enabled = true ∧ (t.fixtures.get j).enabled = true
      ∧ (t.fixtures.get i).node = (t.fixtures.get j).node ∧ (t.fixtures.get i).slot = (t.fixtures.get j).slot)
    fun i j => by simp only [Bool.and_eq_true, beq_iff_eq, and_assoc]).congr
    ⟨fun h i j ne on on' same => ne.lt_or_gt.elim (fun lt => h i j lt ⟨on, on', same⟩)
        fun lt => h j i lt ⟨on', on, same.1.symm, same.2.symm⟩,
      fun h i j lt ⟨on, on', same⟩ => h i j lt.ne on on' same⟩ fun _ => Iff.rfl

theorem Tables.follow_settle : CheckSettles (t.requires 8) (t.reports 8) (t.found 8) :=
  firstBad_settles (ok := fun f => (t.fixtures.get f).enabled = true →
    ∀ j ∈ (t.fixtures.get f).followJet.toList, (t.jets.get j).enabled = true)
    fun f => by cases (t.fixtures.get f).followJet <;> simp

theorem Tables.sense_settle : CheckSettles (t.requires 9) (t.reports 9) (t.found 9) := t.senseFault_settles

theorem Tables.windows_settle : CheckSettles (t.requires 10) (t.reports 10) (t.found 10) := by
  have ports : ∀ p : Port, ∃ i : Fin 3, portOfIndex i.val = p := fun p => by cases p; exacts [⟨0, rfl⟩, ⟨1, rfl⟩, ⟨2, rfl⟩]
  have distinct : ∀ i j : Fin 3, i < j → portOfIndex i.val ≠ portOfIndex j.val := by decide
  refine (firstPair_settles (C := fun i j : Fin 3 => 0 < (t.rights.get (portOfIndex i)).length
      ∧ 0 < (t.rights.get (portOfIndex j)).length
      ∧ (t.rights.get (portOfIndex i)).base < (t.rights.get (portOfIndex j)).base + (t.rights.get (portOfIndex j)).length
      ∧ (t.rights.get (portOfIndex j)).base < (t.rights.get (portOfIndex i)).base + (t.rights.get (portOfIndex i)).length)
    fun i j => decide_eq_true_iff).congr ⟨fun h p q ne some_ some_' => ?_, fun h i j lt ⟨some_, some_', low, high⟩ => ?_⟩
    fun _ => Iff.rfl
  · obtain ⟨i, rfl⟩ := ports p
    obtain ⟨j, rfl⟩ := ports q
    rcases lt_trichotomy i j with lt | rfl | lt
    · have apart := h i j lt
      omega
    · exact absurd rfl ne
    · have apart := h j i lt
      omega
  · have apart := h _ _ (distinct i j lt) some_ some_'
    omega

/-- Each check finds nothing exactly where its requirement holds, and otherwise what it reports. -/
theorem Tables.check_settles {k : Nat} (low : 1 ≤ k) (high : k ≤ 10) : CheckSettles (t.requires k) (t.reports k) (t.found k) := by
  interval_cases k
  exacts [t.headers_settle, t.valves_settle, t.jetSlots_settle, t.curves_settle, t.drives_settle, t.lamps_settle,
    t.fixtureSlots_settle, t.follow_settle, t.sense_settle, t.windows_settle]

theorem Tables.checked_table {k : Nat} (low : 1 ≤ k) (high : k ≤ 10) :
    t.checks[k - 1]? = some (checkedTable k, t.found k) := by
  interval_cases k <;> rfl

end Checks

/-! ## The first failure -/

theorem firstFailure_eq_none {k : Nat} {l : List (Nat × Option Nat)} :
    firstFailure k l = none ↔ ∀ i : Nat, (l[i]?).bind Prod.snd = none := by
  induction l generalizing k with
  | nil => simp [firstFailure]
  | cons c rest ih =>
    obtain ⟨table, found⟩ := c
    cases found with
    | none =>
      rw [firstFailure, ih]
      exact ⟨fun h i => by cases i with | zero => rfl | succ i => exact h i, fun h i => h (i + 1)⟩
    | some index => exact ⟨fun h => (nomatch h), fun h => (nomatch h 0)⟩

theorem firstFailure_eq_some {k : Nat} {l : List (Nat × Option Nat)} {f : Failure} (h : firstFailure k l = some f) :
    k ≤ f.check ∧ l[f.check - k]? = some (f.table, some f.index) ∧ ∀ i : Nat, i < f.check - k → (l[i]?).bind Prod.snd = none := by
  induction l generalizing k with
  | nil => cases h
  | cons c rest ih =>
    obtain ⟨table, found⟩ := c
    cases found with
    | none =>
      obtain ⟨low, at_, before⟩ := ih h
      have shift : f.check - k = f.check - (k + 1) + 1 := by omega
      rw [shift]
      refine ⟨by omega, at_, fun i lt => ?_⟩
      cases i with
      | zero => rfl
      | succ i => exact before i (by omega)
    | some index =>
      obtain rfl := Option.some.inj h
      rw [Nat.sub_self]
      exact ⟨le_refl k, rfl, fun i lt => absurd lt (Nat.not_lt_zero i)⟩

/-- Settles O53: each check settles its requirement, and the validation takes them in order. -/
theorem validation : Obligations.Validation := by
  unfold Obligations.Validation
  intro t f
  have before : ∀ k, k ≤ 10 → (∀ i, i < k - 1 → (t.checks[i]?).bind Prod.snd = none) → ∀ j, j < k → t.requires j :=
    fun k most none_ j lt => by
      rcases Nat.eq_zero_or_pos j with rfl | pos
      · trivial
      · exact (t.check_settles pos (by omega)).none_iff.mp (none_ (j - 1) (by omega))
  refine ⟨?_, fun found => ?_⟩
  · rw [Tables.validate, firstFailure_eq_none]
    refine ⟨fun none_ k lt => ?_, fun all i => ?_⟩
    · rcases Nat.eq_zero_or_pos k with rfl | pos
      · trivial
      · exact (t.check_settles pos (by omega)).none_iff.mp (none_ (k - 1))
    · by_cases inside : i < 10
      · exact (t.check_settles (Nat.le_add_left 1 i) inside).none_iff.mpr (all (i + 1) (by omega))
      · have beyond : t.checks[i]? = none := List.getElem?_eq_none (Nat.le_of_not_lt inside)
        rw [beyond]
        rfl
  · obtain ⟨low, at_, earlier⟩ := firstFailure_eq_some found
    have high : f.check ≤ 10 := by
      have inside : f.check - 1 < 10 := (List.getElem?_eq_some_iff.mp at_).1
      omega
    have settles := t.check_settles low high
    have entry := Option.some.inj (at_.symm.trans (t.checked_table low high))
    have index : t.found f.check = some f.index := (Prod.mk.inj entry).2.symm
    refine ⟨low, high, (Prod.mk.inj entry).1, fun holds => ?_, settles.some_reports _ index, before _ high earlier⟩
    rw [settles.none_iff.mpr holds] at index
    cases index

end Sys2Proof.Machine

/-!
# Request frames (10 R170 to R172)
-/

namespace Sys2Proof.Laws.RequestCodec

/-- The body of every well-formed request spells the request again. -/
theorem body_spells (i : Instr) : Statement i := by
  cases i
  exacts [claim _ _ _ _ _, release _ _ _, set _ _ _ _, watch _ _ _, unwatch _ _ _, inquire _ _ _, range _ _ _ _ _ _ _,
    rangeStop _ _, rangeStatus _ _, rclaimStep, rreleaseStep, rsetStep, rwatchStep, runwatchStep, cueLoad _ _ _ _ _,
    cueRead _ _ _ _, trackArm _ _ _ _, trackStart _ _ _, trackPause _ _ _, trackResume _ _ _, trackStop _ _ _,
    trackStatus _ _ _, dueEvent _, clockRun _ _ _ _, clockStop _ _, clockStatus _ _, audioBlock _ _ _ _ _ _ _ _, clockTick,
    audioFrame, coastTick, frameEvent, ack _, busy, ident _, badCheckReply, replyWindowExpiry, strayReply, holdTimerExpiry,
    recallExpiry _, jetStatus _ _ _, headerStatus _ _ _, fixtureStatus _ _ _, nodeStatus _ _ _, safetyStop _ _,
    safetyAck _ _, estopAsserted, estopReleased, intrusionEdge, freeze _ _, thaw _ _, safetyStatus _ _,
    configWrite _ _ _ _ _, configRead _ _ _ _, configSave _ _, saveEnd _, mode _ _ _, idleTimerExpiry, showReset _ _,
    showResetLine, powerOnReset _ _, linkReset _, errorDetail _ _, noticeRead _ _, identify _ _, showStatus _ _,
    badFrame _ _, responseCollect _ _, linkResetReleased _]

end Sys2Proof.Laws.RequestCodec

namespace Sys2Proof.Machine

/-! ## The checks of a frame (R171) -/

section Frame

variable (p : Port) (kind tag high low : Byte)

theorem field16_val : (field16 high low).val = 256 * high.toNat + low.toNat := by
  show high.toNat * 256 + low.toNat = 256 * high.toNat + low.toNat
  rw [Nat.mul_comm]

theorem crcBytes_length (bytes : List Byte) : (crcBytes bytes).length = 2 := rfl

theorem checkFrame_short {rest : List Byte} (short : rest.length < 2) : checkFrame p (kind :: tag :: rest) = .error .badFrame := by
  match rest with
  | [] => rfl
  | [_] => rfl
  | _ :: _ :: _ => exact absurd short (by simp)

theorem checkFrame_length {rest : List Byte}
    (wrong : 1040 < 256 * high.toNat + low.toNat ∨ rest.length ≠ 256 * high.toNat + low.toNat + 2) :
    checkFrame p (kind :: tag :: high :: low :: rest) = .error .badFrame := by
  rw [checkFrame]
  refine if_neg fun h => ?_
  rw [field16_val, maxBody] at h
  omega

/-- A frame of the right length, by its CRC-16 and by the request its body spells. -/
theorem checkFrame_body {body tail : List Byte} (length : 256 * high.toNat + low.toNat = body.length) (most : body.length ≤ 1040)
    (two : tail.length = 2) : checkFrame p (kind :: tag :: high :: low :: (body ++ tail)) =
      if tail = crcBytes (kind :: tag :: high :: low :: body) then
        match parseBody p (fieldOf tag) kind.toNat body with
        | some i => .ok i
        | none => .error .badRequest
      else .error .badFrame := by
  have fits : (field16 high low).val = body.length := (field16_val high low).trans length
  rw [checkFrame, fits, List.drop_left, List.take_left, if_pos ⟨most, by rw [List.length_append, two]⟩] <;> rfl

theorem checkFrame_parsed {body : List Byte} {i : Instr} (length : 256 * high.toNat + low.toNat = body.length)
    (most : body.length ≤ 1040) (parsed : parseBody p (fieldOf tag) kind.toNat body = some i) :
    checkFrame p (kind :: tag :: high :: low :: (body ++ crcBytes (kind :: tag :: high :: low :: body))) = .ok i := by
  rw [checkFrame_body p kind tag high low length most (crcBytes_length _), if_pos rfl, parsed]

theorem checkFrame_unparsed {body : List Byte} (length : 256 * high.toNat + low.toNat = body.length)
    (most : body.length ≤ 1040) (unparsed : parseBody p (fieldOf tag) kind.toNat body = none) :
    checkFrame p (kind :: tag :: high :: low :: (body ++ crcBytes (kind :: tag :: high :: low :: body)))
      = .error .badRequest := by
  rw [checkFrame_body p kind tag high low length most (crcBytes_length _), if_pos rfl, unparsed]

end Frame

/-! ## The frame of a request -/

theorem requestFrame_parsed {p : Port} {tag : U8} {kind : Nat} {body : List Byte} {i : Instr} (code : kind < 256)
    (most : body.length ≤ 1040) (parsed : parseBody p tag kind body = some i) :
    checkFrame p (requestFrame kind tag body) = .ok i := by
  have kindByte : (byteOf kind).toNat = kind := by rw [byteOf, BitVec.toNat_ofNat]; exact Nat.mod_eq_of_lt code
  have length : 256 * (byteOf (body.length / 256)).toNat + (byteOf body.length).toNat = body.length := by
    rw [byteOf, byteOf, BitVec.toNat_ofNat, BitVec.toNat_ofNat]
    omega
  exact checkFrame_parsed p (byteOf kind) (byteOf tag) (byteOf (body.length / 256)) (byteOf body.length) length most
    (by rw [Laws.fieldOf_byteOf, kindByte]; exact parsed)

/-- Settles O60: the request's own parts make the frame, and its body spells it again. -/
theorem requestFramesRoundTrip : Obligations.RequestFramesRoundTrip := by
  unfold Obligations.RequestFramesRoundTrip
  intro i p formed port
  cases parts : requestParts i with
  | none => rw [requestPort, parts] at port; cases port
  | some r =>
    obtain ⟨q, tag, kind, body⟩ := r
    rw [requestPort, parts] at port
    obtain rfl : q = p := Option.some.inj port
    obtain ⟨parsed, code, most⟩ := Laws.RequestCodec.body_spells i q tag kind body parts formed
    have frame : encodeFrame i = some (requestFrame kind tag body) := by rw [encodeFrame, parts]
    rw [frame]
    refine ⟨rfl, fun bytes mem => ?_⟩
    obtain rfl : requestFrame kind tag body = bytes := Option.some.inj (Option.mem_toList.mp mem)
    exact requestFrame_parsed code most parsed

end Sys2Proof.Machine

/-!
# The bodies of requests (10 R171 checks 3 and 4, R172)
-/

namespace Sys2Proof.Machine

/-! ## What a body spells -/

/-- A body that passes the checks spells a request of its port, and every other body none. -/
inductive Spelled (p : Port) (tag : U8) (kind : Nat) (body : List Byte) : Prop
  | passes (i : Instr) (passes : bodyPasses kind body) (parsed : parseBody p tag kind body = some i) (port : requestPort i = some p)
  | fails (fails : ¬ bodyPasses kind body) (unparsed : parseBody p tag kind body = none)

section Spelled

variable {p : Port} {tag : U8} {kind : Nat} {body : List Byte}

theorem bodyPasses_fixed (cue : kind ≠ 0x20) (audio : kind ≠ 0x32) (write : kind ≠ 0x60) :
    bodyPasses kind body ↔ fixedLength kind = some body.length := by
  simp only [bodyPasses, cue, audio, write, false_and, or_false]

/-- A kind whose body has a fixed length. -/
theorem Spelled.of_fixed {n : Nat} (fixed : fixedLength kind = some n) (cue : kind ≠ 0x20) (audio : kind ≠ 0x32) (write : kind ≠ 0x60)
    (own : body.length = n → ∃ i, parseBody p tag kind body = some i ∧ requestPort i = some p)
    (other : body.length ≠ n → parseBody p tag kind body = none) : Spelled p tag kind body := by
  have passes : bodyPasses kind body ↔ body.length = n := by
    rw [bodyPasses_fixed cue audio write, fixed, Option.some.injEq, eq_comm]
  by_cases length : body.length = n
  · obtain ⟨i, parsed, port⟩ := own length
    exact .passes i (passes.mpr length) parsed port
  · exact .fails (fun h => length (passes.mp h)) (other length)

/-- The kinds with no body. -/
def emptyKinds : List Nat := [0x11, 0x12, 0x31, 0x33, 0x50, 0x51, 0x52, 0x53, 0x54, 0x62, 0x64, 0x70, 0x71, 0x72, 0x73]

/-- The kinds with a body of one byte. -/
def byteKinds : List Nat := [0x02, 0x04, 0x05, 0x06, 0x23, 0x24, 0x25, 0x26, 0x27, 0x40, 0x41, 0x42, 0x43, 0x63]

theorem spelled_empty (mem : kind ∈ emptyKinds) : Spelled p tag kind body := by
  have facts : ∀ k ∈ emptyKinds, fixedLength k = some 0 ∧ k ≠ 0x20 ∧ k ≠ 0x32 ∧ k ≠ 0x60 := by decide
  obtain ⟨fixed, cue, audio, write⟩ := facts kind mem
  refine .of_fixed fixed cue audio write (fun length => ?_) fun length => ?_
  · obtain rfl := List.length_eq_zero_iff.mp length
    fin_cases mem <;> exact ⟨_, rfl, rfl⟩
  · match body, length with
    | [], length => exact absurd rfl length
    | _ :: _, _ => fin_cases mem <;> rfl

theorem spelled_byte (mem : kind ∈ byteKinds) : Spelled p tag kind body := by
  have facts : ∀ k ∈ byteKinds, fixedLength k = some 1 ∧ k ≠ 0x20 ∧ k ≠ 0x32 ∧ k ≠ 0x60 := by decide
  obtain ⟨fixed, cue, audio, write⟩ := facts kind mem
  refine .of_fixed fixed cue audio write (fun length => ?_) fun length => ?_
  · obtain ⟨b, rfl⟩ := List.length_eq_one_iff.mp length
    fin_cases mem <;> exact ⟨_, rfl, rfl⟩
  · match body, length with
    | [], _ => fin_cases mem <;> rfl
    | [_], length => exact absurd rfl length
    | _ :: _ :: _, _ => fin_cases mem <;> rfl

theorem spelled_configRead : Spelled p tag 0x61 body := by
  refine .of_fixed (n := 2) rfl (by decide) (by decide) (by decide) (fun length => ?_) fun length => ?_
  · match body, length with
    | [_, _], _ => exact ⟨_, rfl, rfl⟩
  · match body, length with
    | [], _ => rfl
    | [_], _ => rfl
    | [_, _], length => exact absurd rfl length
    | _ :: _ :: _ :: _, _ => rfl

theorem spelled_three (mem : kind ∈ [0x01, 0x21, 0x22]) : Spelled p tag kind body := by
  have facts : ∀ k ∈ [0x01, 0x21, 0x22], fixedLength k = some 3 ∧ k ≠ 0x20 ∧ k ≠ 0x32 ∧ k ≠ 0x60 := by decide
  obtain ⟨fixed, cue, audio, write⟩ := facts kind mem
  refine .of_fixed fixed cue audio write (fun length => ?_) fun length => ?_
  · match body, length with
    | [_, _, _], _ => fin_cases mem <;> exact ⟨_, rfl, rfl⟩
  · match body, length with
    | [], _ => fin_cases mem <;> rfl
    | [_], _ => fin_cases mem <;> rfl
    | [_, _], _ => fin_cases mem <;> rfl
    | [_, _, _], length => exact absurd rfl length
    | _ :: _ :: _ :: _ :: _, _ => fin_cases mem <;> rfl

theorem spelled_clockRun : Spelled p tag 0x30 body := by
  refine .of_fixed (n := 5) rfl (by decide) (by decide) (by decide) (fun length => ?_) fun length => ?_
  · match body, length with
    | [_, _, _, _, _], _ => exact ⟨_, rfl, rfl⟩
  · match body, length with
    | [], _ => rfl
    | [_], _ => rfl
    | [_, _], _ => rfl
    | [_, _, _], _ => rfl
    | [_, _, _, _], _ => rfl
    | [_, _, _, _, _], length => exact absurd rfl length
    | _ :: _ :: _ :: _ :: _ :: _ :: _, _ => rfl

theorem spelled_set : Spelled p tag 0x03 body := by
  refine .of_fixed (n := 7) rfl (by decide) (by decide) (by decide) (fun length => ?_) fun length => ?_
  · match body, length with
    | [_, _, _, _, _, _, _], _ => exact ⟨_, rfl, rfl⟩
  · match body, length with
    | [], _ => rfl
    | [_], _ => rfl
    | [_, _], _ => rfl
    | [_, _, _], _ => rfl
    | [_, _, _, _], _ => rfl
    | [_, _, _, _, _], _ => rfl
    | [_, _, _, _, _, _], _ => rfl
    | [_, _, _, _, _, _, _], length => exact absurd rfl length
    | _ :: _ :: _ :: _ :: _ :: _ :: _ :: _ :: _, _ => rfl

theorem spelled_range : Spelled p tag 0x10 body := by
  refine .of_fixed (n := 10) rfl (by decide) (by decide) (by decide) (fun length => ?_) fun length => ?_
  · match body, length with
    | [_, _, _, _, _, _, _, _, _, _], _ => exact ⟨_, rfl, rfl⟩
  · match body, length with
    | [], _ => rfl
    | [_], _ => rfl
    | [_, _], _ => rfl
    | [_, _, _], _ => rfl
    | [_, _, _, _], _ => rfl
    | [_, _, _, _, _], _ => rfl
    | [_, _, _, _, _, _], _ => rfl
    | [_, _, _, _, _, _, _], _ => rfl
    | [_, _, _, _, _, _, _, _], _ => rfl
    | [_, _, _, _, _, _, _, _, _], _ => rfl
    | [_, _, _, _, _, _, _, _, _, _], length => exact absurd rfl length
    | _ :: _ :: _ :: _ :: _ :: _ :: _ :: _ :: _ :: _ :: _ :: _, _ => rfl

/-! ## The three kinds whose length rests on a field -/

/-- A body whose length check is a condition of its own. -/
theorem Spelled.of_check {i : Instr} {fits : Prop} [Decidable fits] (means : bodyPasses kind body ↔ fits)
    (parsed : parseBody p tag kind body = if fits then some i else none) (port : requestPort i = some p) :
    Spelled p tag kind body := by
  by_cases h : fits
  · exact .passes i (means.mpr h) (parsed.trans (if_pos h)) port
  · exact .fails (fun passes => h (means.mp passes)) (parsed.trans (if_neg h))

theorem spelled_cueLoad : Spelled p tag 0x20 body := by
  match body with
  | [] => exact .fails (by simp [bodyPasses, fixedLength]) rfl
  | [_] => exact .fails (by simp [bodyPasses, fixedLength]) rfl
  | [_, _] => exact .fails (by simp [bodyPasses, fixedLength]) rfl
  | sh :: sl :: count :: records =>
    refine .of_check (fits := cueLoadFits count.toNat records.length = true) ?_ rfl rfl
    simp [bodyPasses, fixedLength, cueLoadFits, resolveCount]
    omega

theorem spelled_audioBlock : Spelled p tag 0x32 body := by
  match body with
  | [] => exact .fails (by simp [bodyPasses, fixedLength]) rfl
  | [_] => exact .fails (by simp [bodyPasses, fixedLength]) rfl
  | [_, _] => exact .fails (by simp [bodyPasses, fixedLength]) rfl
  | [_, _, _] => exact .fails (by simp [bodyPasses, fixedLength]) rfl
  | [_, _, _, _] => exact .fails (by simp [bodyPasses, fixedLength]) rfl
  | [_, _, _, _, _] => exact .fails (by simp [bodyPasses, fixedLength]; omega) rfl
  | [_, _, _, _, _, _] => exact .fails (by simp [bodyPasses, fixedLength]; omega) rfl
  | b3 :: b2 :: b1 :: b0 :: count :: marker :: offset :: rest =>
    refine .of_check (fits := audioFits count.toNat rest.length = true) ?_ rfl rfl
    simp [bodyPasses, fixedLength, audioFits, resolveCount]
    omega

theorem entryLength_eq (t : Nat) : entryLength t = if t = 0 ∨ 6 < t then none else some (if t = 1 then 6 else if t = 2 then 47
    else if t = 3 then 8 else if t = 4 then 4 else if t = 5 then 1 else 17) := by
  match t with
  | 0 | 1 | 2 | 3 | 4 | 5 | 6 => rfl
  | t + 7 =>
    rw [if_pos (.inr (by omega))]
    rfl

/-- The length check of CONFIG_WRITE, by the table's code. -/
theorem configWriteFits_iff (t n : Nat) : configWriteFits t n = true ↔ (t = 0 ∨ 6 < t) ∨ n = (if t = 1 then 6
    else if t = 2 then 47 else if t = 3 then 8 else if t = 4 then 4 else if t = 5 then 1 else 17) := by
  rw [configWriteFits, entryLength_eq]
  by_cases outside : t = 0 ∨ 6 < t
  · rw [if_pos outside]
    simp only [outside, true_or]
  · rw [if_neg outside]
    simp only [outside, false_or, beq_iff_eq]

theorem bodyPasses_configWrite (table : Byte) (rest : List Byte) : bodyPasses 0x60 (table :: rest) ↔
    (table.toNat = 0 ∨ 6 < table.toNat) ∨ rest.length + 1 = 2 + (if table.toNat = 1 then 6 else if table.toNat = 2 then 47
      else if table.toNat = 3 then 8 else if table.toNat = 4 then 4 else if table.toNat = 5 then 1 else 17) := by
  simp [bodyPasses, fixedLength]

theorem spelled_configWrite : Spelled p tag 0x60 body := by
  match body with
  | [] => exact .fails (by simp [bodyPasses, fixedLength]) rfl
  | [table] =>
    refine .of_check (fits := configWriteFits table.toNat 0 = true) ?_ rfl rfl
    rw [bodyPasses_configWrite, configWriteFits_iff]
    refine or_congr_right ⟨fun h => ?_, fun h => ?_⟩
    · rw [List.length_nil] at h
      omega
    · split_ifs at h
  | table :: index :: entry =>
    refine .of_check (fits := configWriteFits table.toNat entry.length = true) ?_ rfl rfl
    rw [bodyPasses_configWrite, configWriteFits_iff, List.length_cons]
    refine or_congr_right ?_
    omega

/-! ## Every kind -/

/-- The other kinds that the table lists. -/
def otherKinds : List Nat := [0x61, 0x01, 0x21, 0x22, 0x30, 0x03, 0x10, 0x20, 0x32, 0x60]

/-- A kind that the table does not list (R171 check 3). -/
theorem spelled_unknown (code : kind < 256) (empty : kind ∉ emptyKinds) (byte : kind ∉ byteKinds) (other : kind ∉ otherKinds) :
    Spelled p tag kind body := by
  have fixed : fixedLength kind = none := by
    simp only [emptyKinds, byteKinds, otherKinds, List.mem_cons, List.not_mem_nil, or_false, not_or] at empty byte other
    simp only [fixedLength, List.mem_cons, List.not_mem_nil, empty, byte, other, or_self, if_false]
  have unparsed : parseBody p tag kind body = none := by
    clear fixed
    interval_cases kind
    all_goals first | rfl | exact absurd (by decide) empty | exact absurd (by decide) byte | exact absurd (by decide) other
  have ne : kind ≠ 0x20 ∧ kind ≠ 0x32 ∧ kind ≠ 0x60 :=
    ⟨fun e => other (e ▸ by decide), fun e => other (e ▸ by decide), fun e => other (e ▸ by decide)⟩
  refine .fails (fun passes => ?_) unparsed
  rw [bodyPasses_fixed ne.1 ne.2.1 ne.2.2, fixed] at passes
  cases passes

/-- Every body of every kind spells a request of the port exactly where it passes the checks. -/
theorem spelled (p : Port) (tag : U8) {kind : Nat} (code : kind < 256) (body : List Byte) : Spelled p tag kind body := by
  by_cases empty : kind ∈ emptyKinds
  · exact spelled_empty empty
  by_cases byte : kind ∈ byteKinds
  · exact spelled_byte byte
  by_cases other : kind ∈ otherKinds
  · simp only [otherKinds, List.mem_cons, List.not_mem_nil, or_false] at other
    rcases other with rfl | rfl | rfl | rfl | rfl | rfl | rfl | rfl | rfl | rfl
    exacts [spelled_configRead, spelled_three (by decide), spelled_three (by decide), spelled_three (by decide), spelled_clockRun,
      spelled_set, spelled_range, spelled_cueLoad, spelled_audioBlock, spelled_configWrite]
  · exact spelled_unknown code empty byte other

end Spelled

end Sys2Proof.Machine

/-!
# The link's own events (10 R169, R171, R178)
-/

namespace Sys2Proof.Machine

/-! ## Frames lost (R169, R178) -/

section Lost

variable {s : State} {p : Port} (busy : ¬ s.portReady p)
include busy

theorem State.takesFrame_of_not_portReady : s.takesFrame p = false := by
  rw [← Bool.not_eq_true]
  intro takes
  refine busy ?_
  rw [State.takesFrame, Bool.and_eq_true, beq_iff_eq, Bool.not_eq_true'] at takes
  exact takes

theorem State.request_lost (kind : Nat) (tag : U8) (act : State → State × Answer) : s.request p kind tag act = s := by
  rw [State.request, if_neg (by rw [State.takesFrame_of_not_portReady busy]; decide)]

theorem State.thenDue_lost (track : U8) (kind : Nat) (tag : U8) (act : State → State × Answer) :
    s.thenDue track (s.request p kind tag act) = s := by
  rw [State.request_lost busy]
  exact State.thenDue_still fun _ owed => owed

theorem State.configSave_lost (tag : U8) : s.configSave p tag = s := by
  rw [State.configSave, if_neg (by rw [State.takesFrame_of_not_portReady busy]; decide)]

/-- A request to a port that takes no frame is lost, whatever it is. -/
theorem exec_lost {c : Instr} (port : requestPort c = some p) : exec c s = .next s := by
  have lost : ∀ kind tag act, Host.Outcome.next (s.request p kind tag act) = (.next s : Host.Outcome State Fault Refusal) :=
    fun kind tag act => congrArg _ (State.request_lost busy kind tag act)
  have due : ∀ track kind tag act,
      Host.Outcome.next (s.thenDue track (s.request p kind tag act)) = (.next s : Host.Outcome State Fault Refusal) :=
    fun track kind tag act => congrArg _ (State.thenDue_lost busy track kind tag act)
  cases c
  case trackStart => cases port; exact due _ _ _ _
  case trackResume => cases port; exact due _ _ _ _
  case configSave => cases port; exact congrArg _ (State.configSave_lost busy _)
  all_goals cases port
  all_goals exact lost _ _ _

theorem State.badFrame_lost (bytes : List Byte) : s.badFrame p bytes = s := by
  rw [State.badFrame.eq_def, if_neg (by rw [State.takesFrame_of_not_portReady busy]; decide)]

end Lost

/-! ## Frames refused (R171) -/

theorem exec_badFrame (p : Port) (bytes : List Byte) (s : State) : exec (.badFrame p bytes) s = .next (s.badFrame p bytes) := rfl

section Refused

variable {s : State} {p : Port} (ready : s.portReady p) {kind : Byte}
include ready

theorem State.badFrame_refused (some_ : kind ≠ 0) {rest : List Byte} {fault : FrameFault}
    (check : checkFrame p (kind :: rest) = .error fault) : s.badFrame p (kind :: rest) = s.refuseFrame p fault kind rest := by
  unfold State.badFrame
  rw [if_pos (State.takesFrame_of_portReady ready)]
  dsimp only
  rw [if_neg some_, check]

theorem State.badFrame_ignored (rest : List Byte) : s.badFrame p [] = s ∧ s.badFrame p (0 :: rest) = s := by
  unfold State.badFrame
  rw [if_pos (State.takesFrame_of_portReady ready), if_pos (State.takesFrame_of_portReady ready)]
  exact ⟨rfl, if_pos rfl⟩

end Refused

theorem frameFault_status (fault : FrameFault) :
    FrameFault.status fault = (if fault = .badFrame then Status.badFrame else Status.badRequest)
    ∧ (FrameFault.status fault).isRefusal = true := by
  cases fault <;> exact ⟨rfl, rfl⟩

theorem State.refused_eq (s : State) (p : Port) (kind : Nat) (tag : U8) (st : Status) : s.refused p kind tag st =
    s.setPort p { s.port p with state := .answering kind tag.val ⟨st, .empty⟩, error := some ⟨st, kind, 0, 0, 0⟩ } := rfl

theorem State.refuseFrame_tagged (s : State) (p : Port) (fault : FrameFault) (kind tag : Byte) (rest : List Byte) :
    s.refuseFrame p fault kind (tag :: rest) = s.refused p kind.toNat ⟨tag.toNat, tag.isLt⟩
      (if fault = .badFrame then .badFrame else .badRequest) := by
  obtain ⟨status, refusal⟩ := frameFault_status fault
  rw [State.refuseFrame, State.respond_beginRequest, State.respond_refuse _ _ _ _ refusal, State.refused_eq, status]

theorem State.refuseFrame_untagged (s : State) (p : Port) (kind : Byte) {tag : U8} (free : Config.missingTag s.freeCount = tag) :
    s.refuseFrame p .badFrame kind [] = State.refused { s with freeCount := s.freeCount + 1 } p kind.toNat tag .badFrame := by
  rw [State.refuseFrame, State.respond_beginRequest, State.respond_refuse _ _ _ _ (frameFault_status .badFrame).2, State.refused_eq, free]
  rfl

/-! ## A response collected, and link reset (R169, R178) -/

theorem exec_responseCollect (p : Port) (clocked : Nat) (s : State) : exec (.responseCollect p clocked) s = .next (s.collect p clocked) := rfl

theorem exec_linkReset (p : Port) (s : State) : exec (.linkReset p) s = .next (s.linkReset p) := rfl

theorem exec_linkResetReleased (p : Port) (s : State) : exec (.linkResetReleased p) s = .next (s.releaseLink p) := rfl

section Collect

variable {s : State} {p : Port} {k n clocked : Nat} {r : Response}

theorem State.collect_none (h : (s.port p).state = .ready ∨ (s.port p).state = .working k n ∨ (s.port p).resetHeld = true) :
    s.collect p clocked = s := by
  rw [State.collect]
  rcases h with state | state | held
  · rw [state]
  · rw [state]
  · cases state : (s.port p).state with
    | ready => rfl
    | working kind tag => rfl
    | answering kind tag r => exact if_neg fun h => absurd (held.symm.trans h.1) (by decide)

theorem State.collect_answering (state : (s.port p).state = .answering k n r) (free : (s.port p).resetHeld = false) :
    s.collect p clocked = if (responseFrame k n r).length ≤ clocked then s.setPort p { s.port p with state := .ready } else s := by
  rw [State.collect, state]
  simp only [free, true_and]

end Collect

/-- Settles O58: frames lost, frames checked, frames refused, then the response and the link reset. -/
theorem linkEvents : Obligations.LinkEvents := by
  unfold Obligations.LinkEvents
  intro s p c tg kind tag high low rest body fault k n clocked r
  refine ⟨fun port busy => exec_lost busy port, fun busy => ?_, fun ready => ⟨?_, ?_, fun some_ => ⟨fun check => ?_, fun free => ?_⟩⟩,
    checkFrame_short p kind tag, checkFrame_length p kind tag high low, fun length most => ⟨fun two wrong => ?_, fun fails => ?_,
      fun passes => ?_⟩, fun h => ?_, fun state free => ⟨fun whole => ?_, fun part => ?_⟩, fun held => ?_, fun free => ?_, ?_⟩
  · rw [exec_badFrame, State.badFrame_lost busy]
  · rw [exec_badFrame, (State.badFrame_ignored ready rest).1]
  · rw [exec_badFrame, (State.badFrame_ignored ready rest).2]
  · rw [exec_badFrame, State.badFrame_refused ready some_ check, State.refuseFrame_tagged]
  · rw [exec_badFrame, State.badFrame_refused ready some_ (rest := []) (fault := .badFrame) rfl, State.refuseFrame_untagged s p kind free]
  · rw [checkFrame_body p kind tag high low length most two, if_neg wrong]
  · rcases spelled p (fieldOf tag) kind.isLt body with ⟨i, passes, -, -⟩ | ⟨-, unparsed⟩
    · exact absurd passes fails
    · exact checkFrame_unparsed p kind tag high low length most unparsed
  · rcases spelled p (fieldOf tag) kind.isLt body with ⟨i, -, parsed, port⟩ | ⟨fails, -⟩
    · exact ⟨i, port, checkFrame_parsed p kind tag high low length most parsed⟩
    · exact absurd passes fails
  · rw [exec_responseCollect, State.collect_none h]
  · rw [exec_responseCollect, State.collect_answering state free, if_pos whole]
  · rw [exec_responseCollect, State.collect_answering state free, if_neg (Nat.not_le.mpr part)]
  · rw [exec_linkReset, State.linkReset, if_pos held]
  · rw [exec_linkReset, State.linkReset, if_neg (by rw [free]; decide)]
    rfl
  · rw [exec_linkResetReleased]
    rfl

end Sys2Proof.Machine

/-!
# The bytes of a configuration entry (09 R159, 10 R172)
-/

namespace Sys2Proof.Machine

/-! ## Numbers out of their bytes, and back -/

theorem byteOf_byte (b : Byte) : byteOf b.toNat = b :=
  BitVec.eq_of_toNat_eq ((BitVec.toNat_ofNat b.toNat 8).trans (Nat.mod_eq_of_lt b.isLt))

theorem be1_byte (b : Byte) : be1 b.toNat = [b] := by rw [be1, byteOf_byte]

theorem be2_word (h l : Byte) : be2 (word h l) = [h, l] := by
  have value : word h l = h.toNat * 256 + l.toNat := rfl
  have low := l.isLt
  have high : byteOf ((h.toNat * 256 + l.toNat) / 256) = h := by
    rw [show (h.toNat * 256 + l.toNat) / 256 = h.toNat by omega, byteOf_byte]
  have rest : byteOf (h.toNat * 256 + l.toNat) = l := by
    refine BitVec.eq_of_toNat_eq ?_
    rw [byteOf, BitVec.toNat_ofNat]
    omega
  rw [be2, value, high, rest]

theorem flag_byte {b : Byte} (h : (flagByte b).isSome = true) : flag (b == 1) = [b] := by
  unfold flagByte at h
  split_ifs at h with zero one
  · rw [zero]; rfl
  · rw [one]; rfl
  · cases h

/-- A number below the size of a table of at most 256 rows is the byte it came from. -/
theorem be1_index {n : Nat} [NeZero n] {b : Byte} (h : b.toNat < n) : be1 (Fin.ofNat n b.toNat).val = [b] := by
  have value : (Fin.ofNat n b.toNat).val = b.toNat := Nat.mod_eq_of_lt h
  rw [value, be1_byte]

theorem setByte_rights : ∀ b : Byte, b.toNat ≤ 15 →
    setByte [b.getLsbD 0, b.getLsbD 1, b.getLsbD 2, b.getLsbD 3] = [b] := by decide

/-! ## Curves -/

theorem words_length {l : List Byte} {n : Nat} (h : l.length = 2 * n) : (words l).length = n := by
  induction n generalizing l with
  | zero => rw [List.length_eq_zero_iff.mp h]; rfl
  | succ n ih =>
    match l, h with
    | a :: b :: rest, h =>
      rw [words, List.length_cons, ih (by simp only [List.length_cons] at h; omega)]

theorem words_bytes {l : List Byte} {n : Nat} (h : l.length = 2 * n) : ((words l).map be2).flatten = l := by
  induction n generalizing l with
  | zero => rw [List.length_eq_zero_iff.mp h]; rfl
  | succ n ih =>
    match l, h with
    | a :: b :: rest, h =>
      rw [words, List.map_cons, List.flatten_cons, be2_word, ih (by simp only [List.length_cons] at h; omega)]
      rfl

theorem curveOf_rows {l : List Nat} (h : l.length = 9) : (curveOf l).rows = l := by
  refine List.ext_getElem (by rw [(curveOf l).size, h]) fun i hi _ => ?_
  have inside : i < 9 := (curveOf l).size ▸ hi
  have row : (curveOf l).get ⟨i, inside⟩ = l.getD i 0 := Table.get_build _ _
  rw [List.getD_eq_getElem _ _ (by omega)] at row
  exact row

theorem curveBytes_words {l : List Byte} (h : l.length = 18) : curveBytes (curveOf (words l)) = l := by
  rw [curveBytes, curveOf_rows (words_length (n := 9) h), words_bytes (n := 9) h]

/-! ## The entries -/

theorem parseRights_bytes {l : List Byte} {e : PortRights} (h : parseRights l = .ok e) : e.bytes = l := by
  unfold parseRights at h
  split at h
  · split at h
    · cases h
    · next passed =>
      cases h
      have checks := firstFault_eq_none.mp passed
      simp only [List.forall_mem_cons, decide_eq_true_eq] at checks
      obtain ⟨-, rights, -⟩ := checks
      rw [PortRights.bytes, be1_byte, be2_word, be2_word, setByte_rights _ rights]
      rfl
  · cases h

theorem parseJet_bytes {l : List Byte} {e : JetConfig} (h : parseJet l = .ok e) (length : l.length = 47) : e.bytes = l := by
  unfold parseJet at h
  split at h
  · next points =>
    dsimp only at h
    split at h
    · cases h
    · next passed =>
      cases h
      have checks := firstFault_eq_none.mp passed
      simp only [List.forall_mem_append, List.forall_mem_cons, decide_eq_true_eq] at checks
      obtain ⟨⟨⟨enabled, header, node, slot, -⟩, -⟩, -⟩ := checks
      simp only [List.length_cons] at length
      rw [JetConfig.bytes]
      dsimp only
      rw [flag_byte enabled, be1_index header, be1_index node, be1_index slot, be2_word, be1_byte, be2_word, be2_word,
        curveBytes_words (by rw [List.length_take]; omega), curveBytes_words (by rw [List.length_drop]; omega), List.take_append_drop]
      rfl
  · cases h

theorem parseHeader_bytes {l : List Byte} {e : HeaderConfig} (h : parseHeader l = .ok e) : e.bytes = l := by
  unfold parseHeader at h
  split at h
  · split at h
    · cases h
    · next passed =>
      cases h
      have checks := firstFault_eq_none.mp passed
      simp only [List.forall_mem_cons, decide_eq_true_eq] at checks
      obtain ⟨enabled, node, -⟩ := checks
      rw [HeaderConfig.bytes]
      dsimp only
      rw [flag_byte enabled, be1_index node, be2_word, be2_word, be1_byte, be1_byte]
      rfl
  · cases h

theorem followByte_byte {b : Byte} (h : (followByte b).isSome = true) :
    be1 ((((followByte b).getD none).map Fin.val).getD 255) = [b] := by
  unfold followByte at h ⊢
  split_ifs at h ⊢ with none_ jet
  · exact (congrArg be1 none_.symm).trans (be1_byte b)
  · exact be1_index jet
  · cases h

theorem parseFixture_bytes {l : List Byte} {e : FixtureConfig} (h : parseFixture l = .ok e) : e.bytes = l := by
  unfold parseFixture at h
  split at h
  · split at h
    · cases h
    · next passed =>
      cases h
      have checks := firstFault_eq_none.mp passed
      simp only [List.forall_mem_cons, decide_eq_true_eq] at checks
      obtain ⟨enabled, node, slot, follow, -⟩ := checks
      rw [FixtureConfig.bytes]
      dsimp only
      rw [flag_byte enabled, be1_index node, be1_index slot, followByte_byte follow]
      rfl
  · cases h

theorem nodeTypeOf_code {n : Nat} {ty : NodeType} (h : nodeTypeOf n = some ty) : nodeTypeCode ty = n := by
  unfold nodeTypeOf at h
  split at h <;> cases h <;> rfl

theorem parseNode_bytes {l : List Byte} {ty : NodeType} (h : parseNode l = .ok ty) : be1 (nodeTypeCode ty) = l := by
  unfold parseNode at h
  split at h
  · next b =>
    split at h
    · next code =>
      cases h
      rw [nodeTypeOf_code code, be1_byte]
    · cases h
  · cases h

theorem policy_byte {b : Byte} (h : b.toNat ≤ 1) : be1 (policyCode (if b = 0 then .coast else .stall)) = [b] := by
  have cases_ : ∀ b : Byte, b.toNat ≤ 1 → be1 (policyCode (if b = 0 then .coast else .stall)) = [b] := by decide
  exact cases_ b h

theorem parseGlobal_bytes {l : List Byte} {g : Global} (h : parseGlobal l = .ok g) : g.bytes = l := by
  unfold parseGlobal at h
  split at h
  · split at h
    · cases h
    · next passed =>
      cases h
      have checks := firstFault_eq_none.mp passed
      simp only [List.forall_mem_cons, decide_eq_true_eq] at checks
      obtain ⟨-, -, -, -, -, -, policy, -⟩ := checks
      rw [Global.bytes]
      dsimp only
      rw [be1_byte, be2_word, be2_word, be2_word, be1_byte, be2_word, policy_byte policy, be2_word, be2_word, be1_byte, be1_byte]
      rfl
  · cases h

/-- An entry that the checks take is carried by the bytes it was written with. -/
theorem parseEntry_bytes {table : Nat} {l : List Byte} {e : ConfigEntry} (h : parseEntry table l = .ok e)
    (fits : configWriteFits table l.length = true) : e.bytes = l := by
  unfold parseEntry at h
  split at h
  · obtain ⟨x, parsed, rfl⟩ := except_map_eq_ok h; exact parseRights_bytes parsed
  · obtain ⟨x, parsed, rfl⟩ := except_map_eq_ok h
    exact parseJet_bytes parsed (by simpa [configWriteFits, entryLength] using fits)
  · obtain ⟨x, parsed, rfl⟩ := except_map_eq_ok h; exact parseHeader_bytes parsed
  · obtain ⟨x, parsed, rfl⟩ := except_map_eq_ok h; exact parseFixture_bytes parsed
  · obtain ⟨x, parsed, rfl⟩ := except_map_eq_ok h; exact parseNode_bytes parsed
  · obtain ⟨x, parsed, rfl⟩ := except_map_eq_ok h; exact parseGlobal_bytes parsed
  · cases h

end Sys2Proof.Machine

/-!
# CONFIG_WRITE and CONFIG_READ: the checks, and what an entry written leaves of the tables (09 R159, R160)
-/

namespace Sys2Proof.Machine

/-! ## The entries of the tables -/

/-- The code of the table an entry belongs to (10 R172). -/
def ConfigEntry.code : ConfigEntry → Nat
  | .rights _ => 1
  | .jet _ => 2
  | .header _ => 3
  | .fixture _ => 4
  | .node _ => 5
  | .global _ => 6

/-- An entry that the checks take belongs to the table it was sent for. -/
theorem parseEntry_code {table : Nat} {l : List Byte} {e : ConfigEntry} (h : parseEntry table l = .ok e) : e.code = table := by
  unfold parseEntry at h
  split at h
  iterate 6 (obtain ⟨x, -, rfl⟩ := except_map_eq_ok h; rfl)
  cases h

/-- The entry written reads back. -/
theorem Tables.entry_put_self (t : Tables) (index : Nat) (e : ConfigEntry) : (t.put index e).entry e.code index = e := by
  cases e with
  | rights x => exact congrArg ConfigEntry.rights (PerPort.get_set_self ..)
  | jet x => exact congrArg ConfigEntry.jet (Table.get_set_self ..)
  | header x => exact congrArg ConfigEntry.header (Table.get_set_self ..)
  | fixture x => exact congrArg ConfigEntry.fixture (Table.get_set_self ..)
  | node x => exact congrArg ConfigEntry.node (Table.get_set_self ..)
  | global x => rfl

theorem portOfIndex_injective {i j : Nat} (hi : i < 3) (hj : j < 3) (h : portOfIndex i = portOfIndex j) : i = j := by
  have distinct : ∀ i j : Fin 3, portOfIndex i.val = portOfIndex j.val → i = j := by decide
  exact congrArg Fin.val (distinct ⟨i, hi⟩ ⟨j, hj⟩ h)

theorem Table.get_set_ofNat {α : Type} {n : Nat} [NeZero n] (t : Table α n) (v : α) {i j : Nat} (hi : i < n) (hj : j < n)
    (h : j ≠ i) : (t.set (Fin.ofNat n i) v).get (Fin.ofNat n j) = t.get (Fin.ofNat n j) := by
  have distinct : Fin.ofNat n i ≠ Fin.ofNat n j := fun same => by
    have values := congrArg Fin.val same
    simp only [Fin.ofNat, Nat.mod_eq_of_lt hi, Nat.mod_eq_of_lt hj] at values
    exact h values.symm
  rw [Table.get_set, if_neg distinct]

/-- A place of a table: its code names a table, and its index lies within it. -/
def Placed (table index : Nat) : Prop := ∃ k, tableSize table = some k ∧ index < k

theorem Placed.lt {table index k : Nat} (h : Placed table index) (size : tableSize table = some k) : index < k := by
  obtain ⟨m, own, lt⟩ := h
  rw [size] at own
  cases own
  exact lt

theorem tableSize_unknown {table : Nat} (h : table = 0 ∨ 6 < table) : tableSize table = none := by
  rcases h with rfl | big
  · rfl
  · obtain ⟨k, rfl⟩ := Nat.exists_eq_add_of_le' (Nat.succ_le_of_lt big)
    rfl

theorem Placed.code {table index : Nat} (h : Placed table index) :
    table = 1 ∨ table = 2 ∨ table = 3 ∨ table = 4 ∨ table = 5 ∨ table = 6 := by
  obtain ⟨k, size, -⟩ := h
  by_contra outside
  rw [tableSize_unknown (by omega)] at size
  cases size

/-- Every other entry stands. -/
theorem Tables.entry_put_ne (t : Tables) {index tb ix : Nat} {e : ConfigEntry} (own : Placed e.code index)
    (other : Placed tb ix) (h : tb ≠ e.code ∨ ix ≠ index) : (t.put index e).entry tb ix = t.entry tb ix := by
  have place : ∀ {k}, tb = e.code → tableSize e.code = some k → index < k ∧ ix < k ∧ ix ≠ index := fun same size =>
    ⟨own.lt size, other.lt (by rw [same]; exact size), h.resolve_left fun ne => ne same⟩
  rcases other.code with rfl | rfl | rfl | rfl | rfl | rfl <;> cases e <;> try rfl
  case inl.rights x =>
    obtain ⟨hi, hj, ne⟩ := place rfl rfl
    exact congrArg ConfigEntry.rights (PerPort.get_set_ne _ _ fun same => ne (portOfIndex_injective hi hj same).symm)
  case inr.inl.jet x =>
    obtain ⟨hi, hj, ne⟩ := place rfl rfl
    exact congrArg ConfigEntry.jet (Table.get_set_ofNat _ _ hi hj ne)
  case inr.inr.inl.header x =>
    obtain ⟨hi, hj, ne⟩ := place rfl rfl
    exact congrArg ConfigEntry.header (Table.get_set_ofNat _ _ hi hj ne)
  case inr.inr.inr.inl.fixture x =>
    obtain ⟨hi, hj, ne⟩ := place rfl rfl
    exact congrArg ConfigEntry.fixture (Table.get_set_ofNat _ _ hi hj ne)
  case inr.inr.inr.inr.inl.node x =>
    obtain ⟨hi, hj, ne⟩ := place rfl rfl
    exact congrArg ConfigEntry.node (Table.get_set_ofNat _ _ hi hj ne)
  case inr.inr.inr.inr.inr.global x =>
    obtain ⟨hi, hj, ne⟩ := place rfl rfl
    omega

/-! ## CONFIG_READ (R160) -/

section Reads

variable {s : State} {p : Port} (ready : s.portReady p) (tag : U8) {table index : U8}

theorem exec_configRead (s : State) (p : Port) (tag table index : U8) :
    exec (.configRead p tag table index) s = .next (s.request p 0x61 tag (configReadAction table index)) := rfl

include ready

theorem exec_configRead_refused (outside : ¬ Placed table.val index.val) :
    exec (.configRead p tag table index) s = .next (s.refused p 0x61 tag .outOfRange) := by
  have act : configReadAction table index (s.beginRequest p 0x61 tag.val) =
      (s.beginRequest p 0x61 tag.val, .refuse .outOfRange) := by
    unfold configReadAction
    split
    · rfl
    · next size known => exact if_pos (Nat.le_of_not_lt fun lt => outside ⟨size, known, lt⟩)
  rw [exec_configRead, State.request_refuse ready 0x61 tag rfl act]
  rfl

theorem exec_configRead_taken (within : Placed table.val index.val) : exec (.configRead p tag table index) s =
    .next (s.answered p 0x61 tag .ok (s.readEntry table.val index.val)) := by
  obtain ⟨size, known, lt⟩ := within
  have act : configReadAction table index (s.beginRequest p 0x61 tag.val) =
      (s.beginRequest p 0x61 tag.val, .report (s.readEntry table.val index.val)) := by
    unfold configReadAction
    rw [known]
    exact if_neg (Nat.not_le.mpr lt)
  rw [exec_configRead, State.request_report ready (by decide) tag act]

end Reads

theorem State.readEntry_table (s : State) {table index : Nat} (h : Placed table index) (small : table < 6) :
    s.readEntry table index = .configEntry (s.config.entry table index) := by
  rcases h.code with rfl | rfl | rfl | rfl | rfl | rfl
  iterate 5 rfl
  exact absurd small (Nat.lt_irrefl 6)

/-! ## CONFIG_WRITE refused (R159) -/

section Refused

variable {s : State} {p : Port} (ready : s.portReady p) (tag : U8) {table index : U8} {entry : List Byte}
include ready

theorem exec_configWrite_refused {st : Status} {field : Nat} (refusal : st.isRefusal = true)
    (h : ∀ u : State, u.config = s.config → u.unit = s.unit →
      configWriteAction p table index entry u = (u, .refuse st field)) :
    exec (.configWrite p tag table index entry) s = .next (s.refusal p 0x60 tag st field 0 0) := by
  rw [exec_configWrite, State.settledRequest_refused ready tag refusal (h _ rfl rfl)]

theorem exec_configWrite_unfit (unfit : configWriteFits table.val entry.length = false) :
    exec (.configWrite p tag table index entry) s = .next (s.refused p 0x60 tag .badRequest) :=
  exec_configWrite_refused ready tag rfl fun _ _ _ => if_pos unfit

theorem exec_configWrite_unknown (fits : configWriteFits table.val entry.length = true) (unknown : tableSize table.val = none) :
    exec (.configWrite p tag table index entry) s = .next (s.refusal p 0x60 tag .outOfRange 1 0 0) :=
  exec_configWrite_refused ready tag rfl fun u _ _ => by
    rw [configWriteAction, if_neg (by rw [fits]; decide), unknown]

variable (fits : configWriteFits table.val entry.length = true) {size : Nat} (known : tableSize table.val = some size)
include fits known

theorem exec_configWrite_outside (outside : size ≤ index.val) :
    exec (.configWrite p tag table index entry) s = .next (s.refusal p 0x60 tag .outOfRange 2 0 0) :=
  exec_configWrite_refused ready tag rfl fun u _ _ => by
    rw [configWriteAction, if_neg (by rw [fits]; decide), known]
    exact if_pos outside

end Refused

section Placed

variable {s : State} {p : Port} (ready : s.portReady p) (tag : U8) {table index : U8} {entry : List Byte}
  (fits : configWriteFits table.val entry.length = true) (within : Placed table.val index.val)
include fits within

theorem configWriteAction_placed (u : State) : configWriteAction p table index entry u =
    if (u.rights p).config = false then (u, .refuse .noRight)
    else if u.unit.mode ≠ .setup then (u, .refuse .wrongMode)
    else if u.unit.saving.isSome then (u, .refuse .busy)
    else
      match parseEntry table.val entry with
      | .error field => (u, .refuse .outOfRange field)
      | .ok e =>
        if (u.config.put index.val e).keepsSafety then (u.writeEntry index.val e, .ok)
        else (u, .refuse .configInvalid (entryField 2)) := by
  obtain ⟨size, known, lt⟩ := within
  rw [configWriteAction, if_neg (by rw [fits]; decide), known]
  exact if_neg (Nat.not_le.mpr lt)

include ready

theorem exec_configWrite_noRight (right : (s.rights p).config = false) :
    exec (.configWrite p tag table index entry) s = .next (s.refused p 0x60 tag .noRight) :=
  exec_configWrite_refused ready tag rfl fun u config _ => by
    rw [configWriteAction_placed fits within, if_pos]
    rw [State.rights, config]; exact right

variable (right : (s.rights p).config = true)
include right

theorem exec_configWrite_wrongMode (mode : s.unit.mode ≠ .setup) :
    exec (.configWrite p tag table index entry) s = .next (s.refused p 0x60 tag .wrongMode) :=
  exec_configWrite_refused ready tag rfl fun u config unit => by
    have same : u.rights p = s.rights p := by rw [State.rights, config]; rfl
    rw [configWriteAction_placed fits within, same, right, if_neg (by decide), unit, if_pos mode]

variable (mode : s.unit.mode = .setup)
include mode

theorem exec_configWrite_busy (saving : s.unit.saving ≠ none) :
    exec (.configWrite p tag table index entry) s = .next (s.refused p 0x60 tag .busy) :=
  exec_configWrite_refused ready tag rfl fun u config unit => by
    have same : u.rights p = s.rights p := by rw [State.rights, config]; rfl
    rw [configWriteAction_placed fits within, same, right, if_neg (by decide), unit, if_neg (not_not_intro mode),
      if_pos (Option.isSome_iff_ne_none.mpr saving)]

end Placed

section Open

variable {s : State} {p : Port} {table index : U8} {entry : List Byte} (opens : WriteOpen s p table.val index.val entry)
include opens

theorem WriteOpen.of_same {u : State} (config : u.config = s.config) (unit : u.unit = s.unit) :
    WriteOpen u p table.val index.val entry := by
  obtain ⟨fits, within, right, mode, idle⟩ := opens
  have same : u.rights p = s.rights p := by rw [State.rights, config]; rfl
  exact ⟨fits, within, by rw [same]; exact right, by rw [unit]; exact mode, by rw [unit]; exact idle⟩

variable (ready : s.portReady p) (tag : U8)
include ready

theorem exec_configWrite_badEntry {field : Nat} (bad : parseEntry table.val entry = .error field) :
    exec (.configWrite p tag table index entry) s = .next (s.refusal p 0x60 tag .outOfRange field 0 0) :=
  exec_configWrite_refused ready tag rfl fun u config unit => by
    rw [configWriteAction_open (opens.of_same config unit), bad]

theorem exec_configWrite_losesSafety {e : ConfigEntry} (good : parseEntry table.val entry = .ok e)
    (loses : (s.config.put index.val e).keepsSafety = false) :
    exec (.configWrite p tag table index entry) s = .next (s.refusal p 0x60 tag .configInvalid 4 0 0) :=
  exec_configWrite_refused ready tag rfl fun u config unit => by
    rw [configWriteAction_open (opens.of_same config unit), good]
    exact if_neg (by rw [config, loses]; decide)

end Open

end Sys2Proof.Machine

/-!
# What an entry written leaves (07 R130, 08 R138, 09 R159)
-/

namespace Sys2Proof.Machine

/-! ## The tables and the answer -/

theorem State.writeEntry_config (s : State) (index : Nat) (e : ConfigEntry) :
    (s.writeEntry index e).config = s.config.put index e := by
  have only := s.writeEntry_only index e
  unfold OnlyField at only
  rw [only]

theorem State.port_ok (u : State) (p : Port) (kind : Nat) (tag : U8) : (u.ok p kind tag).port p =
    { u.port p with state := .answering kind tag ⟨.ok, .empty⟩, error := none } := by
  rw [State.ok, State.answered, State.port_setPort_self]

/-- The state after a write that is taken. -/
def State.entryAnswered (s : State) (p : Port) (tag : U8) (index : Nat) (e : ConfigEntry) : State :=
  (settleIdle (s.beginRequest p 0x60 tag) ((s.beginRequest p 0x60 tag).writeEntry index e)).respond p 0x60 tag .ok

section Answered

variable (s : State) (p : Port) (tag : U8) (index : Nat) (e : ConfigEntry)

theorem State.entryAnswered_sameShow :
    SameShow ((s.beginRequest p 0x60 tag).writeEntry index e) (s.entryAnswered p tag index e) :=
  (settleIdle_sameShow _ _).trans (State.respond_sameShow _ p 0x60 tag .ok)

theorem State.entryAnswered_config : (s.entryAnswered p tag index e).config = s.config.put index e := by
  rw [(s.entryAnswered_sameShow p tag index e).parts.2.2.2.2.2.2.2.2.2, State.writeEntry_config]
  rfl

theorem State.entryAnswered_port : ((s.entryAnswered p tag index e).port p).state = .answering 0x60 tag ⟨.ok, .empty⟩
    ∧ ((s.entryAnswered p tag index e).port p).error = none := by
  have answer : ∀ u : State, u.respond p 0x60 tag.val .ok = u.ok p 0x60 tag := fun _ => rfl
  rw [State.entryAnswered, answer, State.port_ok]
  exact ⟨rfl, rfl⟩

/-- A write that leaves the tracks, the run state and the mode leaves the idle timer. -/
theorem State.entryAnswered_unsettled (tracks : ((s.beginRequest p 0x60 tag).writeEntry index e).tracks = s.tracks)
    (clock : ((s.beginRequest p 0x60 tag).writeEntry index e).clock = s.clock)
    (unit : ((s.beginRequest p 0x60 tag).writeEntry index e).unit = s.unit) :
    s.entryAnswered p tag index e = ((s.beginRequest p 0x60 tag).writeEntry index e).respond p 0x60 tag .ok := by
  rw [State.entryAnswered, settleIdle_of_names (fun k => by unfold State.track; rw [tracks]; rfl) (by rw [clock]; rfl) (by rw [unit]; rfl)]

/-- An entry that no block takes up. -/
theorem State.entryAnswered_plain (plain : e.code < 5) :
    s.entryAnswered p tag index e = State.ok (s.setConfig (s.config.put index e)) p 0x60 tag := by
  have begun : (s.beginRequest p 0x60 tag).writeEntry index e =
      (s.setConfig (s.config.put index e)).beginRequest p 0x60 tag := by
    cases e with
    | node x => exact absurd plain (Nat.lt_irrefl 5)
    | global x => exact absurd plain (Nat.not_lt_of_le (Nat.le_succ 5))
    | rights x => rfl
    | jet x => rfl
    | header x => rfl
    | fixture x => rfl
  rw [State.entryAnswered_unsettled _ _ _ _ _ (by rw [begun]; rfl) (by rw [begun]; rfl) (by rw [begun]; rfl), begun,
    State.respond_beginRequest]
  rfl

end Answered

/-! ## The entry of a node (07 R130) -/

section Node

variable (s : State) (n : Fin 32) (before : NodeType)

theorem State.uncount_sweep {r : RunningSweep} (running : s.sweep.running = some r) (own : r.tx.node = n) :
    (s.uncount n).sweep = { s.sweep with running := some { r with tx := { r.tx with counted := false } } } := by
  unfold State.uncount
  rw [running]
  simp only [own, if_true]
  rfl

theorem State.uncount_nodes : (s.uncount n).nodes = s.nodes := by
  unfold State.uncount
  split
  · rfl
  · split <;> rfl

theorem State.nodeWritten_same (same : s.config.nodes.get n = before) : s.nodeWritten n before = s.uncount n := by
  unfold State.nodeWritten
  exact if_pos same

theorem State.nodeWritten_remade (typed : s.config.nodes.get n ≠ before) : s.nodeWritten n before =
    (if before = .sense ∧ (s.node n).state = .online then
      (if (s.node n).state = .lost then (s.remade n).tellNode n 3 else s.remade n).sensorLost
    else if (s.node n).state = .lost then (s.remade n).tellNode n 3 else s.remade n) := by
  unfold State.nodeWritten
  dsimp only
  rw [if_neg typed, State.uncount_node]
  rfl

theorem State.nodeWritten_safety (typed : s.config.nodes.get n ≠ before) :
    OnlySafety (s.remade n) (s.nodeWritten n before) := by
  rw [State.nodeWritten_remade s n before typed]
  have told : OnlySafety (s.remade n) (if (s.node n).state = .lost then (s.remade n).tellNode n 3 else s.remade n) := by
    split_ifs
    · exact State.tellNode_only_safety _ n 3
    · exact .refl _
  by_cases sensor : before = .sense ∧ (s.node n).state = .online
  · rw [if_pos sensor]; exact told.trans (State.sensorLost_only _)
  · rw [if_neg sensor]; exact told

/-- All that a node's entry written makes of the field link and the Supervisor. -/
structure NodeEntryWritten (s t : State) (n : Fin 32) (before : NodeType) : Prop where
  same : s.config.nodes.get n = before → t.nodes = s.nodes ∧ t.safety = s.safety
  record : s.config.nodes.get n ≠ before → t.node n = NodeRecord.fresh (s.config.nodes.get n)
  told : s.config.nodes.get n ≠ before → (s.node n).state = .lost → ∀ q, t.told q ⟨.nodeState, n, 3, s.clock.value, .none⟩
  standing : s.config.nodes.get n ≠ before → before = .sense → (s.node n).state = .online → t.safety.standing = .missing
  sweep : t.sweep = (s.uncount n).sweep

theorem State.nodeWritten_written : NodeEntryWritten s (s.nodeWritten n before) n before where
  same same := by
    rw [State.nodeWritten_same s n before same]
    exact ⟨s.uncount_nodes n, (s.uncount_only n).safety_eq⟩
  record typed := by
    rw [(s.nodeWritten_safety n before typed).node_eq, State.remade, State.node_setNode_self]
  told typed lost q := by
    have told := State.tellNode_told (s.remade n) n 3 q
    have offline : ¬ (before = .sense ∧ (s.node n).state = .online) := fun h => by rw [lost] at h; cases h.2
    rw [(s.remade_field n).clock_eq] at told
    rw [State.nodeWritten_remade s n before typed, if_neg offline, if_pos lost]
    exact told
  standing typed sense online := by
    rw [State.nodeWritten_remade s n before typed, if_pos ⟨sense, online⟩]
    exact State.sensorLost_standing _
  sweep := by
    by_cases same : s.config.nodes.get n = before
    · rw [State.nodeWritten_same s n before same]
    · rw [(s.nodeWritten_safety n before same).link.sweep]
      rfl

theorem NodeEntryWritten.after {s t u : State} {n : Fin 32} {before : NodeType} (h : NodeEntryWritten s t n before)
    (e : SameShow t u) : NodeEntryWritten s u n before := by
  have nodes : u.nodes = t.nodes := by rw [e.same]
  have sweep : u.sweep = t.sweep := by rw [e.same]
  have node : u.node n = t.node n := by unfold State.node; rw [nodes]
  exact {
    same := fun a => ⟨nodes.trans (h.same a).1, e.safety.trans (h.same a).2⟩
    record := fun a => node.trans (h.record a)
    told := fun a b q => e.told _ _ (h.told a b q)
    standing := fun a b c => by rw [e.safety]; exact h.standing a b c
    sweep := sweep.trans h.sweep }

end Node

/-- A node's entry written, by a request. -/
theorem State.entryAnswered_node (s : State) (p : Port) (tag : U8) (n : Fin 32) (ty : NodeType) :
    NodeEntryWritten ((s.beginRequest p 0x60 tag).setConfig (s.config.put n.val (.node ty)))
      (s.entryAnswered p tag n.val (.node ty)) n (s.config.nodes.get n) := by
  have after := s.entryAnswered_sameShow p tag n.val (.node ty)
  rw [State.writeEntry_node] at after
  exact (State.nodeWritten_written _ n _).after after

/-! ## The Global entry (08 R138) -/

theorem State.setWind_stands (s : State) (w : Wind) :
    s.setWind w = { s with safety := { s.safety with wind := w }, ports := (s.setWind w).ports } := by
  unfold State.setWind
  split_ifs with same
  · rw [same]
  · rfl

/-- The Global entry written, by a request. -/
theorem State.entryAnswered_global (s : State) (p : Port) (tag : U8) (index : Nat) (g : Global) :
    s.entryAnswered p tag index (.global g) = { s with
      config := s.config.put index (.global g), safety := { s.safety with wind := s.safety.windNext g }
      ports := (s.entryAnswered p tag index (.global g)).ports } := by
  have wrote : (s.beginRequest p 0x60 tag).writeEntry index (.global g) =
      ((s.beginRequest p 0x60 tag).setConfig (s.config.put index (.global g))).setWind (s.safety.windNext g) :=
    State.evalWind_eq _
  have stands := State.setWind_stands ((s.beginRequest p 0x60 tag).setConfig (s.config.put index (.global g))) (s.safety.windNext g)
  rw [← wrote] at stands
  rw [State.entryAnswered_unsettled _ _ _ _ _ (by rw [stands]; rfl) (by rw [stands]; rfl) (by rw [stands]; rfl), stands]
  rfl

section Wind

variable {r : Supervisor} (g : Global)

theorem Supervisor.windNext_missing (h : r.standing = .missing) : r.windNext g = .windStop := if_pos h

variable (h : r.standing ≠ .missing)
include h

theorem Supervisor.windNext_present : r.windNext g = windOf g r.wind r.gust := if_neg h

theorem Supervisor.windNext_enters (wind : r.wind ≠ .windStop) (high : g.wStop ≤ r.gust) : r.windNext g = .windStop := by
  rw [Supervisor.windNext_present g h, windOf, if_neg wind, if_pos high]

theorem Supervisor.windNext_below (wind : r.wind ≠ .windStop) (low : r.gust < g.wStop) :
    r.windNext g = if r.gust ≤ g.wCalm then .calm else .derate := by
  rw [Supervisor.windNext_present g h, windOf, if_neg wind, if_neg (Nat.not_le.mpr low)]

theorem Supervisor.windNext_stays (wind : r.wind = .windStop) (high : g.wStop < r.gust + g.wHyst) :
    r.windNext g = .windStop := by
  rw [Supervisor.windNext_present g h, windOf, if_pos wind, if_pos high]

theorem Supervisor.windNext_leaves (wind : r.wind = .windStop) (low : r.gust + g.wHyst ≤ g.wStop) :
    r.windNext g = if r.gust ≤ g.wCalm then .calm else .derate := by
  rw [Supervisor.windNext_present g h, windOf, if_pos wind, if_neg (Nat.not_lt.mpr low)]

end Wind

theorem ConfigEntry.code_node {e : ConfigEntry} (h : e.code = 5) : ∃ ty, e = .node ty := by
  cases e with
  | node ty => exact ⟨ty, rfl⟩
  | _ => cases h

theorem ConfigEntry.code_global {e : ConfigEntry} (h : e.code = 6) : ∃ g, e = .global g := by
  cases e with
  | global g => exact ⟨g, rfl⟩
  | _ => cases h

theorem NodeRecord.fresh_eq (ty : NodeType) :
    NodeRecord.fresh ty = ⟨if ty = .none then .absent else .offline, 0, 0, 0, none, none⟩ := by
  cases ty <;> rfl

/-- Settles O51: each check refuses by the field it names; past them the entry is written table by table. -/
theorem configWriteAndRead : Obligations.ConfigWriteAndRead := by
  unfold Obligations.ConfigWriteAndRead
  intro s p q tag table index tb ix entry e size field n g ready
  refine ⟨exec_configWrite_unfit ready tag, fun unknown => ?_, fun known => ⟨fun outside => ?_, fun lt => ?_⟩⟩
  · have none_ := tableSize_unknown unknown
    have outside : ¬ Placed table.val index.val := fun ⟨_, known, _⟩ => by
      rw [none_] at known
      cases known
    exact ⟨exec_configRead_refused ready tag outside, fun fits => exec_configWrite_unknown ready tag fits none_⟩
  · exact ⟨exec_configRead_refused ready tag fun within => Nat.not_lt.mpr outside (within.lt known),
      fun fits => exec_configWrite_outside ready tag fits known outside⟩
  have within : Placed table.val index.val := ⟨size, known, lt⟩
  refine ⟨fun small => ?_, fun six => ?_, fun fits => ⟨exec_configWrite_noRight ready tag fits within,
    exec_configWrite_wrongMode ready tag fits within, exec_configWrite_busy ready tag fits within,
    fun right mode idle => ?_⟩⟩
  · rw [exec_configRead_taken ready tag within, State.readEntry_table s within small]
  · rw [exec_configRead_taken ready tag within, six]
    rfl
  have opens : WriteOpen s p table.val index.val entry := ⟨fits, within, right, mode, idle⟩
  refine ⟨exec_configWrite_badEntry opens ready tag, fun good => ⟨exec_configWrite_losesSafety opens ready tag good, fun keeps => ?_⟩⟩
  have code := parseEntry_code good
  have config := s.entryAnswered_config p tag index.val e
  obtain ⟨state, error⟩ := s.entryAnswered_port p tag index.val e
  refine ⟨s.entryAnswered p tag index.val e, exec_configWrite_taken ready tag opens good keeps, parseEntry_bytes good fits, ?_,
    fun inside other => ?_, state, error, fun plain => ?_, fun five own => ?_, fun six global => ?_⟩
  · rw [config, ← code, Tables.entry_put_self]
  · obtain ⟨k, size', below⟩ := inside
    rw [config]
    refine Tables.entry_put_ne _ (by rw [code]; exact within) ⟨k, Option.mem_toList.mp size', below⟩ ?_
    rw [code]
    exact other.imp (fun ne same => ne (Fin.ext same)) fun ne same => ne (Fin.ext same)
  · rw [config]
    exact s.entryAnswered_plain p tag index.val e (by rw [code]; exact plain)
  · obtain ⟨ty, rfl⟩ := ConfigEntry.code_node (code.trans five)
    rw [own] at config ⊢
    have typed : (s.entryAnswered p tag n (.node ty)).config.nodes.get n = ty := by rw [config, Tables.put_node_get]
    obtain ⟨same, record, told, standing, sweep⟩ := s.entryAnswered_node p tag n ty
    have put : (s.config.put n (.node ty)).nodes.get n = ty := Tables.put_node_get _ n ty
    rw [typed]
    refine ⟨fun stands => same (put.trans stands), fun changed => ?_, fun r running mem => ?_⟩
    · have changed' : (s.config.put n (.node ty)).nodes.get n ≠ s.config.nodes.get n := by rw [put]; exact changed
      refine ⟨?_, fun lost => told changed' lost q, standing changed'⟩
      rw [record changed', ← NodeRecord.fresh_eq]
      exact congrArg NodeRecord.fresh put
    · rw [sweep]
      exact State.uncount_sweep _ n (Option.mem_toList.mp running) mem
  · obtain ⟨x, rfl⟩ := ConfigEntry.code_global (code.trans six)
    have written : (s.entryAnswered p tag index (.global x)).config.global = x := by rw [config]; rfl
    obtain rfl : x = g := written.symm.trans global
    have stands := s.entryAnswered_global p tag index x
    have wind : (s.entryAnswered p tag index (.global x)).safety.wind = s.safety.windNext x := by rw [stands]
    rw [wind, config]
    exact ⟨stands, Supervisor.windNext_missing x, fun present => ⟨Supervisor.windNext_enters x present,
      Supervisor.windNext_below x present, Supervisor.windNext_stays x present, Supervisor.windNext_leaves x present⟩⟩

end Sys2Proof.Machine

/-!
# The machine after power-on reset (09 R166, R167, 01 R28, 08 R153)
-/

namespace Sys2Proof.Machine

/-! ## The state that start-up makes -/

/-- Settles O4: nothing is held, owed, queued or lit after reset, and the factory tables are in range. -/
theorem resetIsSound : Obligations.ResetIsSound := by
  unfold Obligations.ResetIsSound
  have entry : ∀ ch, State.reset.entry ch = ChannelEntry.reset := fun ch => Table.get_fill _ ch
  have idle : ∀ k, State.reset.track k = none := fun k => Table.get_fill _ k
  have valves : State.reset.ValvesClosed := fun j => by
    have record : State.reset.jets.get j = JetRecord.reset := Table.get_fill _ j
    rw [record]; rfl
  have pumps : State.reset.PumpsStopped := fun h => by
    have record : State.reset.headers.get h = HeaderRecord.reset := Table.get_fill _ h
    rw [record]; rfl
  refine ⟨fun ch _ => ?_, ⟨Nat.zero_le _, .nil, fun w mem => nomatch mem⟩, fun ch => ?_, ⟨rfl, fun i => fault_record_nil i.val⟩,
    .of_idle idle, ⟨⟨Nat.zero_le _, .nil, fun b mem => nomatch mem⟩, ⟨Nat.zero_le _, fun audio => nomatch audio⟩⟩,
    causesSound_reset, fun ch => ?_, ⟨fun _ => ⟨valves, fun h _ => pumps h⟩, fun h _ => pumps h, fun _ => ⟨valves, pumps⟩⟩,
    ⟨fun _ => rfl, fun set => nomatch set⟩, fun _ => ⟨fun ch => ?_, rfl, fun r mem => (nomatch mem), idle, rfl, rfl, fun f => ?_⟩,
    ⟨fun n => ?_, fun r mem => nomatch mem⟩, ⟨Tables.factory_inRange, rfl, fun ne => absurd rfl ne, fun _ => rfl⟩,
    fun p => ?_, ⟨fun run => absurd rfl run, by decide⟩, .of_idle idle⟩
  · rw [entry]; rfl
  · rw [entry]; trivial
  · rw [entry]
    exact ⟨fun safed => (nomatch safed), fun h => absurd rfl h.2⟩
  · rw [entry]; rfl
  · have record : State.reset.fixtures.get f = FixtureRecord.reset := Table.get_fill _ f
    rw [record]; rfl
  · have record : State.reset.node n = NodeRecord.fresh .none := Table.get_fill _ n
    have type : State.reset.config.nodes.get n = .none := Table.get_fill _ n
    rw [record, type]
    exact NodeRecord.fresh_sound _
  · cases p <;> exact Nat.zero_le 32

/-! ## Start-up by the stored image (09 R167) -/

theorem startUp_refused {image : Image} (bad : image.good = none) : startUp image = (Tables.factory, .setup, image.failure) := by
  rw [startUp, bad]

section Written

variable {format : Byte} {g : Tables} {crc : BitVec 16}

theorem Image.good_eq_none (h : format ≠ Config.formatCode ∨ crc ≠ crc16 (format :: g.bytes) ∨ g.inRange = false
    ∨ g.keepsSafety = false) : (Image.written format g crc).good = none := by
  refine if_neg fun sound => ?_
  obtain ⟨code, sum, range, safety⟩ := sound
  rcases h with h | h | h | h
  · exact h code
  · exact h sum
  · rw [range] at h; cases h
  · rw [safety] at h; cases h

variable (code : format = Config.formatCode) (sum : crc = crc16 (format :: g.bytes)) (range : g.inRange = true)
  (safety : g.keepsSafety = true)
include code sum range safety

theorem startUp_loads (valid : g.validate = none) : startUp (.written format g crc) = (g, .dark, .loaded) := by
  have good : (Image.written format g crc).good = some g := if_pos ⟨code, sum, range, safety⟩
  simp only [startUp, good, valid]

theorem startUp_invalid (fault : g.validate ≠ none) :
    startUp (.written format g crc) = (Tables.factory, .setup, .invalid) := by
  have good : (Image.written format g crc).good = some g := if_pos ⟨code, sum, range, safety⟩
  obtain ⟨f, found⟩ := Option.ne_none_iff_exists'.mp fault
  simp only [startUp, good, found]

end Written

theorem State.startedUp_as {s : State} {held : PerPort Bool} {image : Image} {g : Tables} {mode : Mode} {outcome : StartUp}
    (found : s.imageAtReset = image) (h : startUp image = (g, mode, outcome)) :
    (s.startedUp held).config = g ∧ (s.startedUp held).unit.mode = mode ∧ (s.startedUp held).unit.outcome = outcome := by
  have config : (s.startedUp held).config = (startUp s.imageAtReset).1 := rfl
  have unit : (s.startedUp held).unit = ⟨(startUp s.imageAtReset).2.1, none, none, (startUp s.imageAtReset).2.2⟩ := rfl
  rw [config, unit, found, h]
  exact ⟨rfl, rfl, rfl⟩

theorem State.imageAtReset_idle {s : State} (idle : s.unit.saving = none) : s.imageAtReset = s.image := by
  rw [State.imageAtReset, idle]
  rfl

theorem State.imageAtReset_saving {s : State} (saving : s.unit.saving ≠ none) : s.imageAtReset = .spoiled :=
  if_pos (Option.isSome_iff_ne_none.mpr saving)

theorem exec_powerOnReset (s : State) (estop : Bool) (held : PerPort Bool) :
    exec (.powerOnReset estop held) s = .next (s.powerOn estop held) := rfl

/-! ## A part with no holding, no watcher and no waiter -/

/-- No port is told of what becomes of a channel. -/
structure State.Deserted (s : State) : Prop where
  waiters : s.directory.waiters = []
  holders : ∀ ch, (s.entry ch).hold.holder = none
  watchers : ∀ ch, (s.entry ch).watchers = noPorts

/-- Nothing but the entries of the Directory differs. -/
def OnlyEntries (s t : State) : Prop :=
  t = { s with directory := { s.directory with entries := t.directory.entries } }

theorem OnlyEntries.trans {s t u : State} (h : OnlyEntries s t) (k : OnlyEntries t u) : OnlyEntries s u := by
  unfold OnlyEntries at *; rw [k, h]

theorem OnlyEntries.outside {s t : State} (h : OnlyEntries s t) :
    t.range = s.range ∧ t.tracks = s.tracks ∧ t.clock = s.clock ∧ t.ports = s.ports := by
  unfold OnlyEntries at h
  rw [h]
  exact ⟨rfl, rfl, rfl, rfl⟩

/-- The stop told to every port, where nothing but the entries and the Supervisor's record changed before it. -/
theorem OnlyEntries.told {s t : State} {r : Supervisor} (h : OnlyEntries (s.setSafety r) t) (detail : Nat) :
    t.tellSafety detail = { s with
      safety := (t.tellSafety detail).safety
      directory := ⟨(t.tellSafety detail).directory.entries, s.directory.waiters, s.directory.arrivals⟩
      ports := (t.tellSafety detail).ports } := by
  have told : ∀ u : State, u.tellSafety detail = { u with ports := (u.tellSafety detail).ports } := fun _ => rfl
  unfold OnlyEntries at h
  rw [told, h]
  rfl

section Deserted

variable {s : State} (h : s.Deserted)
include h

theorem State.Deserted.safeChannel_eq (ch : Fin 177) :
    s.safeChannel ch = s.setEntry ch { s.entry ch with hold := .safed, slot := none } := by
  have lost : s.postLost ch 2 = s := by rw [State.postLost, h.holders]
  have dropped : s.dropWaiters ch 2 = s := by
    rw [State.dropWaiters, State.waitersOf, h.waiters]
    rfl
  have quiet : ∀ (u : State) k subject detail, u.postTo noPorts k subject detail = u := fun _ _ _ _ => rfl
  have own : (s.setEntry ch { s.entry ch with hold := .safed, slot := none }).entry ch =
      { s.entry ch with hold := .safed, slot := none } := State.entry_setEntry_self ..
  rw [State.safeChannel, lost, dropped, State.tellWatchers, own, h.watchers, quiet]

theorem State.Deserted.safeChannel (ch : Fin 177) : (s.safeChannel ch).Deserted := by
  rw [h.safeChannel_eq]
  have entry : ∀ c, ((s.setEntry ch { s.entry ch with hold := .safed, slot := none }).entry c).hold.holder = none
      ∧ ((s.setEntry ch { s.entry ch with hold := .safed, slot := none }).entry c).watchers = noPorts := fun c => by
    by_cases own : ch = c
    · subst own
      rw [State.entry_setEntry_self]
      exact ⟨rfl, h.watchers ch⟩
    · rw [State.entry_setEntry_ne _ _ own]
      exact ⟨h.holders c, h.watchers c⟩
  exact ⟨h.waiters, fun c => (entry c).1, fun c => (entry c).2⟩

end Deserted

theorem foldl_safeChannel_onlyEntries (l : List (Fin 177)) {s : State} (h : s.Deserted) :
    OnlyEntries s (l.foldl State.safeChannel s) := by
  induction l generalizing s with
  | nil => exact rfl
  | cons ch l ih =>
    have first : OnlyEntries s (s.safeChannel ch) := by rw [h.safeChannel_eq]; exact rfl
    exact first.trans (ih (h.safeChannel ch))

/-! ## The emergency stop line found asserted (08 R141, R153) -/

section Asserted

variable (s : State) (held : PerPort Bool)

theorem State.startedUp_deserted : (s.startedUp held).Deserted := by
  refine ⟨rfl, fun ch => ?_, fun ch => ?_⟩ <;> rw [State.startedUp_entry] <;> rfl

/-- The state in which the line asserted is met. -/
def State.estopFound : State :=
  (s.startedUp held).setSafety { (s.startedUp held).safety with estopAsserted := true }

/-- The entries of the Directory once every jet and fixture channel is SAFED. -/
def State.safedAtReset : State :=
  ((s.estopFound held).setSafety ((s.estopFound held).safety.stoppingFor .estop)).directorySafetyEntry

theorem State.safedAtReset_entries : OnlyEntries
    ((s.estopFound held).setSafety ((s.estopFound held).safety.stoppingFor .estop)) (s.safedAtReset held) := by
  obtain ⟨waiters, holders, watchers⟩ := s.startedUp_deserted held
  exact foldl_safeChannel_onlyEntries stageChannels ⟨waiters, holders, watchers⟩

theorem State.eachTrack_of_idle {u : State} (idle : ∀ k, u.track k = none) : u.eachTrack State.safeTrack = u := by
  have still : ∀ k, u.safeTrack k = u := fun k => by rw [State.safeTrack, idle k]
  have all : ∀ l : List (Fin 4), l.foldl State.safeTrack u = u := fun l => by
    induction l with
    | nil => rfl
    | cons k l ih => rw [List.foldl_cons, still, ih]
  exact all _

theorem State.rangeSafetyEntry_of_idle {u : State} (idle : u.range.active = none) : u.rangeSafetyEntry = u := by
  rw [State.rangeSafetyEntry, idle]

theorem State.clockSafetyEntry_of_stopped {u : State} (clock : u.clock = ClockUnit.reset) : u.clockSafetyEntry = u := by
  have stopped : u.clock.stop = u.clock := by rw [clock]; rfl
  have same : u.setClock u.clock = u := rfl
  rw [State.clockSafetyEntry, stopped, same]

theorem State.powerOn_asserted_enters : s.powerOn true held = (s.estopFound held).enterStopping .estop := by
  have enters : (s.startedUp held).assertEstop = (s.estopFound held).enterStopping .estop :=
    State.assertEstop_enters rfl rfl rfl
  rw [State.powerOn_eq, if_pos rfl, enters]

theorem State.startedUp_idle (k : Fin 4) : (s.startedUp held).track k = none := Table.get_fill none k

theorem State.powerOn_asserted : s.powerOn true held = (s.safedAtReset held).tellSafety 1 := by
  obtain ⟨range, tracks, clock, -⟩ := (s.safedAtReset_entries held).outside
  have inactive : (s.safedAtReset held).range.active = none := by rw [range]; rfl
  have idle : ∀ k, (s.safedAtReset held).track k = none := fun k => by
    rw [State.track, tracks]
    exact s.startedUp_idle held k
  have taken : (s.estopFound held).takenForStop .estop =
      ((s.safedAtReset held).rangeSafetyEntry).eachTrack State.safeTrack := rfl
  rw [State.powerOn_asserted_enters, State.enterStopping_eq, taken, State.rangeSafetyEntry_of_idle inactive,
    State.eachTrack_of_idle idle, State.clockSafetyEntry_of_stopped clock]
  rfl

theorem State.tellSafety_port (u : State) (detail : Nat) (p : Port) :
    (u.tellSafety detail).port p = (u.port p).receive ⟨.safetyState, 255, detail, u.clock.value, .none⟩ := by
  cases p <;> rfl

theorem State.powerOn_asserted_stands : s.powerOn true held = { s.startedUp held with
    safety := (s.powerOn true held).safety, directory := ⟨(s.powerOn true held).directory.entries, [], 1⟩
    ports := (s.powerOn true held).ports } := by
  rw [s.powerOn_asserted held]
  exact (s.safedAtReset_entries held).told 1

theorem State.powerOn_asserted_port (p : Port) : (s.powerOn true held).port p =
    ⟨.ready, none, [⟨.safetyState, 255, 1, 0, .none⟩], false, held.get p⟩ := by
  obtain ⟨-, -, clock, ports⟩ := (s.safedAtReset_entries held).outside
  have value : (s.safedAtReset held).clock.value = 0 := by rw [clock]; rfl
  have own : (s.safedAtReset held).port p = LinkPort.reset (held.get p) := by
    rw [State.port, ports]
    cases p <;> rfl
  rw [s.powerOn_asserted held, State.tellSafety_port, value, own]
  rfl

theorem State.powerOn_asserted_safety : (s.powerOn true held).safety =
    { Supervisor.reset.stoppingFor .estop with estopAsserted := true } := by
  rw [State.powerOn_asserted_enters, State.enterStopping_safety]
  rfl

theorem State.powerOn_asserted_entry (ch : Fin 177) : (s.powerOn true held).entry ch =
    ⟨if ch.val < 176 then .safed else .free, noPorts, none⟩ := by
  have found : (s.estopFound held).entry ch = ChannelEntry.reset := s.startedUp_entry held ch
  rw [State.powerOn_asserted_enters, State.enterStopping_entry, found]
  split_ifs <;> rfl

end Asserted

/-- Settles O5: every block by its value at start-up, the image by its checks, and the asserted line as the first stop. -/
theorem powerOnReset : Obligations.PowerOnReset := by
  unfold Obligations.PowerOnReset
  intro s held
  have released : exec (.powerOnReset false held) s = .next (s.startedUp held) := rfl
  refine ⟨⟨s.startedUp held, released, ⟨rfl, rfl, rfl⟩, s.startedUp_entry held, ⟨rfl, rfl, rfl⟩,
    ⟨rfl, s.startedUp_idle held⟩, rfl, fun j => Table.get_fill _ j, fun h => Table.get_fill _ h, rfl,
    fun f => Table.get_fill _ f, fun n => ?_, rfl, rfl, fun p => by cases p <;> rfl, ⟨rfl, rfl⟩,
    fun idle => State.imageAtReset_idle idle,
    fun saving => State.startedUp_as (State.imageAtReset_saving saving) (startUp_refused rfl),
    fun idle blank => State.startedUp_as ((State.imageAtReset_idle idle).trans blank) (startUp_refused rfl),
    fun idle spoiled => State.startedUp_as ((State.imageAtReset_idle idle).trans spoiled) (startUp_refused rfl),
    fun format g crc idle written => ?_⟩, s.powerOn true held, exec_powerOnReset s true held,
    s.powerOn_asserted_safety held, s.powerOn_asserted_entry held, s.powerOn_asserted_port held, s.startedUp held, released,
    s.powerOn_asserted_stands held⟩
  · have node : (s.startedUp held).node n = .fresh ((s.startedUp held).config.nodes.get n) := Table.get_build _ n
    rw [node, NodeRecord.fresh_eq]
  · have found := (State.imageAtReset_idle idle).trans written
    exact ⟨fun bad => State.startedUp_as found (startUp_refused (Image.good_eq_none bad)), fun code sum range safety =>
      ⟨fun valid => State.startedUp_as found (startUp_loads code sum range safety valid),
        fun fault => State.startedUp_as found (startUp_invalid code sum range safety fault)⟩⟩

end Sys2Proof.Machine
